-- ==== Sys2Proof/Word.lean ====
section
/-! DEFINITION. The byte type, and the plainest arithmetic shared by every block. -/

namespace Sys2Proof

/-- One byte of a frame or of sample memory. -/
abbrev Byte := BitVec 8

/-- A 16-bit counter or lap number that wraps (R10, R54, R200). -/
abbrev Half := BitVec 16

/-- A 32-bit marker code, label or CRC (R5, R194, R154). -/
abbrev Code := BitVec 32

/-- A count that stops at its top value instead of wrapping. -/
def bump (top n : Nat) : Nat := min top (n + 1)

/-- The quotient rounded up ("ceiling" of the Conventions), 0 for a divisor of 0. -/
def ceilDiv (a b : Nat) : Nat := (a + b - 1) / b

/-- An integer set to `lo` below it and to `hi` above it. -/
def clampInt (lo hi x : Int) : Int := max lo (min hi x)

end Sys2Proof
end

