-- ==== Sys2Proof/Config.lean ====
section
/-! DEFINITION. What the part fixes: capacities, fixed times and the limits table of R198. No free
value stands here: the spec leaves no result of a command open (NOTES.md, heading Scope). -/

namespace Sys2Proof

namespace Config

/-- Frames waiting in the receive queue (R205). -/
abbrev rxQueueMax : Nat := 4
/-- OVERRUN replies waiting at the transmitter (R207). -/
abbrev overrunRepliesMax : Nat := 4
/-- Reports in the report queue (R209). -/
abbrev reportMax : Nat := 48
/-- Reports one FETCH REPORTS removes (R211). -/
abbrev fetchMax : Nat := 16
/-- The longest host frame body (R204). -/
abbrev hostBodyMax : Nat := 1100
/-- Path table, marker table and cue list places (R1, R5, R119). -/
abbrev segmentMax : Nat := 512
abbrev markerMax : Nat := 256
abbrev cueMax : Nat := 256
/-- Records in one load request (R2, R5, R121). -/
abbrev runMax : Nat := 64
/-- Seat entries of a seat map (R95). -/
abbrev seatMax : Nat := 16
/-- Reservation table, mailbox and long queue places (R70, R85, R86). -/
abbrev tableMax : Nat := 4
abbrev mailboxMax : Nat := 4
abbrev longMax : Nat := 16
/-- Acknowledgement table places (R129). -/
abbrev ackMax : Nat := 8
/-- Write stage blocks, verify queue clips (R148, R155). -/
abbrev stageMax : Nat := 8
abbrev verifyMax : Nat := 4
/-- Blocks, bytes a block and bytes of sample memory (R142). -/
abbrev blockCount : Nat := 131072
abbrev blockBytes : Nat := 512
abbrev memoryBytes : Nat := 67108864
/-- The longest clip in samples (R143). -/
abbrev clipSamplesMax : Nat := 33554432
/-- Highest position a load may carry (R5, R121), and the range of P (R3). -/
abbrev positionMax : Nat := 16777214
abbrev lapMin : Nat := 1000
abbrev lapMax : Nat := 16777215
/-- Creep limit (R63), arrival window half width (R38), still count (R13). -/
abbrev creepMax : Nat := 5000
abbrev arrivalWindow : Nat := 250
abbrev stillMax : Nat := 50
/-- Fixed times in ms: guide timer (R15), BEACON (R87), release window (R96), acknowledgement (R130). -/
abbrev guideMs : Nat := 30
abbrev beaconMs : Nat := 100
abbrev releaseMs : Nat := 3000
abbrev ackMs : Nat := 300
/-- Unity voice gain in 1/256 of a Q12 step (R163). -/
abbrev unity : Nat := 1048576

end Config

/-- A set of the 27 numbered limits of R198; limit number n stands at index n - 1. -/
abbrev Limits := Vector Nat 27

namespace Limits

/-- The power-on defaults of R198. -/
def defaults : Limits :=
  #v[1024, 0, 300, 20000, 200, 32, 3000, 25, 300, 10, 8, 20, 8000, 150, 1, 4000, 6000, 500, 250, 40,
     8, 500, 20, 5, 6, 20, 0]

/-- The lowest value of each limit (R198). -/
def lows : Limits :=
  #v[64, 0, 50, 1000, 50, 0, 500, 1, 100, 1, 1, 1, 0, 50, 1, 1000, 500, 100, 50, 10,
     1, 100, 10, 3, 0, 1, 0]

/-- The highest value of each limit (R198). -/
def highs : Limits :=
  #v[65535, 5000, 2000, 100000, 1000, 255, 4500, 500, 1000, 25, 25, 40, 20000, 300, 250, 8000, 20000,
     2000, 1000, 500, 31, 2000, 100, 10, 20, 255, 60]

/-- Whether a value lies in the range of the limit at an index (R198). -/
def inRange (i : Fin 27) (v : Nat) : Bool := decide (lows[i] ≤ v) && decide (v ≤ highs[i])

/-- R7. -/
def odoK (l : Limits) : Nat := l[0]
def readerOffset (l : Limits) : Nat := l[1]
def captureWindow (l : Limits) : Nat := l[2]
def gapLimit (l : Limits) : Nat := l[3]
def rollbackLimit (l : Limits) : Nat := l[4]
def strengthThreshold (l : Limits) : Nat := l[5]
/-- R23. -/
def steerRange (l : Limits) : Nat := l[6]
def steerSlew (l : Limits) : Nat := l[7]
def trackingLimit (l : Limits) : Nat := l[8]
def accelStep (l : Limits) : Nat := l[9]
def brakeStep (l : Limits) : Nat := l[10]
def stopStep (l : Limits) : Nat := l[11]
def horizon (l : Limits) : Nat := l[12]
def creepSpeed (l : Limits) : Nat := l[13]
/-- R69. -/
def vehicleId (l : Limits) : Nat := l[14]
def vehicleLength (l : Limits) : Nat := l[15]
def claimDistance (l : Limits) : Nat := l[16]
def stopMargin (l : Limits) : Nat := l[17]
def claimTimer (l : Limits) : Nat := l[18]
def backoffBase (l : Limits) : Nat := l[19]
def denyLimit (l : Limits) : Nat := l[20]
def linkTimeout (l : Limits) : Nat := l[21]
/-- R96. -/
def roundPeriod (l : Limits) : Nat := l[22]
def confirmRounds (l : Limits) : Nat := l[23]
def travelTolerance (l : Limits) : Nat := l[24]
/-- R148. -/
def stageIdle (l : Limits) : Nat := l[25]
/-- R213, in seconds; 0 turns the host silence timer off. -/
def hostSilence (l : Limits) : Nat := l[26]

/-- The braking deceleration a = 100 b_s of R23, in mm/s². -/
def deceleration (l : Limits) : Nat := 100 * brakeStep l

end Limits

end Sys2Proof
end

