-- ==== Sys2Proof/Syntax.lean ====
section
/-! DEFINITION. The commands: one constructor of `Instr` for each row of spec/opcode_table.json, and
the operand records they carry.

A host request row carries what the body of the frame at the head of the receive queue says
(`Body.fit`), or that the body does not fit its kind (`Body.misfit`, answered MALFORMED by R206): the
spec gives no byte layout for request bodies (log 3). Numbers that a rule range-checks stay unbounded
here, so that the rule's refusal can be met. -/

namespace Sys2Proof

/-- The body of a request (R206): its fields, or a body that does not fit the request's kind. -/
inductive Body (α : Type) where
  | fit (fields : α)
  | misfit
  deriving DecidableEq, Repr

/-! ### Configuration operands -/

/-- A path table record (R1); the start is derived. The load flag has two values (log 54). -/
structure Segment where
  len : Nat
  biasIn : Int
  biasOut : Int
  limit : Nat
  zone : Nat
  load : Bool
  deriving DecidableEq, Repr

/-- A marker table entry (R5). -/
structure Marker where
  code : Code
  pos : Nat
  deriving DecidableEq, Repr

/-- Four values, one for each audio output 0..3. -/
abbrev Routes := Vector Nat 4

/-- R163, R175. -/
inductive HoldPolicy where
  | free | pause | duck
  deriving DecidableEq, Repr

/-- R119. -/
inductive LatePolicy where
  | fireLate | skipLate
  deriving DecidableEq, Repr

/-- R134. -/
inductive OutputOp where
  | set | clear | pulse
  deriving DecidableEq, Repr

/-- The kind of a cue with its parameters, as the cue list holds it (R119, R120). -/
inductive CueKind where
  | voiceStart (voice clip gain : Nat) (routes : Routes) (hold : HoldPolicy) (loop : Bool)
  | voiceStop (voice fade : Nat)
  | voiceGain (voice target ramp : Nat)
  | scene (controller number : Nat) (ack : Bool)
  | output (out : Nat) (op : OutputOp) (time : Nat)
  | flag (index : Nat) (value : Bool)
  deriving DecidableEq, Repr

/-- The kind a CUE LOAD record carries. A hold policy or an operation that is no known code is `none`,
and a kind that is no known code is `unknown` (R121). DESIGN CHOICE (log 54): loop, ack required and the
FLAG value have two values here, so no RANGE refusal arises from them. -/
inductive CueKindIn where
  | voiceStart (voice clip gain : Nat) (routes : Routes) (hold : Option HoldPolicy) (loop : Bool)
  | voiceStop (voice fade : Nat)
  | voiceGain (voice target ramp : Nat)
  | scene (controller number : Nat) (ack : Bool)
  | output (out : Nat) (op : Option OutputOp) (time : Nat)
  | flag (index : Nat) (value : Bool)
  | unknown
  deriving DecidableEq, Repr

/-- A CUE LOAD record (R119, R121); `late` is none for a late policy that is no known code. DESIGN CHOICE
(log 54): the required value of the condition and stop-safe have two values here, so no RANGE refusal
arises from them. -/
structure CueIn where
  id : Nat
  trigger : Nat
  lead : Nat
  kind : CueKindIn
  cond : Option (Nat × Bool)
  late : Option LatePolicy
  stopSafe : Bool
  deriving DecidableEq, Repr

/-- A load request: a start index and a run of records (R2, R5, R121). -/
structure Load (α : Type) where
  start : Nat
  run : List α
  deriving DecidableEq, Repr

/-- A seat map entry (R95). -/
structure SeatEntry where
  addr : Nat
  travel : Byte
  deriving DecidableEq, Repr

/-- A seat map (R95). The empty-seats-must-lock option has two values (log 54). -/
structure SeatMap where
  entries : List SeatEntry
  mustLock : Bool
  clip : Option Nat
  deriving DecidableEq, Repr

/-- SET MIX (R181). -/
structure MixReq where
  masters : Vector Nat 4
  duck : Nat
  deriving DecidableEq, Repr

/-- SET GAINS (R24). -/
structure GainsReq where
  kp : Nat
  kd : Nat
  deriving DecidableEq, Repr

/-! ### Cue, clip and voice operands -/

/-- FLAG SET (R138): the value byte, 0 for false and 1 for true. -/
structure FlagSetReq where
  index : Nat
  value : Nat
  deriving DecidableEq, Repr

/-- FLAG EXCHANGE (R139). -/
structure FlagExchangeReq where
  index : Nat
  expected : Nat
  value : Nat
  deriving DecidableEq, Repr

/-- CLIP DEFINE (R145). -/
structure ClipDefineReq where
  clip : Nat
  start : Nat
  length : Nat
  loopStart : Option Nat
  deriving DecidableEq, Repr

/-- CLIP DATA (R149). -/
structure ClipDataReq where
  clip : Nat
  offset : Nat
  data : List Byte
  deriving DecidableEq, Repr

/-- CLIP SEAL (R154). -/
structure ClipSealReq where
  clip : Nat
  crc : Code
  deriving DecidableEq, Repr

/-- CLIP READ (R157). -/
structure ClipReadReq where
  clip : Nat
  offset : Nat
  count : Nat
  deriving DecidableEq, Repr

/-- VOICE START from the host (R165); an unknown hold policy is `none`. The loop and duckable marks have
two values (log 54). -/
structure VoiceStartReq where
  voice : Nat
  clip : Nat
  gain : Nat
  routes : Routes
  hold : Option HoldPolicy
  loop : Bool
  duckable : Bool
  deriving DecidableEq, Repr

/-- VOICE STOP (R173). -/
structure VoiceStopReq where
  voice : Nat
  fade : Nat
  deriving DecidableEq, Repr

/-- VOICE GAIN (R174). -/
structure VoiceGainReq where
  voice : Nat
  target : Nat
  ramp : Nat
  deriving DecidableEq, Repr

/-! ### Event operands -/

/-- A guide sample (R14). -/
structure GuideSample where
  offset : Int
  strength : Byte
  edge : Bool
  marker : Option Code
  deriving DecidableEq, Repr

/-- The order in which the motion, zone and cue units act on one position update. R8 gives none; the
sender of the command chooses (log 5). -/
inductive UnitOrder where
  | motionZoneCue | motionCueZone | zoneMotionCue | zoneCueMotion | cueMotionZone | cueZoneMotion
  deriving DecidableEq, Repr

/-- DENY reasons (R74, R75). -/
inductive DenyReason where
  | busy | closed
  deriving DecidableEq, Repr

/-- The commands, one for each row of spec/opcode_table.json, in the table's order. A wayside frame row
carries the frame's destination byte and fields; the source byte bears on nothing (log 30). -/
inductive Instr where
  /-- POWER_ON (R202): the strap level and the sensed ESTOP input. -/
  | powerOn (fast estop : Bool)
  /-- HOST_FRAME_RECEIVED (R204): the bytes the line brings the framer. -/
  | hostFrameReceived (bytes : List Byte)
  /-- BREAK (R214). -/
  | lineBreak
  | hostSilenceTimeout
  | replySent
  | unknownKind
  | beginConfig (b : Body Unit)
  | pathLoad (b : Body (Load Segment))
  | markerLoad (b : Body (Load Marker))
  | cueLoad (b : Body (Load CueIn))
  | seatMap (b : Body SeatMap)
  | limits (b : Body (List (Nat × Nat)))
  | setMix (b : Body MixReq)
  | setGains (b : Body GainsReq)
  | commit (b : Body Code)
  | restart (b : Body Unit)
  | enableDrive (b : Body Unit)
  | disableDrive (b : Body Unit)
  | dispatch (b : Body Unit)
  | hold (b : Body Unit)
  | resume (b : Body Unit)
  | stop (b : Body Unit)
  | clearStop (b : Body Unit)
  | creep (b : Body Unit)
  | setPosition (b : Body Nat) (order : UnitOrder)
  | reclaim (b : Body Nat)
  | zoneStatus (b : Body Unit)
  | check (b : Body Unit)
  | release (b : Body Unit)
  | seatStatus (b : Body Unit)
  | flagSet (b : Body FlagSetReq)
  | flagExchange (b : Body FlagExchangeReq)
  | cueStatus (b : Body Unit)
  | clipDefine (b : Body ClipDefineReq)
  | clipData (b : Body ClipDataReq)
  | clipSeal (b : Body ClipSealReq)
  | clipRead (b : Body ClipReadReq)
  | clipErase (b : Body Nat)
  /-- CLIP STATUS (R161): a clip number, or none for ALL. -/
  | clipStatus (b : Body (Option Nat))
  | voiceStart (b : Body VoiceStartReq)
  | voiceStop (b : Body VoiceStopReq)
  | voiceGain (b : Body VoiceGainReq)
  | mixStatus (b : Body Unit)
  | faults (b : Body Unit)
  | clearFaults (b : Body Unit)
  | status (b : Body Unit)
  | fetchReports (b : Body Unit)
  /-- ODOMETER_COUNT (R9): one encoder step, forward or backward. -/
  | odometerCount (forward : Bool)
  | guideSample (g : GuideSample) (order : UnitOrder)
  | guideTimeout
  /-- FEEDBACK (R40): the frame's bytes. -/
  | feedback (frame : List Byte)
  | estopAsserted
  | estopReleased
  /-- WAYSIDE_FRAME_DISCARD (R89): the frame's bytes. -/
  | waysideFrameDiscard (frame : List Byte)
  /-- WAYSIDE_UNKNOWN_KIND (R89): the frame's bytes. -/
  | waysideUnknownKind (frame : List Byte)
  | grant (dest zone tag : Byte)
  | deny (dest zone tag : Byte) (reason : DenyReason)
  | zoneFree (dest zone : Byte)
  | released (dest zone tag : Byte)
  | revoke (dest zone : Byte)
  | linkCheck (dest : Byte)
  | waysideDispatch (dest : Byte)
  | rideHold (dest : Byte)
  | rideResume (dest : Byte)
  | waysideCheck (dest : Byte)
  | showFlag (dest index : Byte) (value : Bool)
  | cueAck (dest : Byte) (cueId : Half) (tag : Byte)
  | claimTimerExpiry (zone : Nat)
  | backoffTimerExpiry (zone : Nat)
  | releaseTimerExpiry (zone : Nat)
  | linkTimeout
  | beacon
  | waysideTransmit
  | ackTimerExpiry (cueId : Nat) (tag : Byte)
  | pulseExpiry (out : Fin 8)
  | pollRoundStart
  /-- SEAT_TRANSACTION (R99): the 24 response bits drawn by the round's next address. -/
  | seatTransaction (response : BitVec 24)
  | roundEnd
  /-- SEAT_LOOP_CLOSING_ROUND (R97): the responses drawn, in order of transaction. -/
  | seatLoopClosingRound (responses : List (BitVec 24))
  | releaseWindowExpiry
  | stageIdleExpiry
  | arbiterChoice
  | commitBurstComplete
  | readBackBurstComplete
  | verifyBlockComplete
  | refillComplete
  | sampleTick
  | waysideFrameSent
  deriving DecidableEq, Repr

end Sys2Proof
end

