-- ==== Sys2Proof/Machine/State.lean ====
section
/-! DEFINITION. The state of the part as plain data: one record for each block of 00_scope.md, the
frames, replies and reports the blocks exchange, and the state after power-on (`State.reset`). -/

namespace Sys2Proof.Machine

/-- A timer in ms: stopped, running with the time left, or expired until something restarts it. Time
passes only in steps on an empty queue (log 2). -/
inductive Timer where
  | stopped
  | running (left : Nat)
  | expired
  deriving DecidableEq, Repr

/-! ### Guidance unit -/

/-- R16 to R20. -/
inductive PosState where
  | unlocated | located | doubt | lost
  deriving DecidableEq, Repr

/-- The position estimate (R20). -/
structure Estimate where
  front : Nat
  frac : Nat
  lap : Half
  speed : Int
  rollback : Nat
  since : Nat
  lastMarker : Option Code
  lastCorrection : Int
  mismatch : Nat
  posState : PosState
  deriving DecidableEq, Repr

/-- The guide sample state (R14). -/
structure GuideReading where
  e : Int
  ePrev : Int
  weak : Nat
  strength : Nat
  edge : Bool
  deriving DecidableEq, Repr

/-- The steering fields (R28, R29). -/
structure Steering where
  delta : Int
  ff : Int
  fb : Int
  raw : Int
  saturated : Bool
  deriving DecidableEq, Repr

structure Guidance where
  path : List Segment
  markers : List Marker
  est : Estimate
  reading : GuideReading
  odo : Int
  timer : Timer
  steer : Steering
  gains : GainsReq
  deriving DecidableEq, Repr

/-! ### Fault unit -/

inductive FaultCode where
  | f01 | f02 | f03 | f04 | f05 | f06 | f07 | f08 | f09 | f10 | f11
  | f12 | f13 | f14 | f15 | f16 | f17 | f18 | f19 | f20 | f21
  deriving DecidableEq, Repr

/-- R184. -/
inductive FaultClass where
  | stop | hold | note
  deriving DecidableEq, Repr

/-- Why a check ended (R111). -/
inductive CheckCause where
  | none | rejected | module | occupancy | release | stop | motion
  deriving DecidableEq, Repr

/-- Why the position was lost (R185, F04). -/
inductive LostCause where
  | mismatch | gap
  deriving DecidableEq, Repr

/-- The detail of a raising (R185). -/
inductive FaultDetail where
  | none
  | strength (v : Nat)
  | positionLost (cause : LostCause) (marker : Option Code)
  | rollback (mm : Nat)
  | tracking (actual delta : Int)
  | driveCode (code : Byte)
  | sequence (seq : Byte)
  | zone (z : Nat)
  | link
  | seat (addr : Nat)
  | check (cause : CheckCause)
  | voiceClip (voice : Nat) (clip : Nat)
  | clipCrc (clip : Nat) (computed expected : Code)
  | marker (code : Code)
  | cue (id : Nat)
  deriving DecidableEq, Repr

/-- A fault table record (R184). -/
structure FaultRecord where
  active : Bool
  latched : Bool
  cls : FaultClass
  count : Nat
  detail : FaultDetail
  deriving DecidableEq, Repr

/-- The fault summary (R191). -/
structure FaultSummary where
  code : Option FaultCode
  multiple : Bool
  deriving DecidableEq, Repr

/-- The fault table: record of Fnn at index nn - 1. -/
structure FaultUnit where
  table : Vector FaultRecord 21
  deriving DecidableEq, Repr

/-! ### Motion unit -/

inductive MotionState where
  | parked | hold | run | creep | stopping | stopped | estop
  deriving DecidableEq, Repr

/-- R59. -/
inductive StopCause where
  | request
  | fault (code : FaultCode)
  deriving DecidableEq, Repr

/-- The stop record (R59). -/
structure StopRecord where
  first : StopCause
  left : MotionState
  front : Nat
  lap : Half
  speed : Nat
  further : Nat
  deriving DecidableEq, Repr

/-- The motion record (R47); `resumeRun` is the resume target RUN. -/
structure MotionRecord where
  state : MotionState
  resumeRun : Bool
  creepDist : Nat
  dispatchCount : Half
  stopRec : Option StopRecord
  paused : Bool
  estopIn : Bool
  deriving DecidableEq, Repr

/-- Which term set the speed target (R35). -/
inductive Setter where
  | none | segmentCap | lookAhead (segment : Nat) | holdPoint | stationStop | motionCap | driveCap
  deriving DecidableEq, Repr

/-- The speed fields (R35); `demand` is also v_prev. -/
structure SpeedRecord where
  demand : Nat
  target : Nat
  holdDist : Option Int
  setter : Setter
  deriving DecidableEq, Repr

/-- What is remembered of the last DEMAND sent (R39). -/
structure SentDemand where
  seq : Byte
  delta : Int
  enable : Bool
  answered : Bool
  deriving DecidableEq, Repr

/-- The drive link (R39 to R43); `frame` is what the drive port last carried. -/
structure DriveLink where
  seq : Byte
  last : Option SentDemand
  miss : Nat
  track : Nat
  actual : Int
  ready : Bool
  fault : Byte
  discards : Nat
  frame : Option (List Byte)
  deriving DecidableEq, Repr

structure Motion where
  record : MotionRecord
  speed : SpeedRecord
  drive : DriveLink
  still : Nat
  standstill : Bool
  /-- The station-stop arming flag with its lap (R36). -/
  armed : Option Half
  deriving DecidableEq, Repr

/-! ### Zone unit -/

/-- One zone of the zone map (R68). -/
structure ZoneInfo where
  zone : Nat
  entry : Nat
  exit : Nat
  ahead : Nat
  deriving DecidableEq, Repr

/-- R70. -/
inductive ResState where
  | requested | held | waiting | closed | releasing
  deriving DecidableEq, Repr

/-- The one timer of an entry, with the time left (R70). -/
inductive ResTimer where
  | stopped
  | claim (left : Nat)
  | release (left : Nat)
  | backoff (left : Nat)
  deriving DecidableEq, Repr

/-- A reservation table entry (R70). -/
structure Reservation where
  zone : Nat
  state : ResState
  tag : Byte
  deny : Nat
  resend : Nat
  timer : ResTimer
  outstanding : Bool
  failed : Bool
  sendDue : Bool
  deriving DecidableEq, Repr

/-- Mailbox frames (R85). -/
inductive MailFrame where
  | claim (zone : Nat) (tag : Byte)
  | release (zone : Nat) (tag : Byte)
  | returnRelease (zone : Nat) (tag : Byte)
  | vehicleReset
  deriving DecidableEq, Repr

/-- A waiting mailbox frame and the zone of the entry that put it, if one did. -/
structure Mail where
  owner : Option Nat
  frame : MailFrame
  deriving DecidableEq, Repr

/-- REVOKE-REFUSE reasons (R82). -/
inductive RefuseReason where
  | unknown | committed
  deriving DecidableEq, Repr

/-- The content of a SCENE CUE frame (R129); `sends` is 1 for the first frame of its cue and 2 for the
resend (R132), and is not sent. -/
structure SceneFrame where
  controller : Nat
  number : Nat
  cueId : Nat
  tag : Byte
  late : Bool
  ack : Bool
  sends : Nat
  deriving DecidableEq, Repr

/-- The content of a BEACON frame, the vehicle id among it, as all stood when it was built (R87). -/
structure BeaconFrame where
  vehicle : Nat
  front : Nat
  lap : Half
  speed : Int
  demand : Nat
  motion : MotionState
  posState : PosState
  held : List Nat
  deriving DecidableEq, Repr

/-- Long queue frames (R86). -/
inductive LongFrame where
  | scene (f : SceneFrame)
  | beacon (f : BeaconFrame)
  | revokeAccept (zone : Nat)
  | revokeRefuse (zone : Nat) (reason : RefuseReason)
  deriving DecidableEq, Repr

/-- A frame taken from a transmit queue (R88). -/
inductive WaysideOut where
  | mail (f : MailFrame)
  | long (f : LongFrame)
  deriving DecidableEq, Repr

/-- The frame the wayside transmitter is sending (R88) and the vehicle id it carries as its source
(R216). The id is held with the frame, since the transmitter finishes a frame across BEGIN CONFIG (R88)
and a COMMIT may then change the id. -/
structure WaysideSending where
  source : Nat
  frame : WaysideOut
  deriving DecidableEq, Repr

/-- R90. -/
inductive LinkState where
  | stopped | starting | up | lost
  deriving DecidableEq, Repr

/-- The hold point and the zone that set it (R81). -/
structure HoldPoint where
  pos : Nat
  zone : Nat
  deriving DecidableEq, Repr

/-- The five counts of the zone unit (R85, R86, R87, R89). -/
structure ZoneCounts where
  returnLost : Nat
  longDrops : Nat
  beaconSkips : Nat
  discards : Nat
  stale : Nat
  deriving DecidableEq, Repr

structure ZoneUnit where
  zmap : List ZoneInfo
  table : List Reservation
  tagCtr : Byte
  mailbox : List Mail
  long : List LongFrame
  sending : Option WaysideSending
  /-- The queue taken from last: true for the mailbox (R88). -/
  tookMailbox : Bool
  link : LinkState
  linkTimer : Timer
  /-- Time since the last valid frame, none before the first; it runs on while the link is stopped
  (R90). -/
  sinceFrame : Option Nat
  beaconTimer : Timer
  hold : Option HoldPoint
  counts : ZoneCounts
  deriving DecidableEq, Repr

/-! ### Seat unit -/

/-- Debounced occupancy (R101). -/
inductive Occupancy where
  | unknown | yes | no
  deriving DecidableEq, Repr

/-- R100. -/
inductive SeatState where
  | unknown | isOpen | locked | checking | checked | alarm | fault
  deriving DecidableEq, Repr

/-- A seat record (R100). -/
structure SeatRecord where
  addr : Nat
  occupied : Occupancy
  runCount : Nat
  runValue : Bool
  travel : Nat
  lockA : Bool
  lockB : Bool
  state : SeatState
  miss : Nat
  disagree : Nat
  alarm : Nat
  recovery : Nat
  travelLimit : Nat
  lamp : Bool
  lampPending : Bool
  latchPending : Bool
  lastCounter : Option Nat
  /-- Last clean read: none, or whether it read locked (R99). -/
  lastClean : Option Bool
  deriving DecidableEq, Repr

/-- R97. -/
inductive LoopState where
  | stopped | started | closing
  deriving DecidableEq, Repr

/-- The poll round in progress: addresses still to poll, and whether it is a confirm round (R110). -/
structure Round where
  remaining : List Nat
  confirm : Bool
  deriving DecidableEq, Repr

/-- Who asked (R50, R54, R108). -/
inductive CommandSource where
  | host | wayside
  deriving DecidableEq, Repr

/-- A running check (R109, R110). -/
structure Check where
  source : CommandSource
  set : List Nat
  rejected : List Nat
  rounds : Nat
  deriving DecidableEq, Repr

/-- Why the permit was cleared, with the seat where a seat caused it (R113). -/
inductive PermitCause where
  | powerOn | restart | commit | beginConfig | checkStarted | release
  | leftChecked (addr : Nat)
  | occupancy (addr : Nat)
  deriving DecidableEq, Repr

/-- The three loop counts (R99). -/
structure LoopCounts where
  transactions : Nat
  failed : Nat
  stuck : Nat
  deriving DecidableEq, Repr

structure SeatUnit where
  records : List SeatRecord
  loop : LoopState
  roundTimer : Timer
  round : Option Round
  check : Option Check
  permit : Bool
  permitCause : PermitCause
  /-- The release window: running while active (R115). -/
  window : Timer
  counts : LoopCounts
  /-- The command the loop last carried (R98). -/
  command : Option Byte
  deriving DecidableEq, Repr

/-! ### Cue unit -/

/-- How a cue was last dealt with (R119). -/
inductive CueOutcome where
  | fired | firedLate | skippedStop | skippedLate | skippedCondition | missed | passedOver
  | startFailed | notSent | ackedOnResend | unacknowledged | ackUntracked
  deriving DecidableEq, Repr

/-- A cue record (R119); `last` is the last outcome with its lap. -/
structure Cue where
  id : Nat
  trigger : Nat
  lead : Nat
  kind : CueKind
  cond : Option (Nat × Bool)
  late : LatePolicy
  stopSafe : Bool
  last : Option (CueOutcome × Half)
  deriving DecidableEq, Repr

/-- An effect output (R133). -/
inductive OutputState where
  | off
  | on
  | pulsing (left : Nat)
  deriving DecidableEq, Repr

/-- The stage of an acknowledgement entry; WAITING runs the timer (R130). -/
inductive AckStage where
  | queued
  | waiting (left : Nat)
  deriving DecidableEq, Repr

/-- An acknowledgement table entry (R129). -/
structure AckEntry where
  cueId : Nat
  tag : Byte
  controller : Nat
  number : Nat
  late : Bool
  sends : Nat
  stage : AckStage
  deriving DecidableEq, Repr

structure CueUnit where
  cues : List Cue
  pointer : Nat
  lap : Half
  flags : Vector Bool 32
  outputs : Vector OutputState 8
  acks : List AckEntry
  sceneTag : Byte
  staleAcks : Nat
  untracked : Nat
  deriving DecidableEq, Repr

/-! ### Clip store -/

/-- The states of a clip that is not EMPTY (R143). -/
inductive ClipState where
  | loading | verifying | ready | bad
  deriving DecidableEq, Repr

/-- A directory entry that is not EMPTY (R143). -/
structure Clip where
  state : ClipState
  start : Nat
  length : Nat
  loopStart : Option Nat
  crc : Option Code
  plays : Nat
  deriving DecidableEq, Repr

/-- The block count, ceiling(length / 256) (R143). -/
def Clip.blocks (c : Clip) : Nat := (c.length + 255) / 256

/-- A block in the write stage (R148). -/
structure StagedBlock where
  clip : Nat
  offset : Nat
  data : List Byte
  committing : Bool
  deriving DecidableEq, Repr

structure WriteStage where
  blocks : List StagedBlock
  runClip : Option Nat
  next : Nat
  idle : Timer
  deriving DecidableEq, Repr

/-- A commit request: a write of consecutive blocks from memory block `mem` (R148, R153). -/
structure CommitReq where
  clip : Nat
  offset : Nat
  mem : Nat
  data : List (List Byte)
  deriving DecidableEq, Repr

/-- A voice refill request (R169). -/
structure RefillReq where
  offset : Nat
  mem : Nat
  count : Nat
  deriving DecidableEq, Repr

/-- A read-back request, for a CLIP READ or for the prefetch (R157, R158). -/
structure ReadReq where
  clip : Nat
  offset : Nat
  mem : Nat
  count : Nat
  prefetch : Bool
  deriving DecidableEq, Repr

/-- The burst the memory port is serving (R159). -/
inductive Burst where
  | refill (voice : Fin 8) (r : RefillReq)
  | commit (r : CommitReq)
  | readBack (r : ReadReq)
  | verify (clip mem : Nat)
  deriving DecidableEq, Repr

/-- A burst in progress; `dropped` once its requester has withdrawn it (R160). -/
structure Port where
  burst : Burst
  dropped : Bool
  deriving DecidableEq, Repr

/-- The memory arbiter (R159). -/
structure Arbiter where
  refills : Vector (Option RefillReq) 8
  commits : List CommitReq
  readBack : Option ReadReq
  /-- The verify request: the head clip and the memory block to read. -/
  verify : Option (Nat × Nat)
  port : Option Port
  lastVoice : Fin 8
  deriving DecidableEq, Repr

/-- The read-back buffer (R158). -/
inductive ReadBuffer where
  | empty
  | fetching (clip offset count : Nat)
  | full (clip offset : Nat) (data : List (List Byte))
  deriving DecidableEq, Repr

/-- The verify queue and the head clip's progress (R155). -/
structure VerifyState where
  queue : List Nat
  next : Nat
  crc : Code
  deriving DecidableEq, Repr

structure ClipStore where
  mem : List Host.Cell
  dir : Vector (Option Clip) 512
  stage : WriteStage
  verify : VerifyState
  buffer : ReadBuffer
  arb : Arbiter
  busy : Nat
  deriving DecidableEq, Repr

/-! ### Voice engine -/

/-- R164. -/
inductive VoiceState where
  | idle | priming | playing | paused | releasing
  deriving DecidableEq, Repr

/-- Who started a voice (R163). -/
inductive Source where
  | cue (id : Nat) (late : Bool)
  | host
  | announce
  deriving DecidableEq, Repr

/-- A start record (R163). -/
structure StartRec where
  clip : Nat
  gain : Nat
  routes : Routes
  hold : HoldPolicy
  loop : Bool
  duckable : Bool
  announce : Bool
  source : Source
  deriving DecidableEq, Repr

/-- A voice record (R163). `ring` holds whole blocks as memory held them; `cursor` is none when
finished. -/
structure Voice where
  state : VoiceState
  clip : Option Nat
  start : Nat
  length : Nat
  blocks : Nat
  loopStart : Option Nat
  pos : Nat
  gain : Nat
  target : Nat
  step : Nat
  routes : Routes
  hold : HoldPolicy
  loop : Bool
  duckable : Bool
  announce : Bool
  source : Option Source
  pausePending : Bool
  sounding : Bool
  ring : List (List Byte)
  cursor : Option Nat
  refill : Bool
  pend : Option StartRec
  underrun : Bool
  underruns : Nat
  deriving DecidableEq, Repr

structure VoiceEngine where
  voices : Vector Voice 8
  paused : Bool
  alarm : Bool
  masters : Vector Nat 4
  duck : Nat
  clips : Vector Nat 4
  /-- The four slots of the audio frame last sent (R180). -/
  frame : Vector (BitVec 16) 4
  deriving DecidableEq, Repr

/-! ### Configuration unit -/

inductive ConfigState where
  | empty | configuring | ready
  deriving DecidableEq, Repr

/-- The table a failed COMMIT names (R199). -/
inductive TableName where
  | path | markers | limits | seatMap | cues
  deriving DecidableEq, Repr

inductive CommitResult where
  | none
  | pass
  | fail (table : TableName) (index : Nat)
  deriving DecidableEq, Repr

/-- The configuration record (R194). -/
structure ConfigRecord where
  state : ConfigState
  label : Code
  count : Half
  last : CommitResult
  deriving DecidableEq, Repr

structure ConfigUnit where
  record : ConfigRecord
  loaded : Limits
  committed : Limits
  loadedMap : SeatMap
  committedMap : SeatMap
  deriving DecidableEq, Repr

/-! ### Reports -/

inductive StateKind where
  | position | motionState | zoneStatus | seatState | underrun | flags | faultSummary | configState
  deriving DecidableEq, Repr

inductive ResultClass where
  | done | qualified | refused | invalid
  deriving DecidableEq, Repr

/-- The detail codes of the Layouts section. -/
inductive Detail where
  | done | already | started | pending | failed | clamped | different
  | state | config | estop | fault | position | standstill | permit | loadZone | noTarget | running
  | release | overlap | inUse | verifying | busy | queueFull | reserved | notReady | overrun
  | malformed | unknownKind | range | short | path | markers | limits | seatMap | cues
  deriving DecidableEq, Repr

inductive MarkerOutcome where
  | unknown | locate | mismatch
  deriving DecidableEq, Repr

inductive MotionCommand where
  | dispatch | rideHold | rideResume
  deriving DecidableEq, Repr

inductive CreepOutcome where
  | found (marker : Code) (correction : Int)
  | limit (dist : Nat)
  | held
  | stopped
  deriving DecidableEq, Repr

/-- The ZONE report's outcome with what it carries (R74 to R91). -/
inductive ZoneReport where
  | waiting (zone : Nat)
  | closed (zone : Nat)
  | claimTimeout (zone : Nat)
  | releaseTimeout (zone : Nat)
  | unexpectedGrant (zone : Nat) (tag : Byte)
  | revoked (zone : Nat)
  | revokeRefused (zone : Nat) (reason : RefuseReason)
  | violation (zone : Nat)
  | returnLost (zone : Nat)
  | linkLost
  deriving DecidableEq, Repr

inductive CheckResult where
  | pass | fail
  | refused (detail : Detail)
  deriving DecidableEq, Repr

/-- Why a CHECKED seat entered ALARM (R105). -/
inductive AlarmTest where
  | locks | travel | missing | disagree
  deriving DecidableEq, Repr

inductive WindowEnd where
  | time | motion
  deriving DecidableEq, Repr

/-- What a CUE report carries beside the cue id and the outcome (R127 to R132); START FAILED, ACK
UNTRACKED and ACKED ON RESEND carry nothing more (log 49). -/
inductive CueReport where
  | taken (index : Nat) (lap : Half) (front speed : Nat)
  | sends (count : Option Nat)
  | scene (controller number : Nat)
  | bare
  deriving DecidableEq, Repr

inductive PlacingCause where
  | set | locate
  deriving DecidableEq, Repr

inductive VoiceEndReason where
  | ended | stopped | preempted
  deriving DecidableEq, Repr

/-- Why a latch was cleared without CLEAR FAULTS (R188). -/
inductive ClearCause where
  | self
  deriving DecidableEq, Repr

inductive RestartCause where
  | powerOn | request
  deriving DecidableEq, Repr

/-- Event reports with the values they are posted with (R209 and the Layouts section). The start of the
release window that RELEASE carries is the window's timer as it starts (R115; log 45). -/
inductive EventReport where
  | marker (outcome : MarkerOutcome) (code : Code) (pos : Nat) (value : Int)
  | motionCommand (command : MotionCommand) (source : CommandSource) (cls : ResultClass)
      (detail : Detail)
  | dispatched (source : CommandSource) (front : Nat) (lap : Half) (count : Half)
  | stopped (record : Option StopRecord)
  | creepEnd (outcome : CreepOutcome)
  | zone (r : ZoneReport)
  | checkResult (source : CommandSource) (result : CheckResult) (cause : CheckCause)
      (set rejected : List Nat) (rounds : Nat)
  | checkInvalidated (addr : Nat) (test : AlarmTest)
  | permitCleared (cause : PermitCause)
  | release (window : Timer)
  | releaseEnd (reason : WindowEnd)
  | cue (id : Nat) (outcome : CueOutcome) (r : CueReport)
  | cueMissed (lap : Half) (count : Nat) (first : Nat)
  | cuePassedOver (cause : PlacingCause) (count first last : Nat)
  | flagRejected (index : Nat) (value : Bool)
  | clipVerified (clip : Nat) (isMatch : Bool) (computed : Code) (expected : Option Code)
  | voiceEnd (voice : Nat) (clip : Option Nat) (reason : VoiceEndReason) (source : Option Source)
      (pos underruns : Nat)
  | voice (voice clip : Nat) (source : Source) (found : Option ClipState)
  | faultRaised (code : FaultCode) (cls : FaultClass) (count : Nat) (detail : FaultDetail)
  | faultCleared (code : FaultCode) (cause : ClearCause)
  | restarted (cause : RestartCause) (config : ConfigState) (label : Code) (count : Half)
  | overflow (dropped : Nat)
  deriving DecidableEq, Repr

/-- A queued report: a state report by kind and source, or an event report (R209). -/
inductive Report where
  | state (kind : StateKind) (source : Nat)
  | event (e : EventReport)
  deriving DecidableEq, Repr

/-- Whether a seat's SEAT STATE fields can be read, and what they are (R117). -/
structure SeatShown where
  addr : Nat
  state : SeatState
  occupied : Occupancy
  lamp : Bool
  travel : Nat
  lockA : Bool
  lockB : Bool
  miss : Nat
  disagree : Nat
  alarm : Nat
  deriving DecidableEq, Repr

/-- A report as FETCH REPORTS returns it: a state report with its owner's values of that moment
(R209, R211). -/
inductive Fetched where
  | position (front : Nat) (lap : Half) (st : PosState) (marker : Option Code) (correction : Int)
  | motionState (st : MotionState) (resumeRun paused standstill : Bool) (dispatches : Half)
      (cause : Option StopCause)
  | zoneStatus (table : List Reservation) (link : LinkState) (hold : Option HoldPoint)
  | seatState (seat : Option SeatShown)
  | underrun (voice : Nat) (clip : Option Nat) (flag : Bool) (samples : Nat)
  | flags (flags : Vector Bool 32)
  | faultSummary (summary : FaultSummary) (cls : Option FaultClass)
  | configState (record : ConfigRecord)
  | event (e : EventReport)
  deriving DecidableEq, Repr

/-! ### Host link unit -/

/-- A valid host frame (R204). -/
structure RxFrame where
  tag : Byte
  kind : Byte
  body : List Byte
  deriving DecidableEq, Repr

/-- A request in hand that waits for memory work (R151, R157, R206). -/
inductive Held where
  | data (f : RxFrame) (clip offset : Nat) (data : List Byte)
  | seal (f : RxFrame) (clip : Nat) (crc : Code)
  | erase (f : RxFrame) (clip : Nat)
  | readFlush (f : RxFrame) (clip offset count : Nat)
  | read (f : RxFrame) (clip offset count : Nat) (buffered : Bool)
  deriving DecidableEq, Repr

/-- The host link counts (R204, R205, R207, R214). -/
structure HostCounts where
  overLong : Nat
  badCrc : Nat
  overrun : Nat
  unanswered : Nat
  breaks : Nat
  deriving DecidableEq, Repr

/-- The ducking causes as MIX STATUS shows them (R177). -/
structure Ducking where
  announcement : Bool
  alarm : Bool
  pause : Bool
  deriving DecidableEq, Repr

/-- STATUS (R208). -/
structure StatusBody where
  config : ConfigRecord
  summary : FaultSummary
  est : Estimate
  reading : GuideReading
  steer : Steering
  gains : GainsReq
  speed : SpeedRecord
  motion : MotionRecord
  standstill : Bool
  drive : DriveLink
  armed : Option Half
  permit : Bool
  permitCause : PermitCause
  hold : Option HoldPoint
  table : List Reservation
  link : LinkState
  flags : Vector Bool 32
  outputs : Vector OutputState 8
  host : HostCounts
  reports : Nat
  dropped : Nat
  silence : Nat
  hostSilent : Bool
  deriving DecidableEq, Repr

/-- ZONE STATUS (R94). -/
structure ZoneStatusBody where
  link : LinkState
  sinceFrame : Option Nat
  table : List Reservation
  mailbox : List Mail
  long : Nat
  hold : Option HoldPoint
  tagCtr : Byte
  counts : ZoneCounts
  zmap : List ZoneInfo
  deriving DecidableEq, Repr

/-- SEAT STATUS (R117). -/
structure SeatStatusBody where
  map : SeatMap
  records : List SeatRecord
  permit : Bool
  permitCause : PermitCause
  check : Option Check
  window : Timer
  counts : LoopCounts
  f11 : Bool
  f13 : Bool
  deriving DecidableEq, Repr

/-- What CUE STATUS shows of a cue (R140). -/
structure CueShown where
  id : Nat
  trigger : Nat
  last : Option (CueOutcome × Half)
  deriving DecidableEq, Repr

/-- CUE STATUS (R140). -/
structure CueStatusBody where
  count : Nat
  pointer : Nat
  lap : Half
  cues : List CueShown
  flags : Vector Bool 32
  outputs : Vector OutputState 8
  acks : List AckEntry
  sceneTag : Byte
  staleAcks : Nat
  untracked : Nat
  deriving DecidableEq, Repr

/-- CLIP STATUS for one clip (R161); no entry for EMPTY. -/
structure ClipStatusBody where
  clip : Nat
  entry : Option Clip
  blocks : Nat
  place : Option Nat
  next : Option Nat
  deriving DecidableEq, Repr

/-- CLIP STATUS for ALL (R161). -/
structure ClipStoreBody where
  empty : Nat
  loading : Nat
  verifying : Nat
  ready : Nat
  bad : Nat
  blocks : Nat
  runClip : Option Nat
  next : Nat
  staged : List (Nat × Bool)
  queue : List Nat
  buffer : ReadBuffer
  arb : Arbiter
  busy : Nat
  stageIdle : Nat
  deriving DecidableEq, Repr

/-- MIX STATUS (R181). -/
structure MixStatusBody where
  voices : Vector Voice 8
  paused : Bool
  ducking : Ducking
  masters : Vector Nat 4
  duck : Nat
  clips : Vector Nat 4
  deriving DecidableEq, Repr

/-- COMMIT that passed (R200). -/
structure CommitBody where
  count : Half
  segments : Nat
  lapLength : Nat
  zones : Nat
  markers : Nat
  cues : Nat
  seats : Nat
  deriving DecidableEq, Repr

/-- The body of a reply after its class and detail. The spec gives no byte layout for these (log 24). -/
inductive ReplyBody where
  | empty
  | path (segments lapLength : Nat)
  | number (n : Nat)
  | index (i : Option Nat)
  | cueLoad (count : Nat) (clamped : Option Nat)
  | commit (b : CommitBody)
  | summary (f : FaultSummary)
  | flag (v : Bool)
  | clipState (c : Option ClipState)
  | staged (blocks next : Nat)
  | read (clip : Nat) (state : Option ClipState) (offset count : Nat) (fromBuffer : Bool)
      (data : List (List Byte))
  | zoneStatus (b : ZoneStatusBody)
  | seatStatus (b : SeatStatusBody)
  | cueStatus (b : CueStatusBody)
  | clipStatus (b : ClipStatusBody)
  | clipStore (b : ClipStoreBody)
  | mixStatus (b : MixStatusBody)
  | faults (records : List (FaultCode × FaultRecord)) (f : FaultSummary)
  | cleared (gone still : List FaultCode) (f : FaultSummary)
  | status (b : StatusBody)
  | reports (returned left : Nat) (rs : List Fetched)
  deriving DecidableEq, Repr

/-- A reply frame (R206). -/
structure Reply where
  tag : Byte
  kind : Byte
  cls : ResultClass
  detail : Detail
  body : ReplyBody
  deriving DecidableEq, Repr

structure HostLink where
  /-- The rate strap: 3 Mbit/s when set, read at power-on. -/
  fast : Bool
  /-- The framer's bytes from its sync byte on; empty while hunting (R204). -/
  framer : List Byte
  rxQueue : List RxFrame
  held : Option Held
  sending : Option Reply
  waiting : List Reply
  reports : List Report
  dropped : Nat
  counts : HostCounts
  silence : Timer
  /-- F18's condition as the host link unit holds it: silent since the timer ran out (R213; log 46). -/
  silent : Bool
  deriving DecidableEq, Repr

/-! ### The whole part -/

/-- The state of the part, with the queue of commands that wait (the model's own field). -/
structure State where
  pending : List Instr
  config : ConfigUnit
  guide : Guidance
  motion : Motion
  zone : ZoneUnit
  seat : SeatUnit
  cue : CueUnit
  clip : ClipStore
  voice : VoiceEngine
  fault : FaultUnit
  host : HostLink
  deriving DecidableEq, Repr

/-- Why the machine stops with a fault. The faults F01 to F21 of the part are effects on State. -/
inductive Fault where
  /-- Raised by the burst completions when a burst names a block past the end of sample memory, an
  address that R142 says does not exist. Safe: no reachable burst does (R145). -/
  | memoryAddress
  deriving DecidableEq, Repr

/-- Why a command has no meaning. -/
inductive Refusal where
  /-- The command's row has no meaning in the model. Safe. No arm of `exec` answers with it. -/
  | notModelled (mnemonic : String)
  deriving DecidableEq, Repr

/-- What every command answers. -/
abbrev Out := Host.Outcome State Fault Refusal

/-! ### Power-on values -/

/-- R22. -/
def Estimate.reset : Estimate :=
  { front := 0, frac := 0, lap := 0, speed := 0, rollback := 0, since := 0, lastMarker := none,
    lastCorrection := 0, mismatch := 0, posState := .unlocated }

/-- R22. -/
def GuideReading.reset : GuideReading :=
  { e := 0, ePrev := 0, weak := 0, strength := 0, edge := false }

/-- R22, R24, R45. -/
def Guidance.reset : Guidance :=
  { path := [], markers := [], est := Estimate.reset, reading := GuideReading.reset, odo := 0,
    timer := .stopped,
    steer := { delta := 0, ff := 0, fb := 0, raw := 0, saturated := false },
    gains := { kp := 512, kd := 1024 } }

/-- R45. -/
def DriveLink.reset : DriveLink :=
  { seq := 0, last := none, miss := 0, track := 0, actual := 0, ready := false, fault := 0,
    discards := 0, frame := none }

/-- R45, R67; the ESTOP level is log 11's. -/
def Motion.reset : Motion :=
  { record :=
      { state := .parked, resumeRun := false, creepDist := 0, dispatchCount := 0, stopRec := none,
        paused := true, estopIn := false },
    speed := { demand := 0, target := 0, holdDist := none, setter := .none },
    drive := DriveLink.reset, still := 0, standstill := false, armed := none }

/-- R92. -/
def ZoneUnit.reset : ZoneUnit :=
  { zmap := [], table := [], tagCtr := 0, mailbox := [], long := [], sending := none,
    tookMailbox := false, link := .stopped, linkTimer := .stopped, sinceFrame := none,
    beaconTimer := .stopped, hold := none,
    counts := { returnLost := 0, longDrops := 0, beaconSkips := 0, discards := 0, stale := 0 } }

/-- R118. -/
def SeatMap.reset : SeatMap := { entries := [], mustLock := false, clip := none }

/-- R118. -/
def SeatUnit.reset : SeatUnit :=
  { records := [], loop := .stopped, roundTimer := .stopped, round := none, check := none,
    permit := false, permitCause := .powerOn, window := .stopped,
    counts := { transactions := 0, failed := 0, stuck := 0 }, command := none }

/-- R141. -/
def CueUnit.reset : CueUnit :=
  { cues := [], pointer := 0, lap := 0, flags := Vector.replicate 32 false,
    outputs := Vector.replicate 8 .off, acks := [], sceneTag := 0, staleAcks := 0, untracked := 0 }

/-- R162. -/
def Arbiter.reset : Arbiter :=
  { refills := Vector.replicate 8 none, commits := [], readBack := none, verify := none, port := none,
    lastVoice := 7 }

/-- R162. -/
def WriteStage.reset : WriteStage := { blocks := [], runClip := none, next := 0, idle := .stopped }

/-- R162. -/
def VerifyState.reset : VerifyState := { queue := [], next := 0, crc := 0xFFFFFFFF#32 }

/-- R162; the memory lists nothing (log 4). -/
def ClipStore.reset : ClipStore :=
  { mem := [], dir := Vector.replicate 512 none, stage := WriteStage.reset,
    verify := VerifyState.reset, buffer := .empty, arb := Arbiter.reset, busy := 0 }

/-- R183; the play position and the copied clip fields are log 11's. -/
def Voice.reset : Voice :=
  { state := .idle, clip := none, start := 0, length := 0, blocks := 0, loopStart := none, pos := 0,
    gain := 0, target := 0, step := 0, routes := Vector.replicate 4 0, hold := .free, loop := false,
    duckable := false, announce := false, source := none, pausePending := false, sounding := false,
    ring := [], cursor := none, refill := false, pend := none, underrun := false, underruns := 0 }

/-- R181, R183. -/
def VoiceEngine.reset : VoiceEngine :=
  { voices := Vector.replicate 8 Voice.reset, paused := true, alarm := false,
    masters := Vector.replicate 4 256, duck := 1024, clips := Vector.replicate 4 0,
    frame := Vector.replicate 4 0 }

/-- The class each code has at power-on (R184, R193). -/
def FaultCode.cls : FaultCode → FaultClass
  | .f01 | .f02 | .f03 | .f04 | .f05 | .f06 | .f07 | .f08 | .f09 | .f11 | .f12 => .stop
  | .f10 | .f13 | .f14 | .f18 => .hold
  | .f15 | .f16 | .f17 | .f19 | .f20 | .f21 => .note

/-- The codes in the order of their numbers. -/
def FaultCode.all : List FaultCode :=
  [.f01, .f02, .f03, .f04, .f05, .f06, .f07, .f08, .f09, .f10, .f11,
   .f12, .f13, .f14, .f15, .f16, .f17, .f18, .f19, .f20, .f21]

/-- R193. -/
def FaultRecord.reset (c : FaultCode) : FaultRecord :=
  { active := false, latched := false, cls := c.cls, count := 0, detail := .none }

/-- R193. -/
def FaultUnit.reset : FaultUnit :=
  { table := ⟨(FaultCode.all.map FaultRecord.reset).toArray, by simp [FaultCode.all]⟩ }

/-- R202. -/
def ConfigUnit.reset : ConfigUnit :=
  { record := { state := .empty, label := 0, count := 0, last := .none },
    loaded := Limits.defaults, committed := Limits.defaults,
    loadedMap := SeatMap.reset, committedMap := SeatMap.reset }

/-- R215, with the RESTARTED report of R202; the rate strap is log 11's. -/
def HostLink.reset : HostLink :=
  { fast := false, framer := [], rxQueue := [], held := none, sending := none, waiting := [],
    reports := [.event (.restarted .powerOn .empty 0 0)], dropped := 0,
    counts := { overLong := 0, badCrc := 0, overrun := 0, unanswered := 0, breaks := 0 },
    silence := .stopped, silent := false }

/-- The part right after power-on (R202), with no command waiting. -/
def State.reset : State :=
  { pending := [], config := ConfigUnit.reset, guide := Guidance.reset, motion := Motion.reset,
    zone := ZoneUnit.reset, seat := SeatUnit.reset, cue := CueUnit.reset, clip := ClipStore.reset,
    voice := VoiceEngine.reset, fault := FaultUnit.reset, host := HostLink.reset }

end Sys2Proof.Machine
end

