-- ==== Sys2Proof/Machine/Ops.lean ====
section
/-! DEFINITION. The shared operations: the update of one block's record, timers and the passing of a
millisecond, the report queue, the reply transmitter and the taking of a request, sample memory, signed
path distance and the look-ups by position, and the limits in force. -/

namespace Sys2Proof.Machine

/-! ### Updates of one block -/

def State.setPending (s : State) (q : List Instr) : State := { s with pending := q }
def State.setConfig (s : State) (c : ConfigUnit) : State := { s with config := c }
def State.setGuide (s : State) (g : Guidance) : State := { s with guide := g }
def State.setMotion (s : State) (m : Motion) : State := { s with motion := m }
def State.setZone (s : State) (z : ZoneUnit) : State := { s with zone := z }
def State.setSeat (s : State) (u : SeatUnit) : State := { s with seat := u }
def State.setCue (s : State) (u : CueUnit) : State := { s with cue := u }
def State.setClip (s : State) (u : ClipStore) : State := { s with clip := u }
def State.setVoice (s : State) (u : VoiceEngine) : State := { s with voice := u }
def State.setFault (s : State) (u : FaultUnit) : State := { s with fault := u }
def State.setHost (s : State) (h : HostLink) : State := { s with host := h }

/-- The limits in force (R7, R23, R69, R96, R148, R213). -/
def State.lim (s : State) : Limits := s.config.committed

/-- Whether configuration is READY (R194). -/
def State.isReady (s : State) : Bool := decide (s.config.record.state = .ready)

/-! ### Timers -/

/-- Whether the timer runs, so that it can expire. -/
def Timer.isRunning : Timer → Bool
  | .running _ => true
  | _ => false

/-- One millisecond of a timer; a due timer stays at 0 until its expiry is taken (log 2). -/
def Timer.tick : Timer → Timer
  | .running n => .running (n - 1)
  | t => t

def ResTimer.tick : ResTimer → ResTimer
  | .claim n => .claim (n - 1)
  | .release n => .release (n - 1)
  | .backoff n => .backoff (n - 1)
  | .stopped => .stopped

def OutputState.tick : OutputState → OutputState
  | .pulsing n => .pulsing (n - 1)
  | o => o

def AckEntry.tick (e : AckEntry) : AckEntry :=
  match e.stage with
  | .waiting n => { e with stage := .waiting (n - 1) }
  | .queued => e

/-- One millisecond of the zone unit: its timers stand still while the link is stopped, and the time
since the last valid frame goes on (R90). -/
def ZoneUnit.tick (z : ZoneUnit) : ZoneUnit :=
  let since := z.sinceFrame.map (· + 1)
  if z.link = .stopped then { z with sinceFrame := since }
  else
    { z with
      linkTimer := z.linkTimer.tick
      beaconTimer := z.beaconTimer.tick
      sinceFrame := since
      table := z.table.map fun r => { r with timer := r.timer.tick } }

/-- One idle millisecond: every running timer has one less to run, and nothing else happens (log 2). -/
def State.idle (s : State) : State :=
  { s with
    guide := { s.guide with timer := s.guide.timer.tick }
    zone := s.zone.tick
    seat := { s.seat with roundTimer := s.seat.roundTimer.tick, window := s.seat.window.tick }
    cue :=
      { s.cue with
        outputs := s.cue.outputs.map OutputState.tick
        acks := s.cue.acks.map AckEntry.tick }
    clip := { s.clip with stage := { s.clip.stage with idle := s.clip.stage.idle.tick } }
    host := { s.host with silence := s.host.silence.tick } }

/-! ### The report queue (R209 to R212) -/

def Report.isState : Report → Bool
  | .state _ _ => true
  | .event _ => false

/-- A report joins the tail, making room by R210. -/
def HostLink.joinTail (h : HostLink) (r : Report) : HostLink :=
  if h.reports.length < Config.reportMax then { h with reports := h.reports ++ [r] }
  else if h.reports.any Report.isState then
    { h with reports := h.reports.eraseP Report.isState ++ [r] }
  else { h with dropped := bump 255 h.dropped }

/-- A state report is posted: merged with a queued one of its kind and source, or queued (R209). -/
def postState (k : StateKind) (src : Nat) (s : State) : State :=
  if Report.state k src ∈ s.host.reports then s
  else s.setHost (s.host.joinTail (.state k src))

/-- An event report is posted (R209). -/
def postEvent (e : EventReport) (s : State) : State := s.setHost (s.host.joinTail (.event e))

/-- ATTN is driven low while the report queue holds a report (R212). -/
def State.attnLow (s : State) : Bool := !s.host.reports.isEmpty

/-! ### Requests and replies (R206, R207) -/

/-- What an owner block answers to a request. -/
structure Answer where
  cls : ResultClass
  detail : Detail
  body : ReplyBody := .empty
  deriving DecidableEq, Repr

def Answer.done : Answer := ⟨.done, .done, .empty⟩
def Answer.already : Answer := ⟨.qualified, .already, .empty⟩
def Answer.refuse (d : Detail) : Answer := ⟨.refused, d, .empty⟩
def Answer.invalid (d : Detail) : Answer := ⟨.invalid, d, .empty⟩
def Answer.rangeAt (i : Option Nat) : Answer := ⟨.invalid, .range, .index i⟩

/-- The reply to a frame: its tag, its kind with 0x80 added modulo 256 (R206). -/
def replyTo (f : RxFrame) (a : Answer) : Reply :=
  { tag := f.tag, kind := f.kind + 0x80#8, cls := a.cls, detail := a.detail, body := a.body }

/-- A reply is handed to the transmitter, which sends frames in the order handed over (R207). -/
def handReply (r : Reply) (s : State) : State :=
  match s.host.sending with
  | none => s.setHost { s.host with sending := some r }
  | some _ => s.setHost { s.host with waiting := s.host.waiting ++ [r] }

/-- The owner's answer becomes the reply to the frame. -/
def sendReply (f : RxFrame) (a : Answer) (s : State) : State := handReply (replyTo f a) s

/-- The frame at the head of the receive queue is taken, when no request is in hand and the frame is of
this kind (R206). -/
def takeRequest (kind : Byte) (s : State) : Option (RxFrame × State) :=
  match s.host.held, s.host.rxQueue with
  | none, f :: rest =>
    if f.kind = kind then some (f, s.setHost { s.host with rxQueue := rest }) else none
  | _, _ => none

/-- A request row: the request is taken, or nothing happens when it is not the one to take (log 1). A
body that does not fit its kind is answered MALFORMED (R206); else the owner's `act` does the work. -/
def onRequest {α : Type} (kind : Byte) (b : Body α) (s : State) (act : RxFrame → α → State → State) :
    Out :=
  match takeRequest kind s with
  | none => .next s
  | some (f, s1) =>
    match b with
    | .misfit => .next (sendReply f (.invalid .malformed) s1)
    | .fit a => .next (act f a s1)

/-- A request whose owner answers at once. -/
def answering {α : Type} (judge : α → State → State × Answer) (f : RxFrame) (a : α) (s : State) : State :=
  sendReply f (judge a s).2 (judge a s).1

/-! ### Sample memory (R142) -/

/-- What a byte that nothing has written reads as (log 4). -/
def Memory.blank : Byte := 0

/-- The canonical form: addresses strictly rising, no entry that reads as an unlisted one. -/
abbrev Memory.wf (m : List Host.Cell) : Prop :=
  m.Pairwise (fun p q => p.1 < q.1) ∧ ∀ c ∈ m, c.2 ≠ Memory.blank

/-- One byte of sample memory. -/
def Memory.read : List Host.Cell → Nat → Byte
  | [], _ => Memory.blank
  | (x, y) :: rest, a => if x = a then y else Memory.read rest a

/-- One byte is written, keeping the canonical form. -/
def Memory.write : List Host.Cell → Nat → Byte → List Host.Cell
  | [], a, b => if b = Memory.blank then [] else [(a, b)]
  | (x, y) :: rest, a, b =>
    if a < x then (if b = Memory.blank then (x, y) :: rest else (a, b) :: (x, y) :: rest)
    else if a = x then (if b = Memory.blank then rest else (a, b) :: rest)
    else (x, y) :: Memory.write rest a b

/-- Bytes are written from an address upward. -/
def Memory.writeBytes (m : List Host.Cell) (a : Nat) : List Byte → List Host.Cell
  | [] => m
  | b :: bs => Memory.writeBytes (Memory.write m a b) (a + 1) bs

/-- The 512 bytes of a block (R142). -/
def Memory.readBlock (m : List Host.Cell) (block : Nat) : List Byte :=
  (List.range Config.blockBytes).map fun j => Memory.read m (block * Config.blockBytes + j)

/-- Consecutive blocks are read. -/
def Memory.readBlocks (m : List Host.Cell) (block count : Nat) : List (List Byte) :=
  (List.range count).map fun i => Memory.readBlock m (block + i)

/-- Consecutive blocks are written (R153). -/
def Memory.writeBlocks (m : List Host.Cell) (block : Nat) : List (List Byte) → List Host.Cell
  | [] => m
  | d :: ds => Memory.writeBlocks (Memory.writeBytes m (block * Config.blockBytes) d) (block + 1) ds

/-! ### The path (R1, R4) -/

/-- A segment with its index and its start. -/
structure SegAt where
  index : Nat
  start : Nat
  seg : Segment
  deriving DecidableEq, Repr

/-- The lap length P. -/
def lapLength (path : List Segment) : Nat := (path.map (·.len)).sum

/-- The segments with their indices and starts, from an index and a start on. -/
def placeFrom : Nat → Nat → List Segment → List SegAt
  | _, _, [] => []
  | i, st, g :: gs => ⟨i, st, g⟩ :: placeFrom (i + 1) (st + g.len) gs

/-- The segments in path order with their starts (R1). -/
def segments (path : List Segment) : List SegAt := placeFrom 0 0 path

/-- The segment containing a position (R1). -/
def segmentAt (path : List Segment) (pos : Nat) : Option SegAt :=
  (segments path).find? fun g => decide (g.start ≤ pos) && decide (pos < g.start + g.seg.len)

/-- The signed path distance from a to b on a lap of length P (R4). -/
def signedDist (P : Nat) (a b : Int) : Int :=
  let d := (b - a) % (P : Int)
  if d ≥ ((P / 2 : Nat) : Int) then d - P else d

/-- A position reduced into 0..P-1 (R4). -/
def wrapPos (P : Nat) (x : Int) : Nat := (x % (P : Int)).toNat

/-- The lap length of the path in the table. -/
def State.P (s : State) : Nat := lapLength s.guide.path

/-- The segment under the front. -/
def State.frontSeg (s : State) : Option SegAt := segmentAt s.guide.path s.guide.est.front

/-- Whether the front is in a load-flagged segment (R53). -/
def State.inLoadZone (s : State) : Bool :=
  match s.frontSeg with
  | some g => g.seg.load
  | none => false

/-- The front's zone (R68). -/
def State.frontZone (s : State) : Option Nat := s.frontSeg.map (·.seg.zone)

/-- The signed distance from the front to a position. -/
def State.fromFront (s : State) (x : Int) : Int := signedDist s.P s.guide.est.front x

/-- Whether the position state is LOCATED or DOUBT. -/
def PosState.known : PosState → Bool
  | .located | .doubt => true
  | .unlocated | .lost => false

/-- The greatest r with r² ≤ n, searched bit by bit from bit k - 1 down. -/
def isqrtBits : Nat → Nat → Nat → Nat
  | 0, _, r => r
  | k + 1, n, r => isqrtBits k n (if (r + 2 ^ k) * (r + 2 ^ k) ≤ n then r + 2 ^ k else r)

/-- isqrt of the Conventions: the exact integer square root, rounded down. -/
def isqrt (n : Nat) : Nat := isqrtBits (n.log2 / 2 + 1) n 0

/-! ### Position updates (R8) -/

/-- The position update the guidance unit hands on. A set (R21) carries no movement and no correction. -/
structure PosUpdate where
  frontBefore : Nat
  lapBefore : Half
  frontAfter : Nat
  lapAfter : Half
  movement : Int
  /-- The accepted marker's code and correction. -/
  accepted : Option (Code × Int)
  before : PosState
  after : PosState
  isSet : Bool
  deriving DecidableEq, Repr

/-- The three units act on one update in the order chosen (log 5). -/
def runUnits (o : UnitOrder) (m z c : State → State) (s : State) : State :=
  match o with
  | .motionZoneCue => c (z (m s))
  | .motionCueZone => z (c (m s))
  | .zoneMotionCue => c (m (z s))
  | .zoneCueMotion => m (c (z s))
  | .cueMotionZone => z (m (c s))
  | .cueZoneMotion => m (z (c s))

end Sys2Proof.Machine
end

