-- ==== Sys2Proof/Machine/Flags.lean ====
section
/-! DEFINITION. The fault unit's flags: raising a fault, ending its condition, the latches, the fault
summary, and which classes stand latched (R184 to R191). What a STOP-class raising does to motion is in
MotionOps. -/

namespace Sys2Proof.Machine

/-- The place of a code's record in the fault table. -/
def FaultCode.idx : FaultCode → Fin 21
  | .f01 => 0 | .f02 => 1 | .f03 => 2 | .f04 => 3 | .f05 => 4 | .f06 => 5 | .f07 => 6 | .f08 => 7
  | .f09 => 8 | .f10 => 9 | .f11 => 10 | .f12 => 11 | .f13 => 12 | .f14 => 13 | .f15 => 14
  | .f16 => 15 | .f17 => 16 | .f18 => 17 | .f19 => 18 | .f20 => 19 | .f21 => 20

/-- The codes from priority 1 to 21 (R184). -/
def FaultCode.byPriority : List FaultCode :=
  [.f01, .f07, .f08, .f06, .f03, .f02, .f04, .f05, .f09, .f11, .f12, .f10, .f13, .f14, .f18, .f15,
   .f19, .f20, .f16, .f17, .f21]

/-- The codes whose condition is momentary (R184). -/
def FaultCode.momentary : FaultCode → Bool
  | .f09 | .f12 | .f14 | .f15 | .f16 | .f17 | .f19 | .f20 | .f21 => true
  | _ => false

/-- The record of a code. -/
def State.faultRec (s : State) (c : FaultCode) : FaultRecord := s.fault.table[c.idx]

/-- The record of a code is replaced. -/
def State.setFaultRec (s : State) (c : FaultCode) (r : FaultRecord) : State :=
  s.setFault { table := s.fault.table.set c.idx r }

/-- Whether a fault's condition is active. -/
def State.faultActive (s : State) (c : FaultCode) : Bool := (s.faultRec c).active

/-- Whether a fault is latched. -/
def State.faultLatched (s : State) (c : FaultCode) : Bool := (s.faultRec c).latched

/-- The latched codes in order of priority. -/
def State.latchedCodes (s : State) : List FaultCode := FaultCode.byPriority.filter s.faultLatched

/-- The fault summary (R191). -/
def State.summary (s : State) : FaultSummary :=
  { code := s.latchedCodes.head?, multiple := decide (2 ≤ s.latchedCodes.length) }

/-- A FAULT SUMMARY report is posted when the summary differs from what it was (R191). -/
def noteSummary (before : FaultSummary) (s : State) : State :=
  if s.summary = before then s else postState .faultSummary 0 s

/-- Whether any fault of a class is latched (R51, R53, R187). -/
def State.classLatched (s : State) (k : FaultClass) : Bool :=
  FaultCode.all.any fun c => s.faultLatched c && decide ((s.faultRec c).cls = k)

/-- The record of a raising (R185); the class given is kept for F10 and is the fixed one otherwise. -/
def FaultRecord.raised (r : FaultRecord) (cls : FaultClass) (d : FaultDetail) : FaultRecord :=
  { active := true, latched := true, cls := cls, count := bump 255 r.count, detail := d }

/-- A raising sets the record and posts FAULT RAISED (R185). -/
def recordRaise (c : FaultCode) (cls : FaultClass) (d : FaultDetail) (s : State) : State :=
  let r := (s.faultRec c).raised cls d
  postEvent (.faultRaised c cls r.count d) (s.setFaultRec c r)

/-- A momentary condition ends in the event of its raising (R188). -/
def endMomentary (c : FaultCode) (s : State) : State :=
  if c.momentary then s.setFaultRec c { s.faultRec c with active := false } else s

/-- A HOLD- or NOTE-class fault is raised: it latches and has no effect on motion (R187). -/
def raiseQuiet (c : FaultCode) (cls : FaultClass) (d : FaultDetail) (s : State) : State :=
  noteSummary s.summary (endMomentary c (recordRaise c cls d s))

/-- Whether the latch clears itself as the condition ends (R188). -/
def State.selfClears (s : State) (c : FaultCode) : Bool :=
  match c with
  | .f13 | .f18 => true
  | .f10 => decide ((s.faultRec .f10).cls = .hold)
  | _ => false

/-- The owner ends a condition, if it is active (R188). -/
def endCond (c : FaultCode) (s : State) : State :=
  let r := s.faultRec c
  if r.active then
    if r.latched && s.selfClears c then
      noteSummary s.summary
        (postEvent (.faultCleared c .self) (s.setFaultRec c { r with active := false, latched := false }))
    else s.setFaultRec c { r with active := false }
  else s

/-- Several conditions end. -/
def endConds (cs : List FaultCode) (s : State) : State := cs.foldl (fun s c => endCond c s) s

/-- The table is cleared to its power-on values, without FAULT CLEARED reports (R193). -/
def clearFaultTable (s : State) : State := noteSummary s.summary (s.setFault FaultUnit.reset)

/-- A reply refused with FAULT carries the summary (R49). -/
def refuseFault (s : State) : Answer := ⟨.refused, .fault, .summary s.summary⟩

/-! ### Status shown by other units -/

/-- The three ducking causes (R177). -/
def State.ducking (s : State) : Ducking :=
  let v := s.voice.voices
  { announcement := decide (v[7].state ≠ .idle) && v[7].announce
    alarm := s.voice.alarm
    pause := s.voice.paused && v.toList.any fun w => decide (w.state ≠ .idle) && decide (w.hold = .duck) }

/-- Whether ducking is active (R177). -/
def Ducking.active (d : Ducking) : Bool := d.announcement || d.alarm || d.pause

/-- The F11 condition as the seat unit sees it: a seat is in ALARM (R105). -/
def SeatUnit.anyAlarm (u : SeatUnit) : Bool := u.records.any fun r => decide (r.state = .alarm)

/-- The F13 condition as the seat unit sees it: a miss count stands at 3 (R103). -/
def SeatUnit.anyMissing (u : SeatUnit) : Bool := u.records.any fun r => decide (r.miss = 3)

/-- The F10 condition as the zone unit sees it: the link is LOST or an entry is failed (R91). -/
def ZoneUnit.linkFault (z : ZoneUnit) : Bool :=
  decide (z.link = .lost) || z.table.any fun r => r.failed

end Sys2Proof.Machine
end

