-- ==== Sys2Proof/Machine/VoiceOps.lean ====
section
/-! DEFINITION. The shared operations of the voice engine: play claims, refills, starts, preemption,
fades, stops, gain moves and show pause (R147, R165 to R177), and the CUE report a failed cue start
makes (R128). -/

namespace Sys2Proof.Machine

/-! ### What the cue unit is told -/

/-- A cue's last outcome is set, with the cue lap as it stands then (log 42), and a CUE report is posted
(R128 to R132). -/
def tellCue (id : Nat) (o : CueOutcome) (r : CueReport) (s : State) : State :=
  postEvent (.cue id o r)
    (s.setCue
      { s.cue with
        cues := s.cue.cues.map fun c => if c.id = id then { c with last := some (o, s.cue.lap) } else c })

/-! ### Voice records and play counts -/

def State.getVoice (s : State) (v : Fin 8) : Voice := s.voice.voices[v]

def State.putVoice (s : State) (v : Fin 8) (w : Voice) : State :=
  s.setVoice { s.voice with voices := s.voice.voices.set v w }

/-- A directory entry, none for EMPTY and for a number past 511. -/
def State.clipAt (s : State) (n : Nat) : Option Clip := if h : n < 512 then s.clip.dir[n] else none

def State.putClip (s : State) (n : Nat) (c : Option Clip) : State :=
  if h : n < 512 then s.setClip { s.clip with dir := s.clip.dir.set n c } else s

/-- The state of a clip, none for EMPTY. -/
def State.clipState (s : State) (n : Nat) : Option ClipState := (s.clipAt n).map (·.state)

/-- A play release decrements the clip's play count (R147). -/
def releasePlay (n : Nat) (s : State) : State :=
  match s.clipAt n with
  | some c => s.putClip n (some { c with plays := c.plays - 1 })
  | none => s

/-- The play release of a voice's clip, if it has one (R147). -/
def releasePlayOf (clip : Option Nat) (s : State) : State :=
  match clip with
  | some n => releasePlay n s
  | none => s

/-- The voice's refill is withdrawn: removed if it waits, its data dropped if it is being read (R160). -/
def withdrawRefill (v : Fin 8) (s : State) : State :=
  let a := s.clip.arb
  let port :=
    match a.port with
    | some ⟨.refill u r, d⟩ => some ⟨.refill u r, d || decide (u = v)⟩
    | p => p
  (s.setClip { s.clip with arb := { a with refills := a.refills.set v none, port := port } }).putVoice v
    { s.getVoice v with refill := false }

/-- Whether a voice may put a refill (R169). -/
def Voice.wantsRefill (w : Voice) : Bool :=
  (decide (w.state = .priming) || decide (w.state = .playing) || decide (w.state = .paused) ||
    (decide (w.state = .releasing) && w.sounding)) &&
    !w.refill && w.cursor.isSome && decide (w.ring.length + 2 ≤ 4)

/-- Where the fetch cursor goes from an offset past the blocks asked for (R169). -/
def Voice.cursorAfter (w : Voice) (next : Nat) : Option Nat :=
  if next < w.blocks then some next
  else if w.loop then some (w.loopStart.getD 0 / 256)
  else none

/-- The refill test: a refill of 1 or 2 blocks is put to the arbiter and the cursor advances (R169). -/
def refillTest (v : Fin 8) (s : State) : State :=
  let w := s.getVoice v
  match w.cursor with
  | none => s
  | some cur =>
    if w.wantsRefill then
      let n := min 2 (w.blocks - cur)
      let req : RefillReq := { offset := cur, mem := w.start + cur, count := n }
      (s.setClip
          { s.clip with
            arb := { s.clip.arb with refills := s.clip.arb.refills.set v (some req) } }).putVoice v
        { w with refill := true, cursor := w.cursorAfter (cur + n) }
    else s

/-! ### Starts -/

/-- The voice record a granted start makes (R166). -/
def Voice.started (w : Voice) (r : StartRec) (c : Clip) (showPaused : Bool) : Voice :=
  { w with
    state := .priming, clip := some r.clip, start := c.start, length := c.length, blocks := c.blocks
    loopStart := c.loopStart, pos := 0, gain := r.gain * 256, target := r.gain * 256, step := 0
    routes := r.routes, hold := r.hold, loop := r.loop, duckable := r.duckable, announce := r.announce
    source := some r.source, pausePending := decide (r.hold = .pause) && showPaused, sounding := false
    ring := [], cursor := some 0, refill := false, pend := none, underrun := false, underruns := 0 }

/-- A start taken on an IDLE voice (R166): the play claim is made, and when it is granted the voice is
PRIMING with its first refill put; when it is refused the voice is as it was. -/
def startIdle (v : Fin 8) (r : StartRec) (s : State) : State :=
  match s.clipAt r.clip with
  | some c =>
    if c.state = .ready then
      refillTest v
        ((s.putClip r.clip (some { c with plays := c.plays + 1 })).putVoice v
          ((s.getVoice v).started r c s.voice.paused))
    else s
  | none => s

/-- Whether a play claim on a clip is granted (R147). -/
def State.claimable (s : State) (n : Nat) : Bool := decide (s.clipState n = some .ready)

/-- A start that failed after it was taken is made known to its source (R166, R168, R182). -/
def reportFailed (v : Fin 8) (r : StartRec) (found : Option ClipState) (s : State) : State :=
  match r.source with
  | .cue id _ => tellCue id .startFailed .bare s
  | src => postEvent (.voice v r.clip src found) s

/-- The voice record as it goes IDLE: no clip, an empty ring, nothing pending (R163, R168).
DESIGN CHOICE (log 21): the fetch cursor is finished, and the fields not named here stay. -/
def Voice.toIdle (w : Voice) : Voice :=
  { w with state := .idle, clip := none, ring := [], cursor := none, refill := false, pend := none,
           pausePending := false, sounding := false }

/-- A voice goes IDLE: play release, refill withdrawn, ring emptied, VOICE END posted (R168, R172). -/
def goIdle (v : Fin 8) (reason : VoiceEndReason) (s : State) : State :=
  let w := s.getVoice v
  let s1 := withdrawRefill v (releasePlayOf w.clip s)
  postEvent (.voiceEnd v w.clip reason w.source w.pos w.underruns)
    (s1.putVoice v (s1.getVoice v).toIdle)

/-- A fade ends (R168): the voice goes IDLE, and a pending start is taken in the same event. -/
def fadeEnd (v : Fin 8) (s : State) : State :=
  match (s.getVoice v).pend with
  | none => goIdle v .stopped s
  | some r =>
    let s1 := goIdle v .preempted s
    if s1.claimable r.clip then startIdle v r s1 else reportFailed v r (s1.clipState r.clip) s1

/-- The fade of a RELEASING voice ends once its gain is 0 (R167, R168, R173). -/
def fadeTest (v : Fin 8) (s : State) : State :=
  if (s.getVoice v).state = .releasing ∧ (s.getVoice v).gain = 0 then fadeEnd v s else s

/-- Whether a voice goes on drawing samples through a fade (R167). -/
def Voice.soundsOn (w : Voice) : Bool :=
  decide (w.state = .playing) || (decide (w.state = .releasing) && w.sounding)

/-- A start taken on a busy voice preempts it (R167). -/
def preempt (v : Fin 8) (r : StartRec) (s : State) : State :=
  let w := s.getVoice v
  let step := max 1 (max (ceilDiv w.gain 64) (if w.state = .releasing then w.step else 0))
  let s1 := if w.state = .priming ∨ w.state = .paused then withdrawRefill v s else s
  fadeTest v
    (s1.putVoice v
      { s1.getVoice v with
        state := .releasing, target := 0, step := step, sounding := w.soundsOn, pend := some r })

/-- A start is taken on a voice, IDLE or busy (R165). -/
def takeStart (v : Fin 8) (r : StartRec) (s : State) : State :=
  if (s.getVoice v).state = .idle then startIdle v r s else preempt v r s

/-! ### Stops and gains -/

/-- A VOICE STOP with a fade time in ms acts on a voice (R173); with fade 0 the step is kept (log 44). -/
def stopVoice (v : Fin 8) (fade : Nat) (s : State) : State :=
  let w := s.getVoice v
  let step := if fade = 0 then w.step else max 1 (ceilDiv w.gain (fade * 48))
  match w.state with
  | .idle => s
  | .priming | .paused =>
    let s1 := withdrawRefill v s
    fadeTest v (s1.putVoice v { s1.getVoice v with state := .releasing, sounding := false, gain := 0 })
  | .playing =>
    fadeTest v
      (s.putVoice v
        { w with state := .releasing, sounding := true, target := 0, step := step
                 gain := if fade = 0 then 0 else w.gain })
  | .releasing =>
    fadeTest v
      (s.putVoice v
        { w with pend := none, step := max w.step step, gain := if fade = 0 then 0 else w.gain })

/-- Whether a VOICE GAIN acts on the voice (R174). -/
def Voice.takesGain (w : Voice) : Bool :=
  decide (w.state = .priming) || decide (w.state = .playing) || decide (w.state = .paused)

/-- A VOICE GAIN with a Q12 target and a ramp time in ms acts on a voice (R174). The step is kept where
the gain takes the target at once (log 44). -/
def gainVoice (v : Fin 8) (target ramp : Nat) (s : State) : State :=
  let w := s.getVoice v
  let t := target * 256
  if w.takesGain then
    if ramp = 0 ∨ t = w.gain then s.putVoice v { w with target := t, gain := t }
    else
      s.putVoice v
        { w with target := t, step := max 1 (ceilDiv ((t - w.gain) + (w.gain - t)) (ramp * 48)) }
  else s

/-- The gain moves one step toward its target (R174). -/
def Voice.stepGain (w : Voice) : Voice :=
  if w.gain < w.target then { w with gain := min (w.gain + w.step) w.target }
  else if w.target < w.gain then { w with gain := max (w.gain - w.step) w.target }
  else w

/-! ### Show pause and alarm events -/

/-- What SHOW PAUSE BEGIN does to a voice (R175). -/
def Voice.pauseBegin (w : Voice) : Voice :=
  if w.hold = .pause ∧ (w.state = .priming ∨ w.state = .playing) then { w with pausePending := true }
  else w

/-- What SHOW PAUSE END does to a voice (R175). -/
def Voice.pauseEnd (w : Voice) : Voice :=
  { w with pausePending := false, state := if w.state = .paused then .playing else w.state }

def showPauseBegin (s : State) : State :=
  s.setVoice { s.voice with paused := true, voices := s.voice.voices.map Voice.pauseBegin }

def showPauseEnd (s : State) : State :=
  s.setVoice { s.voice with paused := false, voices := s.voice.voices.map Voice.pauseEnd }

/-- RESTRAINT ALARM BEGIN and END (R105, R106, R177). -/
def setAlarm (on : Bool) (s : State) : State := s.setVoice { s.voice with alarm := on }

/-- The start record of an announcement (R176). -/
def announcement (clip : Nat) : StartRec :=
  { clip := clip, gain := 4096, routes := Vector.replicate 4 256, hold := .free, loop := false,
    duckable := false, announce := true, source := .announce }

/-- ANNOUNCE: the clip is started on voice 7, or the failed start is reported (R176, R182). -/
def announce (clip : Nat) (s : State) : State :=
  if s.claimable clip then takeStart 7 (announcement clip) s
  else postEvent (.voice 7 clip .announce (s.clipState clip)) s

end Sys2Proof.Machine
end

