-- ==== Sys2Proof/Machine/SeatOps.lean ====
section
/-! DEFINITION. The shared operations of the seat unit: seat records and their reports, the dispatch
permit, a check that ends or is aborted, and the end of the release window (R100 to R117). -/

namespace Sys2Proof.Machine

/-- The record of an address, if the seat is fitted. -/
def SeatUnit.find (u : SeatUnit) (addr : Nat) : Option SeatRecord := u.records.find? fun r => r.addr == addr

def State.seatAt (s : State) (addr : Nat) : Option SeatRecord := s.seat.find addr

/-- A SEAT STATE report is posted when the seat's state, occupancy or lamp changed (R117). -/
def reportSeat (before after : SeatRecord) (s : State) : State :=
  if before.state = after.state ∧ before.occupied = after.occupied ∧ before.lamp = after.lamp then s
  else postState .seatState after.addr s

/-- The record of a seat is replaced, with its report. -/
def putSeat (r : SeatRecord) (s : State) : State :=
  let before := (s.seatAt r.addr).getD r
  reportSeat before r
    (s.setSeat
      { s.seat with records := s.seat.records.map fun x => if x.addr = r.addr then r else x })

/-- The record of one fitted seat is changed, with its report. -/
def changeSeat (f : SeatRecord → SeatRecord) (s : State) (addr : Nat) : State :=
  match s.seatAt addr with
  | some r => putSeat (f r) s
  | none => s

/-- Each fitted seat's record is changed, in order of address, with its report. -/
def mapSeats (f : SeatRecord → SeatRecord) (s : State) : State :=
  (s.seat.records.map (·.addr)).foldl (changeSeat f) s

/-- A lamp is turned on or off, with lamp pending set (R114). -/
def SeatRecord.setLamp (r : SeatRecord) (on : Bool) : SeatRecord := { r with lamp := on, lampPending := true }

/-- Whether the fitted seat is required (R101). -/
def SeatRecord.required (r : SeatRecord) (mustLock : Bool) : Bool :=
  match r.occupied with
  | .yes => true
  | .no => mustLock
  | .unknown => false

/-- LOCKED or OPEN by the last clean read (R109, R112). -/
def SeatRecord.byLastRead (r : SeatRecord) : SeatState :=
  if r.lastClean = some true then .locked else .isOpen

/-- The permit is cleared with a cause; PERMIT CLEARED is posted when it was held (R113). -/
def clearPermit (cause : PermitCause) (s : State) : State :=
  let s1 := s.setSeat { s.seat with permit := false, permitCause := cause }
  if s.seat.permit then postEvent (.permitCleared cause) s1 else s1

/-- What an aborted check makes of a CHECKING seat (R112). -/
def SeatRecord.unchecking (r : SeatRecord) : SeatRecord :=
  if r.state = .checking then
    { r with state := if r.occupied = .unknown then .unknown else r.byLastRead }
  else r

/-- A running check is aborted with a cause (R112). -/
def abortCheck (cause : CheckCause) (s : State) : State :=
  match s.seat.check with
  | none => s
  | some c =>
    let s1 := mapSeats SeatRecord.unchecking (s.setSeat { s.seat with check := none })
    let s2 := if cause = .module then raiseQuiet .f14 .hold (.check .module) s1 else s1
    postEvent (.checkResult c.source .fail cause c.set c.rejected c.rounds) s2

/-- The release window ends, if it is active: every module is to be latched (R116). -/
def endWindow (reason : WindowEnd) (s : State) : State :=
  if s.seat.window = .stopped then s
  else
    postEvent (.releaseEnd reason)
      (s.setSeat
        { s.seat with
          window := .stopped
          records := s.seat.records.map fun r => { r with latchPending := true } })

/-- Motion leaves HOLD: a running check is aborted and the release window ends (R112, R116). -/
def seatLeavesHold (toEstop : Bool) (s : State) : State :=
  endWindow .motion (abortCheck (if toEstop then .stop else .motion) s)

/-- A seat as SEAT STATE shows it (R117). -/
def SeatRecord.shown (r : SeatRecord) : SeatShown :=
  { addr := r.addr, state := r.state, occupied := r.occupied, lamp := r.lamp, travel := r.travel,
    lockA := r.lockA, lockB := r.lockB, miss := r.miss, disagree := r.disagree, alarm := r.alarm }

/-- A seat record as RESTART and COMMIT leave it (R118). DESIGN CHOICE (log 53): the value being counted
is no while nothing has been counted. -/
def SeatRecord.fresh (e : SeatEntry) : SeatRecord :=
  { addr := e.addr, occupied := .unknown, runCount := 0, runValue := false, travel := 0, lockA := false,
    lockB := false, state := .unknown, miss := 0, disagree := 0, alarm := 0, recovery := 0,
    travelLimit := e.travel.toNat, lamp := false, lampPending := true, latchPending := true,
    lastCounter := none, lastClean := none }

/-- Insertion of a seat entry in ascending order of address. -/
def insertSeat (e : SeatEntry) : List SeatEntry → List SeatEntry
  | [] => [e]
  | x :: xs => if e.addr ≤ x.addr then e :: x :: xs else x :: insertSeat e xs

/-- The seat entries in ascending order of address (R97, R100). -/
def sortSeats (es : List SeatEntry) : List SeatEntry := es.foldr insertSeat []

end Sys2Proof.Machine
end

