-- ==== Sys2Proof/Machine/MotionOps.lean ====
section
/-! DEFINITION. A change of motion state as one event, stop causes and the stop record, the show pause,
the end of a creep, and raising any fault with what its class does (R48, R57 to R66, R185 to R188). -/

namespace Sys2Proof.Machine

def State.mstate (s : State) : MotionState := s.motion.record.state

/-- The show pause is worked out anew, and a change is sent to the voice engine (R66). -/
def evalPause (s : State) : State :=
  let paused := !(decide (s.mstate = .run) && !s.motion.standstill)
  if paused = s.motion.record.paused then s
  else
    let s1 := s.setMotion { s.motion with record := { s.motion.record with paused := paused } }
    postState .motionState 0 (if paused then showPauseBegin s1 else showPauseEnd s1)

/-- Every effect output goes OFF and every pulse timer stops (R135, R141). -/
def outputsOff (s : State) : State :=
  s.setCue { s.cue with outputs := Vector.replicate 8 .off }

/-- The states in which the rollback distance is held at 0 (R12). -/
def MotionState.noRollback : MotionState → Bool
  | .parked | .stopped | .estop => true
  | _ => false

/-- The resume target after a change of motion state, but for HOLD from RUN by station arrival (R57). -/
def resumeAfter (old new : MotionState) (resume : Bool) : Bool :=
  match old, new with
  | .run, .hold => true
  | .run, .stopping => true
  | .run, .estop => true
  | .creep, .hold => false
  | .creep, .stopping => false
  | .creep, .estop => false
  | _, .run => false
  | .parked, .hold => false
  | _, .parked => false
  | _, _ => resume

/-- In PARKED and ESTOP the speed demand is 0 at once (R30, R35, R64). -/
def MotionState.zeroSpeed : MotionState → Bool
  | .parked | .estop => true
  | _ => false

/-- The motion record and the speed demand take a new state and resume target. -/
def Motion.enter (m : Motion) (new : MotionState) (resume : Bool) : Motion :=
  { m with
    record := { m.record with state := new, resumeRun := resume }
    speed := { m.speed with demand := if new.zeroSpeed then 0 else m.speed.demand } }

/-- The rollback distance is held at 0, which ends F05's condition (R12). -/
def zeroRollback (s : State) : State :=
  endCond .f05 (s.setGuide { s.guide with est := { s.guide.est with rollback := 0 } })

/-- A change of motion state, made whole and passed on at once: to the seat unit, the cue unit and the
voice engine (R48). The zone unit only reads the state. -/
def changeMotion (new : MotionState) (resume : Bool) (s : State) : State :=
  let old := s.mstate
  let s1 := postState .motionState 0 (s.setMotion (s.motion.enter new resume))
  let s2 := if new.noRollback then zeroRollback s1 else s1
  let s3 := if old = .hold then seatLeavesHold (decide (new = .estop)) s2 else s2
  let s4 := if new = .estop then outputsOff s3 else s3
  evalPause s4

/-- A change of motion state with the resume target of R57. -/
def moveTo (new : MotionState) (s : State) : State :=
  changeMotion new (resumeAfter s.mstate new s.motion.record.resumeRun) s

/-- A CREEP END report (R63). -/
def creepEnd (o : CreepOutcome) (s : State) : State := postEvent (.creepEnd o) s

/-- The stop record is replaced. -/
def setStopRecord (r : Option StopRecord) (s : State) : State :=
  s.setMotion { s.motion with record := { s.motion.record with stopRec := r } }

/-- The stop record made as a stop is taken (R59). -/
def newStopRecord (cause : StopCause) (s : State) : StopRecord :=
  { first := cause, left := s.mstate, front := s.guide.est.front, lap := s.guide.est.lap,
    speed := s.motion.speed.demand, further := 0 }

/-- A further cause is counted in the stop record (R59). -/
def furtherCause (s : State) : State :=
  setStopRecord
    (s.motion.record.stopRec.map fun r => { r with further := bump 255 r.further }) s

/-- A stop is taken from HOLD, RUN or CREEP, entering STOPPING or ESTOP (R58, R59, R63, R64). -/
def takeStop (new : MotionState) (cause : StopCause) (s : State) : State :=
  let wasCreep := s.mstate = .creep
  let s1 := moveTo new (setStopRecord (some (newStopRecord cause s)) s)
  if wasCreep then creepEnd .stopped s1 else s1

/-- A stop cause is taken by the motion unit (R58). -/
def stopCause (cause : StopCause) (s : State) : State :=
  match s.mstate with
  | .hold | .run | .creep => takeStop .stopping cause s
  | .stopping | .stopped | .estop => furtherCause s
  | .parked => s

/-- The ESTOP input, taken as asserted, acts on motion (R64). -/
def estopCause (s : State) : State :=
  match s.mstate with
  | .hold | .run | .creep => takeStop .estop (.fault .f01) s
  | .stopping | .stopped => moveTo .estop (furtherCause s)
  | .estop => furtherCause s
  | .parked => s

/-- What a raising does by its class (R186, R187). -/
def actByClass (c : FaultCode) (cls : FaultClass) (s : State) : State :=
  match cls with
  | .stop => if c = .f01 then estopCause s else stopCause (.fault c) s
  | .hold | .note => s

/-- A fault is raised: recorded and reported, acted on by class, ended when momentary, and the summary
worked out anew (R185 to R188, R191). -/
def raiseAs (c : FaultCode) (cls : FaultClass) (d : FaultDetail) (s : State) : State :=
  noteSummary s.summary (endMomentary c (actByClass c cls (recordRaise c cls d s)))

/-- A fault of a fixed class is raised. -/
def raiseFault (c : FaultCode) (d : FaultDetail) (s : State) : State := raiseAs c c.cls d s

/-- Motion enters STOPPED and the stop record is reported (R59, R60, R65). -/
def enterStopped (s : State) : State :=
  let s1 := moveTo .stopped s
  postEvent (.stopped s1.motion.record.stopRec) s1

end Sys2Proof.Machine
end

