-- ==== Sys2Proof/Machine/Operands.lean ====
section
/-! DEFINITION. What arrives and leaves as bits: the CRCs, the host framer, the frames of the wayside
link, the seat loop and the drive link, the codes of the Layouts section, and the range checks of the
fields a load request carries. -/

namespace Sys2Proof.Machine

/-! ### CRCs -/

/-- A function applied eight times, once for each bit of a byte. -/
def eightTimes {α : Type} (f : α → α) (x : α) : α := f (f (f (f (f (f (f (f x)))))))

/-- One bit of the CRC-16 of the host frame: polynomial 0x1021, most significant bit first. -/
def crc16Bit (r : BitVec 16) : BitVec 16 := if r.msb then (r <<< 1) ^^^ 0x1021#16 else r <<< 1

/-- The CRC-16 of the host and wayside frames: initial value 0xFFFF, no final XOR (Layouts). -/
def crc16 (bs : List Byte) : BitVec 16 :=
  bs.foldl (fun (r : BitVec 16) (b : Byte) => eightTimes crc16Bit (r ^^^ (b.setWidth 16 <<< 8))) 0xFFFF#16

def crc8Bit (r : BitVec 8) : BitVec 8 := if r.msb then (r <<< 1) ^^^ 0x07#8 else r <<< 1

/-- The CRC-8 of the seat loop and the drive link (R217, R218). -/
def crc8 (bs : List Byte) : BitVec 8 := bs.foldl (fun r b => eightTimes crc8Bit (r ^^^ b)) 0#8

def crc32Bit (r : Code) : Code := if r.getLsbD 0 then (r >>> 1) ^^^ 0xEDB88320#32 else r >>> 1

/-- Bytes are fed to the CRC-32 register (R155). -/
def crc32Feed (r : Code) (bs : List Byte) : Code :=
  bs.foldl (fun r b => eightTimes crc32Bit (r ^^^ b.setWidth 32)) r

/-! ### Byte order -/

/-- A 16-bit value low byte first (Layouts). -/
def le16 (w : BitVec 16) : List Byte := [w.setWidth 8, (w >>> 8).setWidth 8]

/-- A 16-bit value high byte first, as the CRC-16 is sent (Layouts). -/
def be16 (w : BitVec 16) : List Byte := [(w >>> 8).setWidth 8, w.setWidth 8]

/-- A position in three bytes, low byte first (BEACON). -/
def le24 (n : Nat) : List Byte := [BitVec.ofNat 8 n, BitVec.ofNat 8 (n / 256), BitVec.ofNat 8 (n / 65536)]

/-- The value of two bytes, low byte first. -/
def ofLe16 (lo hi : Byte) : BitVec 16 := hi ++ lo

/-! ### Host frames (R204, Layouts) -/

def hostSync : Byte := 0xC3

/-- A host frame as it goes on the line. -/
def hostFrameBytes (tag kind : Byte) (body : List Byte) : List Byte :=
  let inner := le16 (BitVec.ofNat 16 body.length) ++ [tag, kind] ++ body
  hostSync :: inner ++ be16 (crc16 inner)

/-- What the framer finds. -/
inductive Framed where
  | overLong
  | badCrc
  | valid (f : RxFrame)
  deriving DecidableEq, Repr

/-- The framer hunts for a sync byte, reads a frame and checks it; after an over-long frame or a failed
CRC it hunts again from the byte after that sync byte (R204). The bytes of a frame not yet whole stay.
The first argument bounds the bytes looked at. -/
def framerScan : Nat → List Byte → List Framed × List Byte
  | 0, buf => ([], buf)
  | _ + 1, [] => ([], [])
  | n + 1, b :: rest =>
    if b ≠ hostSync then framerScan n rest
    else
      match rest with
      | lo :: hi :: _ =>
        let len := (ofLe16 lo hi).toNat
        if len > Config.hostBodyMax then
          let r := framerScan n rest
          (.overLong :: r.1, r.2)
        else if rest.length < len + 6 then ([], b :: rest)
        else
          let inner := rest.take (len + 4)
          if be16 (crc16 inner) = (rest.drop (len + 4)).take 2 then
            let r := framerScan n (rest.drop (len + 6))
            (.valid ⟨inner.getD 2 0, inner.getD 3 0, inner.drop 4⟩ :: r.1, r.2)
          else
            let r := framerScan n rest
            (.badCrc :: r.1, r.2)
      | _ => ([], b :: rest)

/-- The framer takes the bytes the line brings. -/
def framerFeed (held bytes : List Byte) : List Framed × List Byte :=
  framerScan (held ++ bytes).length (held ++ bytes)

/-- The kind bytes of the request list. -/
def requestKinds : List Byte :=
  [0x01, 0x02, 0x03, 0x04, 0x05, 0x06, 0x07, 0x08, 0x09, 0x10, 0x11, 0x12, 0x13, 0x14, 0x15, 0x16,
   0x17, 0x18, 0x20, 0x21, 0x28, 0x29, 0x2A, 0x30, 0x31, 0x32, 0x40, 0x41, 0x42, 0x43, 0x44, 0x45,
   0x48, 0x49, 0x4A, 0x4B, 0x61, 0x62, 0x60, 0x63, 0x64]

/-! ### Codes of the Layouts section -/

def Detail.code : Detail → Nat
  | .done => 0 | .already => 1 | .started => 2 | .pending => 3 | .failed => 4 | .clamped => 5
  | .different => 6 | .state => 16 | .config => 17 | .estop => 18 | .fault => 19 | .position => 20
  | .standstill => 21 | .permit => 22 | .loadZone => 23 | .noTarget => 24 | .running => 25
  | .release => 26 | .overlap => 27 | .inUse => 28 | .verifying => 29 | .busy => 30
  | .queueFull => 31 | .reserved => 32 | .notReady => 33 | .overrun => 34 | .malformed => 48
  | .unknownKind => 49 | .range => 50 | .short => 51 | .path => 56 | .markers => 57 | .limits => 58
  | .seatMap => 59 | .cues => 60

def ResultClass.code : ResultClass → Nat
  | .done => 0 | .qualified => 1 | .refused => 2 | .invalid => 3

/-- The report kind bytes. -/
def Report.kindCode : Report → Nat
  | .state .position _ => 1 | .state .motionState _ => 2 | .state .zoneStatus _ => 3
  | .state .seatState _ => 4 | .state .underrun _ => 5 | .state .flags _ => 6
  | .state .faultSummary _ => 7 | .state .configState _ => 8
  | .event (.marker ..) => 16 | .event (.motionCommand ..) => 17 | .event (.dispatched ..) => 18
  | .event (.stopped ..) => 19 | .event (.creepEnd ..) => 20 | .event (.zone ..) => 21
  | .event (.checkResult ..) => 22 | .event (.checkInvalidated ..) => 23
  | .event (.permitCleared ..) => 24 | .event (.release ..) => 25 | .event (.releaseEnd ..) => 26
  | .event (.cue ..) => 27 | .event (.cueMissed ..) => 28 | .event (.cuePassedOver ..) => 29
  | .event (.flagRejected ..) => 30 | .event (.clipVerified ..) => 31 | .event (.voiceEnd ..) => 32
  | .event (.voice ..) => 33 | .event (.faultRaised ..) => 34 | .event (.faultCleared ..) => 35
  | .event (.restarted ..) => 36 | .event (.overflow ..) => 37

/-- The report source: the seat address, the voice, or 0 (R209). -/
def Report.source : Report → Nat
  | .state _ src => src
  | .event _ => 0

def MotionState.code : MotionState → Byte
  | .parked => 0 | .hold => 1 | .run => 2 | .creep => 3 | .stopping => 4 | .stopped => 5 | .estop => 6

def PosState.code : PosState → Byte
  | .unlocated => 0 | .located => 1 | .doubt => 2 | .lost => 3

/-! ### Wayside frames (R216) -/

def waysideStart : Byte := 0x3C

/-- A wayside frame as it goes on the link. -/
def waysideBytes (dest src kind : Byte) (body : List Byte) : List Byte :=
  let inner := [dest, src, kind, BitVec.ofNat 8 body.length] ++ body
  waysideStart :: inner ++ be16 (crc16 inner)

/-- A frame that arrived, after its start, length and CRC have been checked. -/
structure WaysideIn where
  dest : Byte
  kind : Byte
  body : List Byte
  deriving DecidableEq, Repr

/-- Whether a body fits its kind (R216); a kind not in the table fits with any body. An arriving frame of
an outbound kind is checked by its own row of the table (log 51). -/
def waysideFits (kind : Byte) (body : List Byte) : Bool :=
  match kind.toNat with
  | 0x01 | 0x04 | 0x21 | 0x22 => decide (body.length = 2)
  | 0x02 => decide (body.length = 3) && (body.getD 2 0 == 1 || body.getD 2 0 == 2)
  | 0x03 | 0x05 | 0x26 => decide (body.length = 1)
  | 0x06 | 0x08 | 0x09 | 0x0A | 0x0B | 0x23 => decide (body.length = 0)
  | 0x0C => decide (body.length = 2) && (body.getD 1 0 == 0 || body.getD 1 0 == 1)
  | 0x0D => decide (body.length = 3)
  | 0x24 =>
    decide (12 ≤ body.length) && decide ((body.getD 11 0).toNat ≤ 4) &&
      decide (body.length = 12 + (body.getD 11 0).toNat) && decide ((body.getD 9 0).toNat ≤ 6) &&
      decide ((body.getD 10 0).toNat ≤ 3)
  | 0x25 => decide (body.length = 7)
  | 0x27 => decide (body.length = 2) && (body.getD 1 0 == 1 || body.getD 1 0 == 2)
  | _ => true

/-- The frame check of R216. -/
def waysideCheck : List Byte → Option WaysideIn
  | st :: dest :: src :: kind :: len :: rest =>
    let body := rest.take len.toNat
    if st = waysideStart ∧ len.toNat ≤ 48 ∧ rest.length = len.toNat + 2 ∧
        be16 (crc16 ([dest, src, kind, len] ++ body)) = rest.drop len.toNat ∧
        waysideFits kind body = true then
      some ⟨dest, kind, body⟩
    else none
  | _ => none

/-- The kinds the zone unit routes (R89); the outbound kinds 0x21 to 0x27 are none of them (log 51). -/
def routedKinds : List Byte := [0x01, 0x02, 0x03, 0x04, 0x05, 0x06, 0x08, 0x09, 0x0A, 0x0B, 0x0C, 0x0D]

/-- Whether a frame is addressed to this vehicle or to all vehicles (R89). -/
def State.addressed (s : State) (dest : Byte) : Bool :=
  decide (dest.toNat = s.lim.vehicleId) || decide (dest = 255#8)

/-- A boolean as a bit of a byte. -/
def bitAt (b : Bool) (i : Nat) : Byte := if b then 1#8 <<< i else 0#8

/-- The kind and body of an outbound frame (R216). -/
def WaysideOut.content : WaysideOut → Byte × List Byte
  | .mail (.claim z t) => (0x21, [BitVec.ofNat 8 z, t])
  | .mail (.release z t) => (0x22, [BitVec.ofNat 8 z, t])
  | .mail (.returnRelease z t) => (0x22, [BitVec.ofNat 8 z, t])
  | .mail .vehicleReset => (0x23, [])
  | .long (.beacon b) =>
    (0x24, le24 b.front ++ le16 b.lap ++ le16 (BitVec.ofInt 16 b.speed) ++
      le16 (BitVec.ofNat 16 b.demand) ++ [b.motion.code, b.posState.code, BitVec.ofNat 8 b.held.length] ++
      b.held.map (BitVec.ofNat 8))
  | .long (.scene f) =>
    (0x25, [BitVec.ofNat 8 f.controller] ++ le16 (BitVec.ofNat 16 f.number) ++
      le16 (BitVec.ofNat 16 f.cueId) ++ [f.tag, bitAt f.late 0 ||| bitAt f.ack 1])
  | .long (.revokeAccept z) => (0x26, [BitVec.ofNat 8 z])
  | .long (.revokeRefuse z .unknown) => (0x27, [BitVec.ofNat 8 z, 1])
  | .long (.revokeRefuse z .committed) => (0x27, [BitVec.ofNat 8 z, 2])

/-- The bytes of an outbound frame: destination 0, the vehicle id as source (R216). -/
def WaysideOut.bytes (vehicle : Nat) (w : WaysideOut) : List Byte :=
  waysideBytes 0 (BitVec.ofNat 8 vehicle) w.content.1 w.content.2

/-- The vehicle id a frame of the long queue carries, `id` being the committed one: a BEACON has its own
since it was built (R87). -/
def LongFrame.source (id : Nat) : LongFrame → Nat
  | .beacon b => b.vehicle
  | _ => id

/-- What the wayside port carries: the frame being sent, with the id it was taken with. -/
def State.waysidePort (s : State) : Option (List Byte) :=
  s.zone.sending.map fun x => x.frame.bytes x.source

/-! ### Seat loop (R98, R99, R217) -/

/-- The fields of a 24-bit response (Layouts). -/
structure SeatResponse where
  travel : Nat
  lockA : Bool
  lockB : Bool
  occupied : Bool
  moduleFault : Bool
  counter : Nat
  crcOk : Bool
  deriving DecidableEq, Repr

def SeatResponse.ofBits (w : BitVec 24) : SeatResponse :=
  { travel := (w.extractLsb 23 16).toNat
    lockA := w.getLsbD 15
    lockB := w.getLsbD 14
    occupied := w.getLsbD 13
    moduleFault := w.getLsbD 12
    counter := (w.extractLsb 11 8).toNat
    crcOk := decide (w.extractLsb 7 0 = crc8 [w.extractLsb 23 16, w.extractLsb 15 8]) }

/-- The operations of the command byte (Layouts). -/
inductive SeatOp where
  | status | release | latch | lampOn | lampOff
  deriving DecidableEq, Repr

def SeatOp.code : SeatOp → Nat
  | .status => 0 | .release => 1 | .latch => 2 | .lampOn => 3 | .lampOff => 4

/-- The command bits: the address above the operation (Layouts). -/
def seatCommand (addr : Nat) (op : SeatOp) : Byte := BitVec.ofNat 8 (addr * 16 + op.code)

/-! ### Drive link (R39, R40, R218) -/

/-- A DEMAND frame (Layouts). -/
def demandBytes (seq : Byte) (speed : Nat) (delta : Int) (enable : Bool) : List Byte :=
  let inner := [seq] ++ le16 (BitVec.ofNat 16 speed) ++ le16 (BitVec.ofInt 16 delta) ++ [bitAt enable 0]
  0x5A :: inner ++ [crc8 inner]

/-- The fields of a FEEDBACK frame (Layouts). -/
structure FeedbackFields where
  seq : Byte
  actual : Int
  ready : Bool
  fault : Byte
  deriving DecidableEq, Repr

/-- The frame check of R218; bits 1 to 7 of the flags byte are ignored. -/
def feedbackCheck : List Byte → Option FeedbackFields
  | [st, seq, lo, hi, flags, fault, chk] =>
    if st = 0xA5 ∧ chk = crc8 [seq, lo, hi, flags, fault] then
      some ⟨seq, (ofLe16 lo hi).toInt, flags.getLsbD 0, fault⟩
    else none
  | _ => none

/-! ### Range checks of loads -/

/-- The field ranges of R1. -/
def segmentInRange (g : Segment) : Bool :=
  decide (100 ≤ g.len ∧ g.len ≤ 65535) && decide (-4500 ≤ g.biasIn ∧ g.biasIn ≤ 4500) &&
    decide (-4500 ≤ g.biasOut ∧ g.biasOut ≤ 4500) && decide (g.limit ≤ 2000) && decide (g.zone ≤ 127)

/-- The load check of R5. -/
def markerInRange (m : Marker) : Bool := decide (m.pos ≤ Config.positionMax)

/-- Whether all four route gains lie in 0..256. -/
def routesOk (r : Routes) : Bool := r.toList.all fun x => decide (x ≤ 256)

/-- The kind of a cue record, when its parameters lie in the load ranges of R120 and R121. -/
def acceptKind : CueKindIn → Option CueKind
  | .voiceStart v c g r (some h) l =>
    if v ≤ 255 ∧ c ≤ 511 ∧ g ≤ 4096 ∧ routesOk r = true then some (.voiceStart v c g r h l) else none
  | .voiceStart _ _ _ _ none _ => none
  | .voiceStop v f => if v ≤ 255 ∧ f ≤ 10000 then some (.voiceStop v f) else none
  | .voiceGain v t r => if v ≤ 255 ∧ t ≤ 4096 ∧ r ≤ 10000 then some (.voiceGain v t r) else none
  | .scene c n a => if c ≤ 63 ∧ n ≤ 1023 then some (.scene c n a) else none
  | .output o (some .pulse) t =>
    if o ≤ 255 ∧ 10 ≤ t ∧ t ≤ 10000 then some (.output o .pulse t) else none
  | .output o (some .set) t => if o ≤ 255 then some (.output o .set t) else none
  | .output o (some .clear) t => if o ≤ 255 then some (.output o .clear t) else none
  | .output _ none _ => none
  | .flag i v => if i ≤ 31 then some (.flag i v) else none
  | .unknown => none

/-- The cues that are stop-safe whatever was loaded (R120). -/
def forcedSafe : CueKind → Bool
  | .voiceStop _ _ => true
  | .flag _ _ => true
  | .output _ .clear _ => true
  | _ => false

/-- Whether a condition names a flag 0..31 (R119). -/
def condInRange : Option (Nat × Bool) → Bool
  | none => true
  | some p => decide (p.1 ≤ 31)

/-- A CUE LOAD record as the list stores it: the lead clamped, the stop-safe field forced, no last
outcome; none when a field is out of range (R121). -/
def acceptCue (c : CueIn) : Option Cue :=
  match acceptKind c.kind, c.late with
  | some k, some l =>
    if c.id ≤ 65535 ∧ c.trigger ≤ Config.positionMax ∧ c.lead ≤ 65535 ∧
        condInRange c.cond = true then
      some { id := c.id, trigger := c.trigger, lead := min c.lead 5000, kind := k, cond := c.cond,
             late := l, stopSafe := c.stopSafe || forcedSafe k, last := none }
    else none
  | _, _ => none

/-- The table index of the first record of a run that is not accepted or has no place in the table. -/
def firstOffending {α : Type} (max : Nat) (ok : α → Bool) : Nat → List α → Option Nat
  | _, [] => none
  | i, r :: rs => if ok r && decide (i < max) then firstOffending max ok (i + 1) rs else some i

/-- A run replaces the records from a start on, or truncates the table when it is empty (R2). -/
def spliceRun {α : Type} (table : List α) (start : Nat) (run : List α) : List α :=
  if run.isEmpty then table.take start
  else table.take start ++ run ++ table.drop (start + run.length)

/-- A load body whose run is longer than a request may carry does not fit its kind (R2, R5, R121,
R206). -/
def fitRun {α : Type} (b : Body (Load α)) : Body (Load α) :=
  match b with
  | .fit l => if Config.runMax < l.run.length then .misfit else .fit l
  | .misfit => .misfit

/-- A load by R2: the index refused, or the run to splice in. -/
def judgeLoad {α : Type} (max n : Nat) (ok : α → Bool) (l : Load α) : Option Nat :=
  if l.start > n then some l.start else firstOffending max ok l.start l.run

/-- The place in a LIMITS list, counted from 1, of the first offending entry (R198). -/
def firstBadLimit : Nat → List Nat → List (Nat × Nat) → Option Nat
  | _, _, [] => none
  | place, seen, (n, v) :: rest =>
    if h : 1 ≤ n ∧ n ≤ 27 then
      if place ≤ 27 ∧ n ∉ seen ∧ Limits.inRange ⟨n - 1, by omega⟩ v = true then
        firstBadLimit (place + 1) (n :: seen) rest
      else some place
    else some place

/-- The entries of an accepted list replace their limits. -/
def loadLimits (l : Limits) : List (Nat × Nat) → Limits
  | [] => l
  | (n, v) :: rest => loadLimits (if h : 1 ≤ n ∧ n ≤ 27 then l.set (n - 1) v (by omega) else l) rest

end Sys2Proof.Machine
end

