-- ==== Sys2Proof/Machine/Clip.lean ====
section
/-! DEFINITION. The clip store's commands: the clip requests, the write stage, verification, read-back
and the memory arbiter with its burst completions (R142 to R161), and the end of priming (R170). -/

namespace Sys2Proof.Machine

/-! ### Parts of the clip store -/

def State.setStage (s : State) (w : WriteStage) : State := s.setClip { s.clip with stage := w }
def State.setArb (s : State) (a : Arbiter) : State := s.setClip { s.clip with arb := a }
def State.setBuffer (s : State) (b : ReadBuffer) : State := s.setClip { s.clip with buffer := b }
def State.setVerify (s : State) (v : VerifyState) : State := s.setClip { s.clip with verify := v }
def State.setHeld (s : State) (h : Option Held) : State := s.setHost { s.host with held := h }

/-! ### The read-back buffer (R158) -/

/-- The clip the buffer holds or fetches blocks of. -/
def ReadBuffer.clip : ReadBuffer → Option Nat
  | .empty => none
  | .fetching c _ _ => some c
  | .full c _ _ => some c

/-- The buffer is discarded: a waiting prefetch is withdrawn, one in progress is dropped (R158). -/
def discardBuffer (s : State) : State :=
  let a := s.clip.arb
  let port :=
    match a.port with
    | some ⟨.readBack r, d⟩ => some ⟨.readBack r, d || r.prefetch⟩
    | p => p
  let waiting :=
    match a.readBack with
    | some r => if r.prefetch then none else some r
    | none => none
  s.setClip { s.clip with buffer := .empty, arb := { a with readBack := waiting, port := port } }

/-- The buffer is discarded when it holds or fetches blocks of a clip. -/
def discardFor (clip : Nat) (s : State) : State :=
  if s.clip.buffer.clip = some clip then discardBuffer s else s

/-- After a CLIP READ the blocks that follow are prefetched (R158). -/
def prefetch (clip offset : Nat) (s : State) : State :=
  match s.clipAt clip with
  | none => s.setBuffer .empty
  | some c =>
    let n := min 2 (c.blocks - offset)
    if n = 0 then s.setBuffer .empty
    else
      s.setClip
        { s.clip with
          buffer := .fetching clip offset n
          arb :=
            { s.clip.arb with
              readBack :=
                some { clip := clip, offset := offset, mem := c.start + offset, count := n,
                       prefetch := true } } }

/-- A CLIP READ is answered, and the prefetch started (R157, R158). -/
def answerRead (f : RxFrame) (clip offset count : Nat) (fromBuffer : Bool) (data : List (List Byte))
    (s : State) : State :=
  prefetch clip (offset + count)
    (sendReply f ⟨.done, .done, .read clip (s.clipState clip) offset count fromBuffer data⟩ s)

/-- A read of the named blocks is put to the arbiter, and the reply waits (R157). -/
def readMemory (f : RxFrame) (clip offset count : Nat) (s : State) : State :=
  let s1 := discardBuffer s
  let mem := ((s.clipAt clip).map (·.start)).getD 0 + offset
  (s1.setArb
      { s1.clip.arb with
        readBack :=
          some { clip := clip, offset := offset, mem := mem, count := count, prefetch := false } }).setHeld
    (some (.read f clip offset count false))

/-- The named blocks are obtained from the buffer, from the blocks being fetched, or from memory
(R157). -/
def obtainBlocks (f : RxFrame) (clip offset count : Nat) (s : State) : State :=
  match s.clip.buffer with
  | .full c o data =>
    if c = clip ∧ o ≤ offset ∧ offset + count ≤ o + data.length then
      answerRead f clip offset count true ((data.drop (offset - o)).take count) s
    else readMemory f clip offset count s
  | .fetching c o n =>
    if c = clip ∧ o ≤ offset ∧ offset + count ≤ o + n then
      s.setHeld (some (.read f clip offset count true))
    else readMemory f clip offset count s
  | .empty => readMemory f clip offset count s

/-! ### The write stage (R148 to R153) -/

/-- A block's bytes, filled from its start and zero after (R149). -/
def padBlock (data : List Byte) : List Byte :=
  data ++ List.replicate (Config.blockBytes - data.length) 0

def WriteStage.waiting (w : WriteStage) : List StagedBlock := w.blocks.filter fun b => !b.committing

/-- The commit request of a group of blocks with contiguous offsets (R150, R153). -/
def commitOf (start : Nat) (group : List StagedBlock) : Option CommitReq :=
  match group with
  | [] => none
  | b :: rest =>
    some { clip := b.clip, offset := b.offset, mem := start + b.offset,
           data := b.data :: rest.map (·.data) }

/-- Blocks in groups of up to 4 (R151); the first argument bounds the groups. -/
def groupsOf4 : Nat → List StagedBlock → List (List StagedBlock)
  | 0, _ => []
  | n + 1, bs => if bs.isEmpty then [] else bs.take 4 :: groupsOf4 n (bs.drop 4)

/-- Every waiting block is put in commit requests of up to 4, marked committing, and the idle timer
stops (R150 to R152). -/
def commitWaiting (s : State) : State :=
  let w := s.clip.stage
  let start := ((w.waiting.head?.bind fun b => s.clipAt b.clip).map (·.start)).getD 0
  let reqs := (groupsOf4 Config.stageMax w.waiting).filterMap (commitOf start)
  s.setClip
    { s.clip with
      stage := { w with blocks := w.blocks.map fun b => { b with committing := true }, idle := .stopped }
      arb := { s.clip.arb with commits := s.clip.arb.commits ++ reqs } }

/-- A block is staged as waiting; four waiting blocks become a commit request (R150). -/
def stageBlock (clip offset : Nat) (data : List Byte) (s : State) : State :=
  let w := s.clip.stage
  let s1 :=
    s.setStage
      { blocks := w.blocks ++ [{ clip := clip, offset := offset, data := padBlock data,
                                 committing := false }]
        runClip := some clip, next := offset + 1, idle := .running s.lim.stageIdle }
  if s1.clip.stage.waiting.length = 4 then commitWaiting s1 else s1

/-- The reply to a CLIP DATA that was taken (R150). -/
def State.stagedAnswer (s : State) : Answer :=
  ⟨.done, .done, .staged s.clip.stage.blocks.length s.clip.stage.next⟩

/-- The block of a CLIP DATA is staged and the reply sent (R150, R151). -/
def finishData (f : RxFrame) (clip offset : Nat) (data : List Byte) (s : State) : State :=
  let s1 := stageBlock clip offset data s
  sendReply f s1.stagedAnswer s1

/-- A clip is put at the tail of the verify queue; at the head its first block is requested (R155). -/
def startVerify (s : State) : State :=
  match s.clip.verify.queue with
  | [] => s.setArb { s.clip.arb with verify := none }
  | c :: _ =>
    let start := ((s.clipAt c).map (·.start)).getD 0
    s.setClip
      { s.clip with
        verify := { s.clip.verify with next := 0, crc := 0xFFFFFFFF#32 }
        arb := { s.clip.arb with verify := some (c, start) } }

def setRunClip (r : Option Nat) (s : State) : State := s.setStage { s.clip.stage with runClip := r }

/-- The run clip becomes none when it is this clip (R146, R154). -/
def dropRun (clip : Nat) (s : State) : State :=
  if s.clip.stage.runClip = some clip then setRunClip none s else s

/-- A CLIP SEAL after its flush (R154). -/
def finishSeal (f : RxFrame) (clip : Nat) (crc : Code) (s : State) : State :=
  let s1 :=
    match s.clipAt clip with
    | some c => s.putClip clip (some { c with state := .verifying, crc := some crc })
    | none => s
  let q := s1.clip.verify.queue ++ [clip]
  let s2 := dropRun clip (s1.setVerify { s1.clip.verify with queue := q })
  let s3 := if q.length = 1 then startVerify s2 else s2
  sendReply f ⟨.done, .done, .number q.length⟩ s3

/-- A CLIP ERASE after its flush (R146). -/
def finishErase (f : RxFrame) (clip : Nat) (s : State) : State :=
  sendReply f .done (discardFor clip (dropRun clip (s.putClip clip none)))

/-- The request in hand goes on once its flush is done (R151, R153). -/
def continueHeld (h : Held) (s : State) : State :=
  match h with
  | .data f clip offset data => finishData f clip offset data (s.setHeld none)
  | .seal f clip crc => finishSeal f clip crc (s.setHeld none)
  | .erase f clip => finishErase f clip (s.setHeld none)
  | .readFlush f clip offset count => obtainBlocks f clip offset count (s.setHeld none)
  | .read _ _ _ _ _ => s

/-- The stage is flushed for a request: at once when it is empty, else the request is held while its
blocks are committed (R151). -/
def flushFor (h : Held) (s : State) : State :=
  if s.clip.stage.blocks.isEmpty then continueHeld h s else (commitWaiting s).setHeld (some h)

/-- Whether the stage holds a block of a clip. -/
def State.stages (s : State) (clip : Nat) : Bool := s.clip.stage.blocks.any fun b => b.clip == clip

/-! ### Clip requests -/

/-- Whether two ranges overlap (R143). -/
def rangesOverlap (a an b bn : Nat) : Bool := decide (a < b + bn) && decide (b < a + an)

/-- The lowest other clip whose range overlaps (R145). -/
def State.overlapping (s : State) (clip start blocks : Nat) : Option Nat :=
  (List.range 512).find? fun n =>
    n != clip &&
      match s.clipAt n with
      | some c => rangesOverlap start blocks c.start c.blocks
      | none => false

/-- CLIP DEFINE (R145). -/
def clipDefine (r : ClipDefineReq) (s : State) : State × Answer :=
  let blocks := (r.length + 255) / 256
  if 511 < r.clip then (s, .invalid .range)
  else if r.length < 1 ∨ Config.clipSamplesMax < r.length then (s, .invalid .range)
  else if Config.blockCount ≤ r.start then (s, .invalid .range)
  else if Config.blockCount < r.start + blocks then (s, .invalid .range)
  else if (r.loopStart.map fun l => decide (r.length ≤ l)) = some true then (s, .invalid .range)
  else if (s.clipState r.clip).isSome ∧ s.clipState r.clip ≠ some .bad then (s, .refuse .state)
  else
    match s.overlapping r.clip r.start blocks with
    | some n => (s, ⟨.refused, .overlap, .number n⟩)
    | none =>
      (discardFor r.clip
        (s.putClip r.clip
          (some { state := .loading, start := r.start, length := r.length, loopStart := r.loopStart,
                  crc := none, plays := 0 })), ⟨.done, .done, .number blocks⟩)

/-- CLIP_DEFINE (R145). -/
def execClipDefine (b : Body ClipDefineReq) (s : State) : Out :=
  onRequest 0x40 b s (answering clipDefine)

/-- The tests of CLIP DATA but the last; the first that holds refuses it (R149). -/
def State.refuseData (s : State) (r : ClipDataReq) : Option Answer :=
  if 511 < r.clip then some (.invalid .range)
  else if r.data.length < 1 ∨ Config.blockBytes < r.data.length then some (.invalid .range)
  else
    match s.clipAt r.clip with
    | none => some (.refuse .state)
    | some c =>
      if c.state ≠ .loading then some (.refuse .state)
      else if c.blocks ≤ r.offset then some (.invalid .range)
      else if r.offset + 1 < c.blocks ∧ r.data.length < Config.blockBytes then some (.invalid .short)
      else none

/-- CLIP DATA is judged and taken (R149 to R151). -/
def clipData (f : RxFrame) (r : ClipDataReq) (s : State) : State :=
  match s.refuseData r with
  | some a => sendReply f a s
  | none =>
    if Config.stageMax ≤ s.clip.stage.blocks.length then
      sendReply f (.refuse .busy) (s.setClip { s.clip with busy := bump 65535 s.clip.busy })
    else
      let s1 := discardFor r.clip s
      if s1.clip.stage.runClip = some r.clip ∧ s1.clip.stage.next = r.offset then
        finishData f r.clip r.offset r.data s1
      else flushFor (.data f r.clip r.offset r.data) s1

/-- CLIP_DATA (R149). -/
def execClipData (b : Body ClipDataReq) (s : State) : Out := onRequest 0x41 b s clipData

/-- CLIP SEAL is judged and taken (R154). -/
def clipSeal (f : RxFrame) (r : ClipSealReq) (s : State) : State :=
  if 511 < r.clip then sendReply f (.invalid .range) s
  else if s.clipState r.clip ≠ some .loading then sendReply f (.refuse .state) s
  else if Config.verifyMax ≤ s.clip.verify.queue.length then sendReply f (.refuse .queueFull) s
  else flushFor (.seal f r.clip r.crc) s

/-- CLIP_SEAL (R154). -/
def execClipSeal (b : Body ClipSealReq) (s : State) : Out := onRequest 0x42 b s clipSeal

/-- CLIP READ is judged and taken (R157). -/
def clipRead (f : RxFrame) (r : ClipReadReq) (s : State) : State :=
  if 511 < r.clip then sendReply f (.invalid .range) s
  else if r.count < 1 ∨ 2 < r.count then sendReply f (.invalid .range) s
  else
    match s.clipAt r.clip with
    | none => sendReply f (.refuse .state) s
    | some c =>
      if c.blocks < r.offset + r.count then sendReply f (.invalid .range) s
      else if s.stages r.clip then flushFor (.readFlush f r.clip r.offset r.count) s
      else obtainBlocks f r.clip r.offset r.count s

/-- CLIP_READ (R157). -/
def execClipRead (b : Body ClipReadReq) (s : State) : Out := onRequest 0x43 b s clipRead

/-- CLIP ERASE is judged and taken (R146). -/
def clipErase (f : RxFrame) (clip : Nat) (s : State) : State :=
  if 511 < clip then sendReply f (.invalid .range) s
  else
    match s.clipAt clip with
    | none => sendReply f .already s
    | some c =>
      if 0 < c.plays then sendReply f (.refuse .inUse) s
      else if c.state = .verifying then sendReply f (.refuse .verifying) s
      else if s.stages clip then flushFor (.erase f clip) s
      else finishErase f clip s

/-- CLIP_ERASE (R146). -/
def execClipErase (b : Body Nat) (s : State) : Out := onRequest 0x44 b s clipErase

/-! ### Clip status (R161) -/

/-- A clip's place in the verify queue, 1 being the head (R154, R161). -/
def VerifyState.place (v : VerifyState) (clip : Nat) : Option Nat :=
  (v.queue.findIdx? (· == clip)).map (· + 1)

def State.clipStatusBody (s : State) (n : Nat) : ClipStatusBody :=
  { clip := n, entry := s.clipAt n, blocks := ((s.clipAt n).map Clip.blocks).getD 0,
    place := s.clip.verify.place n,
    next := if s.clip.verify.queue.head? = some n then some s.clip.verify.next else none }

/-- How many clips are in a state, none for EMPTY. -/
def ClipStore.countState (c : ClipStore) (k : Option ClipState) : Nat :=
  c.dir.toList.countP fun e => decide (e.map (·.state) = k)

def State.clipStoreBody (s : State) : ClipStoreBody :=
  { empty := s.clip.countState none
    loading := s.clip.countState (some .loading)
    verifying := s.clip.countState (some .verifying)
    ready := s.clip.countState (some .ready)
    bad := s.clip.countState (some .bad)
    blocks := (s.clip.dir.toList.map fun e => (e.map Clip.blocks).getD 0).sum
    runClip := s.clip.stage.runClip
    next := s.clip.stage.next
    staged := s.clip.stage.blocks.map fun b => (b.offset, b.committing)
    queue := s.clip.verify.queue
    buffer := s.clip.buffer
    arb := s.clip.arb
    busy := s.clip.busy
    stageIdle := s.lim.stageIdle }

/-- CLIP STATUS for a clip or for ALL (R161). -/
def clipStatus (n : Option Nat) (s : State) : State × Answer :=
  match n with
  | none => (s, ⟨.done, .done, .clipStore s.clipStoreBody⟩)
  | some n =>
    if 511 < n then (s, .invalid .range) else (s, ⟨.done, .done, .clipStatus (s.clipStatusBody n)⟩)

/-- CLIP_STATUS (R161). -/
def execClipStatus (b : Body (Option Nat)) (s : State) : Out := onRequest 0x45 b s (answering clipStatus)

/-! ### The stage idle timer and the arbiter (R152, R159) -/

/-- STAGE_IDLE_EXPIRY (R152): taken when the timer has no time left, so that the group a CLIP DATA joined
before the expiry waits the time started again (log 2). -/
def execStageIdleExpiry (s : State) : Out :=
  match s.clip.stage.idle with
  | .running 0 => .next (commitWaiting s)
  | _ => .next s

/-- The voices in the order of service that starts after the last one served (R159). -/
def serviceOrder (last : Fin 8) : List (Fin 8) :=
  (List.range 8).map fun i => ⟨(last.val + 1 + i) % 8, by omega⟩

/-- The voice whose refill is chosen (R159). -/
def Arbiter.nextRefill (a : Arbiter) : Option (Fin 8) :=
  (serviceOrder a.lastVoice).find? fun v => a.refills[v].isSome

/-- The arbiter's choice among the requests that wait, in the order of classes (R159). -/
def Arbiter.choose (a : Arbiter) : Arbiter :=
  match a.nextRefill with
  | some v =>
    { a with
      refills := a.refills.set v none, lastVoice := v
      port := a.refills[v].map fun r => ⟨.refill v r, false⟩ }
  | none =>
    match a.commits with
    | c :: rest => { a with commits := rest, port := some ⟨.commit c, false⟩ }
    | [] =>
      match a.readBack with
      | some r => { a with readBack := none, port := some ⟨.readBack r, false⟩ }
      | none =>
        match a.verify with
        | some (c, m) => { a with verify := none, port := some ⟨.verify c m, false⟩ }
        | none => a

/-- ARBITER_CHOICE (R159). -/
def execArbiterChoice (s : State) : Out :=
  if s.clip.arb.port = none then .next (s.setArb s.clip.arb.choose) else .next s

/-! ### Burst completions (R160) -/

/-- Whether consecutive blocks lie in sample memory (R142). -/
def blocksExist (block count : Nat) : Bool := decide (block + count ≤ Config.blockCount)

/-- The port is free again. -/
def freePort (s : State) : State := s.setArb { s.clip.arb with port := none }

/-- The blocks of a commit request leave the stage (R153). -/
def leaveStage (r : CommitReq) (s : State) : State :=
  s.setStage
    { s.clip.stage with
      blocks := s.clip.stage.blocks.filter fun b =>
        !(b.committing && decide (b.clip = r.clip) && decide (r.offset ≤ b.offset) &&
          decide (b.offset < r.offset + r.data.length)) }

/-- The held request goes on when the stage is empty (R153). -/
def flushTest (s : State) : State :=
  match s.host.held with
  | some h => if s.clip.stage.blocks.isEmpty then continueHeld h s else s
  | none => s

/-- A commit burst writes its blocks (R153). -/
def writeCommit (r : CommitReq) (s : State) : State :=
  s.setClip { s.clip with mem := Memory.writeBlocks s.clip.mem r.mem r.data }

/-- COMMIT_BURST_COMPLETE (R153, R160). -/
def execCommitBurstComplete (s : State) : Out :=
  match s.clip.arb.port with
  | some ⟨.commit r, dropped⟩ =>
    if blocksExist r.mem r.data.length then
      let s1 := writeCommit r (freePort s)
      .next (if dropped then s1 else flushTest (leaveStage r s1))
    else .fault .memoryAddress
  | _ => .next s

/-- The held CLIP READ is answered with the blocks its burst read. -/
def answerFromMemory (data : List (List Byte)) (s : State) : State :=
  match s.host.held with
  | some (.read f clip offset count false) => answerRead f clip offset count false data (s.setHeld none)
  | _ => s

/-- The buffer is FULL, and a CLIP READ that waits for it is answered (R158). -/
def fillBuffer (r : ReadReq) (data : List (List Byte)) (s : State) : State :=
  let s1 := s.setBuffer (.full r.clip r.offset data)
  match s1.host.held with
  | some (.read f clip offset count true) => obtainBlocks f clip offset count (s1.setHeld none)
  | _ => s1

/-- READ_BACK_BURST_COMPLETE (R157, R158, R160). -/
def execReadBackBurstComplete (s : State) : Out :=
  match s.clip.arb.port with
  | some ⟨.readBack r, dropped⟩ =>
    if blocksExist r.mem r.count then
      let data := Memory.readBlocks s.clip.mem r.mem r.count
      let s1 := freePort s
      .next (if dropped then s1 else if r.prefetch then fillBuffer r data s1 else answerFromMemory data s1)
    else .fault .memoryAddress
  | _ => .next s

/-- The bytes of a block that verification feeds (R155). -/
def Clip.fedBytes (c : Clip) (block : Nat) (data : List Byte) : List Byte :=
  if block + 1 = c.blocks then data.take (2 * (c.length - 256 * (c.blocks - 1))) else data

/-- The head clip's verification ends: READY, or BAD with F17 (R156). -/
def endVerify (n : Nat) (c : Clip) (computed : Code) (s : State) : State :=
  let ok := decide (c.crc = some computed)
  let s1 := s.putClip n (some { c with state := if ok then .ready else .bad })
  let s2 := s1.setVerify { s1.clip.verify with queue := s1.clip.verify.queue.tail }
  let s3 := if ok then s2 else raiseFault .f17 (.clipCrc n computed (c.crc.getD 0)) s2
  startVerify (postEvent (.clipVerified n ok computed c.crc) s3)

/-- A verify block is fed, and the next requested or the check ended (R155, R156). -/
def feedBlock (n : Nat) (c : Clip) (data : List Byte) (s : State) : State :=
  let v := s.clip.verify
  let crc := crc32Feed v.crc (c.fedBytes v.next data)
  if v.next + 1 < c.blocks then
    s.setClip
      { s.clip with
        verify := { v with next := v.next + 1, crc := crc }
        arb := { s.clip.arb with verify := some (n, c.start + (v.next + 1)) } }
  else endVerify n c (crc ^^^ 0xFFFFFFFF#32) s

/-- VERIFY_BLOCK_COMPLETE (R155, R160). -/
def execVerifyBlockComplete (s : State) : Out :=
  match s.clip.arb.port with
  | some ⟨.verify n m, dropped⟩ =>
    if blocksExist m 1 then
      let s1 := freePort s
      match dropped, s1.clipAt n with
      | false, some c => .next (feedBlock n c (Memory.readBlock s.clip.mem m) s1)
      | _, _ => .next s1
    else .fault .memoryAddress
  | _ => .next s

/-- A PRIMING voice whose ring holds enough becomes PLAYING, or PAUSED with pause pending (R170). -/
def Voice.primed (w : Voice) : Voice :=
  if w.state = .priming ∧ (2 ≤ w.ring.length ∨ (w.cursor = none ∧ w.refill = false)) then
    { w with state := if w.pausePending then .paused else .playing, pausePending := false }
  else w

/-- A refill's blocks join the ring, and the tests of R169 and R170 are made. -/
def joinRing (v : Fin 8) (data : List (List Byte)) (s : State) : State :=
  let w := s.getVoice v
  let s1 := refillTest v (s.putVoice v { w with ring := w.ring ++ data, refill := false })
  s1.putVoice v (s1.getVoice v).primed

/-- REFILL_COMPLETE (R160, R169). -/
def execRefillComplete (s : State) : Out :=
  match s.clip.arb.port with
  | some ⟨.refill v r, dropped⟩ =>
    if blocksExist r.mem r.count then
      let data := Memory.readBlocks s.clip.mem r.mem r.count
      let s1 := freePort s
      .next (if dropped then s1 else joinRing v data s1)
    else .fault .memoryAddress
  | _ => .next s

end Sys2Proof.Machine
end

