-- ==== Sys2Proof/Machine/ZoneOps.lean ====
section
/-! DEFINITION. The shared operations of the zone unit: the zone map, the reservation table, the
mailbox and the long queue, claims, releases, the hold point, zone violation, link supervision, and what
the cue unit does when it is told SENT or NOT SENT (R68 to R93, R130). -/

namespace Sys2Proof.Machine

/-! ### SENT and NOT SENT (R130) -/

def AckEntry.isFor (e : AckEntry) (cueId : Nat) (tag : Byte) : Bool :=
  decide (e.cueId = cueId) && decide (e.tag = tag)

def State.ackFor (s : State) (cueId : Nat) (tag : Byte) : Option AckEntry :=
  s.cue.acks.find? fun e => e.isFor cueId tag

/-- An acknowledgement entry is closed. -/
def closeAck (cueId : Nat) (tag : Byte) (s : State) : State :=
  s.setCue { s.cue with acks := s.cue.acks.filter fun e => !e.isFor cueId tag }

/-- NOT SENT: the entry is closed, the outcome set and a CUE report posted with the send count given
(R130, R141). -/
def cueNotSent (f : SceneFrame) (sends : Option Nat) (s : State) : State :=
  tellCue f.cueId .notSent (.sends sends) (closeAck f.cueId f.tag s)

/-- SENT: an entry in stage QUEUED starts its acknowledgement timer (R130). -/
def cueSent (f : SceneFrame) (s : State) : State :=
  s.setCue
    { s.cue with
      acks := s.cue.acks.map fun e =>
        if e.isFor f.cueId f.tag && decide (e.stage = .queued) then
          { e with stage := .waiting Config.ackMs }
        else e }

/-! ### The zone map (R68) -/

/-- The zone ids and starts of the segments that begin a run, given the zone of the segment before. -/
def runStarts : Nat → List SegAt → List (Nat × Nat)
  | _, [] => []
  | prev, g :: gs =>
    if g.seg.zone = prev then runStarts prev gs
    else (g.seg.zone, g.start) :: runStarts g.seg.zone gs

/-- The zone map of a path (R68): each run with the start of the next run, the last with the first's. -/
def zoneMap (path : List Segment) : List ZoneInfo :=
  let rs := runStarts ((path.getLast?.map (·.zone)).getD 0) (segments path)
  List.zipWith (fun a b => { zone := a.1, entry := a.2, exit := b.2, ahead := b.1 }) rs
    (rs.tail ++ rs.take 1)

def State.zoneInfo (s : State) (z : Nat) : Option ZoneInfo := s.zone.zmap.find? fun i => i.zone == z

/-- The zones met by following "zone ahead" from a zone until it comes round again. -/
def zonesAhead (zmap : List ZoneInfo) (z : Nat) : List ZoneInfo :=
  let i := zmap.findIdx fun x => x.zone == z
  zmap.drop (i + 1) ++ zmap.take i

/-! ### The reservation table (R70) -/

def State.entryOf (s : State) (z : Nat) : Option Reservation := s.zone.table.find? fun r => r.zone == z

/-- Whether the zone's entry is HELD. -/
def State.zoneHeld (s : State) (z : Nat) : Bool :=
  match s.entryOf z with
  | some r => decide (r.state = .held)
  | none => false

/-- The signed distance from the front to a zone's entry, the key of the path order (R70). -/
def State.entryDist (s : State) (z : Nat) : Int :=
  match s.zoneInfo z with
  | some i => s.fromFront i.entry
  | none => 0

def insertRes (key : Nat → Int) (r : Reservation) : List Reservation → List Reservation
  | [] => [r]
  | x :: xs => if key r.zone ≤ key x.zone then r :: x :: xs else x :: insertRes key r xs

/-- The table in path order, the rearmost first (R70). -/
def sortTable (s : State) : State :=
  s.setZone { s.zone with table := s.zone.table.foldr (insertRes s.entryDist) [] }

/-- The entry of a zone is changed. -/
def modEntry (z : Nat) (f : Reservation → Reservation) (s : State) : State :=
  s.setZone { s.zone with table := s.zone.table.map fun r => if r.zone = z then f r else r }

/-- A change of the table posts a ZONE STATUS report (R70). -/
def reportTable (s : State) : State := postState .zoneStatus 0 s

/-- The counter's value as a new tag, after which the counter is incremented (R70). -/
def nextTag (s : State) : State := s.setZone { s.zone with tagCtr := s.zone.tagCtr + 1 }

/-- The entry is removed; a frame of it that waits is no entry's any longer (log 13). -/
def removeEntry (z : Nat) (s : State) : State :=
  reportTable
    (s.setZone
      { s.zone with
        table := s.zone.table.filter fun r => r.zone != z
        mailbox := s.zone.mailbox.map fun m => if m.owner = some z then { m with owner := none } else m })

/-! ### The mailbox (R85) -/

/-- The mailbox with a frame put in it, or none when it is full. -/
def mailPut (m : Mail) (box : List Mail) : Option (List Mail) :=
  if m.owner.isSome && box.any (fun x => decide (x.owner = m.owner)) then
    some (box.map fun x => if x.owner = m.owner then m else x)
  else if box.length < Config.mailboxMax then some (box ++ [m])
  else none

/-- The frame an entry sends in its state. -/
def Reservation.frame (r : Reservation) : MailFrame :=
  match r.state with
  | .releasing => .release r.zone r.tag
  | _ => .claim r.zone r.tag

/-- The timer that is started as that frame enters the mailbox. -/
def Reservation.sendTimer (r : Reservation) (ms : Nat) : ResTimer :=
  match r.state with
  | .releasing => .release ms
  | _ => .claim ms

/-- The entry of a zone puts its frame in the mailbox and starts its timer, or is marked send due when
there is no room (R72, R85) or the link is stopped (R90). -/
def sendEntry (z : Nat) (s : State) : State :=
  match s.entryOf z with
  | none => s
  | some r =>
    match (if s.zone.link = .stopped then none else mailPut ⟨some z, r.frame⟩ s.zone.mailbox) with
    | some box =>
      modEntry z
        (fun r => { r with outstanding := true, sendDue := false, timer := r.sendTimer s.lim.claimTimer })
        (s.setZone { s.zone with mailbox := box })
    | none => modEntry z (fun r => { r with sendDue := true, timer := .stopped }) s

/-- An entry marked send due is served while the mailbox has room (R85). -/
def serveEntry (s : State) (z : Nat) : State :=
  if s.zone.mailbox.length < Config.mailboxMax then sendEntry z s else s

/-- Entries marked send due are served in table order while the mailbox has room (R85). -/
def serveSendDue (s : State) : State :=
  ((s.zone.table.filter (·.sendDue)).map (·.zone)).foldl serveEntry s

/-- A ZONE event report. -/
def reportZone (r : ZoneReport) (s : State) : State := postEvent (.zone r) s

/-- A return RELEASE is put in the mailbox, or dropped and counted (R78, R85). -/
def returnRelease (z : Nat) (tag : Byte) (s : State) : State :=
  match (if s.zone.link = .stopped then none else mailPut ⟨none, .returnRelease z tag⟩ s.zone.mailbox) with
  | some box => s.setZone { s.zone with mailbox := box }
  | none =>
    reportZone (.returnLost z)
      (s.setZone
        { s.zone with counts := { s.zone.counts with returnLost := bump 255 s.zone.counts.returnLost } })

/-! ### The long queue (R86, R87) -/

/-- A SCENE CUE frame joins the long queue, or the cue unit is told NOT SENT (R86, R90). -/
def putScene (f : SceneFrame) (s : State) : State :=
  if s.zone.long.length < Config.longMax ∧ s.zone.link ≠ .stopped then
    s.setZone { s.zone with long := s.zone.long ++ [.scene f] }
  else cueNotSent f (some f.sends) s

/-- The first SCENE CUE of a list gives its place to a frame: the SCENE CUE, and the list after. -/
def displaceScene (a : LongFrame) : List LongFrame → Option (SceneFrame × List LongFrame)
  | [] => none
  | .scene f :: rest => some (f, a :: rest)
  | x :: rest => (displaceScene a rest).map fun p => (p.1, x :: p.2)

/-- A REVOKE answer joins the long queue by R86. -/
def putAnswer (a : LongFrame) (s : State) : State :=
  if s.zone.long.length < Config.longMax then s.setZone { s.zone with long := s.zone.long ++ [a] }
  else
    match displaceScene a s.zone.long.reverse with
    | some (f, rest) =>
      cueNotSent f (some f.sends) (s.setZone { s.zone with long := rest.reverse })
    | none =>
      s.setZone
        { s.zone with counts := { s.zone.counts with longDrops := bump 255 s.zone.counts.longDrops } }

def LongFrame.isBeacon : LongFrame → Bool
  | .beacon _ => true
  | _ => false

/-- A BEACON takes the place of a waiting one, or joins the long queue, or is skipped (R87). -/
def putBeacon (b : BeaconFrame) (s : State) : State :=
  if s.zone.long.any LongFrame.isBeacon then
    s.setZone
      { s.zone with long := s.zone.long.map fun f => if f.isBeacon then .beacon b else f }
  else if s.zone.long.length < Config.longMax then
    s.setZone { s.zone with long := s.zone.long ++ [.beacon b] }
  else
    s.setZone
      { s.zone with
        counts := { s.zone.counts with beaconSkips := bump 65535 s.zone.counts.beaconSkips } }

/-! ### The hold point (R81) -/

/-- Where the hold point lies (R81). -/
def State.holdPointNow (s : State) : Option HoldPoint :=
  if s.isReady then
    match s.frontZone with
    | none => none
    | some fz =>
      if s.zoneHeld fz then
        ((zonesAhead s.zone.zmap fz).find? fun i => !s.zoneHeld i.zone).map fun i =>
          { pos := wrapPos s.P ((i.entry : Int) - s.lim.stopMargin), zone := i.zone }
      else some { pos := s.guide.est.front, zone := fz }
  else none

/-- The hold point is worked out anew (R81). -/
def recomputeHold (s : State) : State := s.setZone { s.zone with hold := s.holdPointNow }

/-! ### F10 (R91) -/

/-- The class F10 is raised with, from the motion state at that moment (R91). -/
def State.f10Class (s : State) : FaultClass :=
  match s.mstate with
  | .run | .creep | .stopping => .stop
  | _ => .hold

/-- The F10 condition is tested: raised as it becomes active, ended as it becomes inactive (R91). -/
def testF10 (cause : FaultDetail) (s : State) : State :=
  if s.zone.linkFault then
    if s.faultActive .f10 then s else raiseAs .f10 s.f10Class cause s
  else endCond .f10 s

/-! ### Claims and releases (R71 to R79) -/

/-- A zone is claimed: an entry in REQUESTED with a new tag, in path order, and its CLAIM (R72). -/
def claimZone (z : Nat) (s : State) : State :=
  let r : Reservation :=
    { zone := z, state := .requested, tag := s.zone.tagCtr, deny := 0, resend := 0, timer := .stopped,
      outstanding := false, failed := false, sendDue := false }
  sendEntry z
    (reportTable (sortTable ((nextTag s).setZone { (nextTag s).zone with table := s.zone.table ++ [r] })))

/-- An entry becomes REQUESTED afresh: new tag, deny and resend counts 0, not failed, and its CLAIM is
put in the mailbox at once (R76). -/
def restartClaim (z : Nat) (s : State) : State :=
  let tag := s.zone.tagCtr
  let s1 :=
    modEntry z
      (fun r => { r with state := .requested, tag := tag, deny := 0, resend := 0, timer := .stopped,
                         outstanding := false, failed := false, sendDue := false })
      (nextTag s)
  sendEntry z (if (s.entryOf z).map (·.state) = some .requested then s1 else reportTable s1)

/-- An entry becomes RELEASING with a new tag and puts its RELEASE (R79). -/
def startRelease (z : Nat) (s : State) : State :=
  let tag := s.zone.tagCtr
  sendEntry z
    (reportTable
      (modEntry z
        (fun r => { r with state := .releasing, tag := tag, resend := 0, timer := .stopped,
                           outstanding := false, failed := false, sendDue := false })
        (nextTag s)))

/-- The claim test of a full or a partly filled table (R71). -/
def claimTest (s : State) : State :=
  match s.frontZone with
  | none => s
  | some fz =>
    let s1 :=
      if (s.mstate = .hold ∨ s.mstate = .run) ∧ s.entryOf fz = none ∧
          s.zone.table.length < Config.tableMax then claimZone fz s
      else s
    match (zonesAhead s1.zone.zmap fz).find? fun i => (s1.entryOf i.zone).isNone with
    | none => s1
    | some i =>
      if s1.fromFront i.entry ≤ s1.lim.claimDistance ∧ s1.zone.table.length < Config.tableMax then
        claimZone i.zone s1
      else s1

/-- The rear position (R68). -/
def State.rear (s : State) : Nat := wrapPos s.P ((s.guide.est.front : Int) - s.lim.vehicleLength)

/-- The release test of one entry (R79). -/
def releaseOne (z : Nat) (s : State) : State :=
  match s.entryOf z, s.zoneInfo z with
  | some r, some i =>
    if some z ≠ s.frontZone ∧ 0 < signedDist s.P i.exit s.rear then
      match r.state with
      | .held => startRelease z s
      | .requested => if r.outstanding then startRelease z s else removeEntry z s
      | .waiting | .closed => removeEntry z s
      | .releasing => s
    else s
  | _, _ => s

/-- The release test of every entry, in table order; an entry leaving the failed condition has F10
tested again (R79, R91). -/
def releaseTest (s : State) : State :=
  testF10 .link ((s.zone.table.map (·.zone)).foldl (fun st z => releaseOne z st) s)

/-- Whether the release and claim tests are made on an update (R71, R79). -/
def State.claimsNow (s : State) (u : PosUpdate) : Bool :=
  s.isReady && u.after.known &&
    (decide (s.mstate = .hold) || decide (s.mstate = .run) || decide (s.mstate = .stopping))

/-- The zones whose entry the front has newly reached without holding them, nearest first (R84). -/
def State.violated (s : State) (u : PosUpdate) : List Nat :=
  let P := s.P
  match segmentAt s.guide.path u.frontBefore with
  | none => []
  | some g =>
    (((zonesAhead s.zone.zmap g.seg.zone) ++ (s.zoneInfo g.seg.zone).toList).filter fun i =>
      decide (0 < signedDist P u.frontBefore i.entry) && decide (signedDist P u.frontAfter i.entry ≤ 0) &&
        !s.zoneHeld i.zone).map (·.zone)

/-- Whether an update is tested for zone violation (R84). -/
def PosUpdate.crosses (u : PosUpdate) : Bool :=
  !u.isSet && u.before.known && u.after.known &&
    decide (0 < u.movement + (u.accepted.map (·.2)).getD 0)

/-- Zone violation: a ZONE report for each zone, and F09 once, naming the first (R84). -/
def violationTest (u : PosUpdate) (s : State) : State :=
  if u.crosses then
    match s.violated u with
    | [] => s
    | z :: zs =>
      raiseFault .f09 (.zone z) ((z :: zs).foldl (fun st x => reportZone (.violation x) st) s)
  else s

/-- What the zone unit does on a position update (R70, R71, R79, R81, R84); the test for zone violation
comes last (log 48). -/
def zoneUpdate (u : PosUpdate) (s : State) : State :=
  let s1 := sortTable s
  let s2 := if s1.claimsNow u then claimTest (releaseTest s1) else s1
  violationTest u (recomputeHold s2)

/-! ### The wayside link (R88 to R93) -/

/-- A valid frame restarts the link timer, and in STARTING or LOST makes the link UP (R90). -/
def validFrame (s : State) : State :=
  let s1 :=
    s.setZone
      { s.zone with
        link := .up, linkTimer := .running s.lim.linkTimeout, sinceFrame := some 0 }
  if s.zone.link = .up then s1 else testF10 .link s1

/-- A wayside frame row: nothing while the link is stopped or for another vehicle's frame; else the
frame is valid and `act` takes it (R89, R90). -/
def onWayside (dest : Byte) (s : State) (act : State → State) : Out :=
  if s.zone.link = .stopped then .next s
  else if s.addressed dest then .next (act (validFrame s))
  else .next s

/-- A stale answer is counted (R89). -/
def countStale (s : State) : State :=
  s.setZone { s.zone with counts := { s.zone.counts with stale := bump 65535 s.zone.counts.stale } }

/-- A discarded wayside frame is counted (R89). -/
def countDiscard (s : State) : State :=
  s.setZone { s.zone with counts := { s.zone.counts with discards := bump 65535 s.zone.counts.discards } }

/-- A frame removed from the long queue: a SCENE CUE is reported NOT SENT (R130). -/
def dropLong (withCount : Bool) (s : State) (f : LongFrame) : State :=
  match f with
  | .scene c => cueNotSent c (if withCount then some c.sends else none) s
  | _ => s

/-- Both transmit queues are emptied; each SCENE CUE removed is reported NOT SENT, with its send count
or without (R88, R93, R141). -/
def emptyQueues (withCount : Bool) (s : State) : State :=
  s.zone.long.foldl (dropLong withCount) (s.setZone { s.zone with mailbox := [], long := [] })

/-- The reservation table is emptied, which posts its report when it held an entry (R70, R93). -/
def emptyTable (s : State) : State :=
  if s.zone.table.isEmpty then s else reportTable (s.setZone { s.zone with table := [] })

/-- The wayside link is started (R88, R90) and a VEHICLE RESET is put in the empty mailbox (R93). -/
def startLink (s : State) : State :=
  s.setZone
    { s.zone with
      link := .starting, linkTimer := .running s.lim.linkTimeout
      beaconTimer := .running Config.beaconMs, tookMailbox := false
      mailbox := [⟨none, .vehicleReset⟩] }

/-- The wayside link is stopped, its queues emptied and the link part of F10 ended (R88, R90, R91). -/
def stopLink (s : State) : State :=
  testF10 .link
    (emptyQueues true
      (s.setZone { s.zone with link := .stopped, linkTimer := .stopped, beaconTimer := .stopped }))

/-- The BEACON as it stands (R87). -/
def State.beaconNow (s : State) : BeaconFrame :=
  { vehicle := s.lim.vehicleId, front := s.guide.est.front, lap := s.guide.est.lap, speed := s.guide.est.speed,
    demand := s.motion.speed.demand, motion := s.mstate, posState := s.guide.est.posState,
    held := (s.zone.table.filter fun r => decide (r.state = .held)).map (·.zone) }

end Sys2Proof.Machine
end

