-- ==== Sys2Proof/Machine/CueOps.lean ====
section
/-! DEFINITION. The shared operations of the cue unit: show flag writes, output operations, the lap
check, placing, the taking of cues and what each kind does (R123 to R136). -/

namespace Sys2Proof.Machine

/-! ### Flags and outputs -/

def State.flag (s : State) (i : Fin 32) : Bool := s.cue.flags[i]

/-- A show flag is written; a change posts a FLAGS report (R136). -/
def writeFlag (i : Fin 32) (v : Bool) (s : State) : State :=
  if s.flag i = v then s
  else postState .flags 0 (s.setCue { s.cue with flags := s.cue.flags.set i v })

/-- An operation on an output, whatever its state (R134). -/
def OutputState.afterOp (op : OutputOp) (time : Nat) : OutputState :=
  match op with
  | .set => .on
  | .clear => .off
  | .pulse => .pulsing time

def setOutput (o : Fin 8) (x : OutputState) (s : State) : State :=
  s.setCue { s.cue with outputs := s.cue.outputs.set o x }

/-- The level of an output line (R133). -/
def OutputState.driven : OutputState → Bool
  | .off => false
  | .on | .pulsing _ => true

/-! ### The lap check and placing (R123 to R125) -/

/-- The cues whose index lies in a span take a last outcome with the cue lap. -/
def markSpan (lo hi : Nat) (o : CueOutcome) (s : State) : State :=
  s.setCue
    { s.cue with
      cues := s.cue.cues.mapIdx fun i c =>
        if lo ≤ i ∧ i < hi then { c with last := some (o, s.cue.lap) } else c }

/-- The lap difference (R123). -/
def State.lapDiff (s : State) (lap : Half) : Int := (lap - s.cue.lap).toInt

/-- A new lap: the untaken cues are MISSED, and the pointer goes back to 0 (R123). -/
def newLap (lap : Half) (s : State) : State :=
  let n := s.cue.cues.length
  let s1 :=
    match s.cue.cues.drop s.cue.pointer with
    | [] => s
    | c :: rest =>
      postEvent (.cueMissed s.cue.lap (rest.length + 1) c.id) (markSpan s.cue.pointer n .missed s)
  s1.setCue { s1.cue with pointer := 0, lap := lap }

/-- A placing update passes over the cues at or behind the new position (R125). -/
def placeCues (cause : PlacingCause) (front : Nat) (s : State) : State :=
  let passed := (s.cue.cues.drop s.cue.pointer).takeWhile fun c => decide (c.trigger ≤ front)
  match passed with
  | [] => s
  | c :: rest =>
    let p := s.cue.pointer + (rest.length + 1)
    let s1 := markSpan s.cue.pointer p .passedOver s
    postEvent (.cuePassedOver cause (rest.length + 1) c.id (rest.getLast?.getD c).id)
      (s1.setCue { s1.cue with pointer := p })

/-- Whether an update is placing, and its cause (R124). -/
def PosUpdate.placing (u : PosUpdate) : Option PlacingCause :=
  if u.isSet then some .set
  else if (u.before = .unlocated ∨ u.before = .lost) ∧ u.after = .located then some .locate
  else none

/-- Whether an update is tested for firing (R124). -/
def State.cueTested (s : State) (u : PosUpdate) : Bool :=
  u.after.known &&
    match s.mstate with
    | .run | .hold | .creep | .stopping => true
    | .parked | .stopped | .estop => false

/-! ### What each kind does (R128, R129) -/

/-- A cue's VOICE START is handed to the voice engine (R165). -/
def cueVoiceStart (id : Nat) (late : Bool) (v : Fin 8) (clip gain : Nat) (routes : Routes)
    (hold : HoldPolicy) (loop : Bool) (s : State) : State :=
  if s.claimable clip then
    takeStart v
      { clip := clip, gain := gain, routes := routes, hold := hold, loop := loop, duckable := true,
        announce := false, source := .cue id late } s
  else tellCue id .startFailed .bare s

/-- The scene tag counter's value is taken, and the counter incremented (R129). -/
def takeSceneTag (s : State) : State := s.setCue { s.cue with sceneTag := s.cue.sceneTag + 1 }

/-- A SCENE cue: its tag, its acknowledgement entry and its frame (R129). -/
def fireScene (id : Nat) (late : Bool) (controller number : Nat) (ack : Bool) (s : State) : State :=
  let tag := s.cue.sceneTag
  let s1 := takeSceneTag s
  let s2 :=
    if ack then
      if s1.cue.acks.length < Config.ackMax then
        s1.setCue
          { s1.cue with
            acks := s1.cue.acks ++
              [{ cueId := id, tag := tag, controller := controller, number := number, late := late,
                 sends := 1, stage := .queued }] }
      else
        tellCue id .ackUntracked .bare
          (s1.setCue { s1.cue with untracked := bump 65535 s1.cue.untracked })
    else s1
  putScene
    { controller := controller, number := number, cueId := id, tag := tag, late := late, ack := ack,
      sends := 1 } s2

/-- The action of a cue that fires (R128). A voice, output or flag number that names nothing acts on
nothing: COMMIT has refused it (R121, R122). -/
def fireCue (id : Nat) (late : Bool) (k : CueKind) (s : State) : State :=
  match k with
  | .voiceStart v clip gain routes hold loop =>
    if h : v < 8 then cueVoiceStart id late ⟨v, h⟩ clip gain routes hold loop s else s
  | .voiceStop v fade => if h : v < 8 then stopVoice ⟨v, h⟩ fade s else s
  | .voiceGain v target ramp => if h : v < 8 then gainVoice ⟨v, h⟩ target ramp s else s
  | .scene controller number ack => fireScene id late controller number ack s
  | .output o op time => if h : o < 8 then setOutput ⟨o, h⟩ (OutputState.afterOp op time) s else s
  | .flag i v => if h : i < 32 then writeFlag ⟨i, h⟩ v s else s

/-! ### Taking cues (R126, R127) -/

/-- The effective trigger (R126). -/
def Cue.effective (c : Cue) (v : Nat) : Nat := c.trigger - (v * c.lead + 500) / 1000

/-- Whether a condition is met (R127). -/
def State.condMet (s : State) (c : Option (Nat × Bool)) : Bool :=
  match c with
  | none => true
  | some (i, want) => if h : i < 32 then decide (s.flag ⟨i, h⟩ = want) else false

/-- The outcome of a cue that is taken (R127). -/
def State.judgeCue (s : State) (c : Cue) (front : Nat) : CueOutcome :=
  if s.mstate = .stopping ∧ c.stopSafe = false then .skippedStop
  else if c.trigger ≤ front ∧ c.late = .skipLate then .skippedLate
  else if s.condMet c.cond = false then .skippedCondition
  else if c.trigger ≤ front then .firedLate
  else .fired

def CueOutcome.fires : CueOutcome → Bool
  | .fired | .firedLate => true
  | _ => false

/-- The cue at the pointer is taken: judged, marked, reported unless FIRED, and acted on when it
fires (R126 to R128). -/
def takeCue (i : Nat) (c : Cue) (front : Nat) (s : State) : State :=
  let o := s.judgeCue c front
  let s1 := markSpan i (i + 1) o s
  let s2 := s1.setCue { s1.cue with pointer := i + 1 }
  let s3 :=
    if o = .fired then s2
    else postEvent (.cue c.id o (.taken i s.cue.lap front s.motion.speed.demand)) s2
  if o.fires then fireCue c.id (decide (o = .firedLate)) c.kind s3 else s3

/-- The cues reached are taken in list order; the first argument bounds their number (R126). -/
def takeCues : Nat → Nat → State → State
  | 0, _, s => s
  | n + 1, front, s =>
    match s.cue.cues[s.cue.pointer]? with
    | none => s
    | some c =>
      if c.effective s.motion.speed.demand ≤ front then takeCues n front (takeCue s.cue.pointer c front s)
      else s

/-- What the cue unit does on a position update (R123 to R127). -/
def cueUpdate (u : PosUpdate) (s : State) : State :=
  if s.isReady = false then s
  else if s.lapDiff u.lapAfter < 0 then s
  else
    let s1 := if 0 < s.lapDiff u.lapAfter then newLap u.lapAfter s else s
    match u.placing with
    | some cause => placeCues cause u.frontAfter s1
    | none => if s1.cueTested u then takeCues s1.cue.cues.length u.frontAfter s1 else s1

end Sys2Proof.Machine
end

