-- ==== Sys2Proof/Machine/Drive.lean ====
section
/-! DEFINITION. The motion unit's work on a position update: standstill, the ends of creep and of a
stop, the station stop, the speed demand, the DEMAND frame (R13, R30 to R41, R60, R63), and a FEEDBACK
(R40 to R43). -/

namespace Sys2Proof.Machine

/-! ### Standstill, creep and the station stop -/

/-- The still count and the standstill flag follow the measured speed (R13). -/
def updateStill (s : State) : State :=
  let n := if s.guide.est.speed.natAbs < 5 then bump Config.stillMax s.motion.still else 0
  s.setMotion { s.motion with still := n, standstill := decide (n = Config.stillMax) }

/-- The creep distance grows and the end of a creep is tested (R63). -/
def creepTest (u : PosUpdate) (s : State) : State :=
  if s.mstate = .creep then
    let d := min Config.creepMax (s.motion.record.creepDist + u.movement.natAbs)
    let s1 := s.setMotion { s.motion with record := { s.motion.record with creepDist := d } }
    match u.accepted with
    | some (code, corr) => creepEnd (.found code corr) (moveTo .hold s1)
    | none => if d = Config.creepMax then creepEnd (.limit d) (moveTo .hold s1) else s1
  else s

/-- STOPPING becomes STOPPED at standstill (R60). -/
def stoppedTest (s : State) : State :=
  if s.mstate = .stopping ∧ s.motion.standstill = true then enterStopped s else s

/-- The station stop is armed on the first update in RUN outside the load zone (R36). -/
def armingTest (s : State) : State :=
  if s.mstate = .run ∧ s.motion.armed = none ∧ s.inLoadZone = false then
    s.setMotion { s.motion with armed := some s.guide.est.lap }
  else s

/-- Whether a position lies in the arrival window (R38). -/
def inArrivalWindow (P front : Nat) : Bool :=
  decide (P ≤ front + Config.arrivalWindow) || decide (front ≤ Config.arrivalWindow)

/-- Station arrival: RUN becomes HOLD with resume target none (R38, R57). -/
def arrivalTest (s : State) : State :=
  if s.mstate = .run ∧ s.motion.armed.isSome ∧ s.motion.standstill = true ∧
      inArrivalWindow s.P s.guide.est.front = true then
    changeMotion .hold false (s.setMotion { s.motion with armed := none })
  else s

/-! ### The speed demand (R31 to R37) -/

/-- The station distance, while the station stop is armed (R37). -/
def State.stationDist (s : State) : Option Int :=
  s.motion.armed.map fun a =>
    if s.guide.est.lap = a then (s.P : Int) - s.guide.est.front
    else if s.guide.est.lap = a + 1 then -(s.guide.est.front : Int)
    else 0

/-- The hold distance D_h with the term that gives it; the hold point is named on equal distances. In
CREEP there is none (R33, R35). -/
def State.holdDistNow (s : State) : Option (Int × Setter) :=
  if s.mstate = .creep then none
  else
    match s.zone.hold.map (fun h => s.fromFront h.pos), s.stationDist with
    | some a, some b => if a ≤ b then some (a, .holdPoint) else some (b, .stationStop)
    | some a, none => some (a, .holdPoint)
    | none, some b => some (b, .stationStop)
    | none, none => none

/-- The speed from which the vehicle brakes, at deceleration a, to v over a distance (R32, R33). -/
def envelope (a v : Nat) (dist : Int) : Nat := isqrt (v * v + 2 * a * dist.toNat)

def insertDist (x : Int × SegAt) : List (Int × SegAt) → List (Int × SegAt)
  | [] => [x]
  | y :: ys => if x.1 ≤ y.1 then x :: y :: ys else y :: insertDist x ys

/-- The segments the look-ahead uses: at most 16 starts within the horizon, nearest first (R32). -/
def State.lookAhead (s : State) : List (Int × SegAt) :=
  if s.mstate = .creep then []
  else
    let ds : List (Int × SegAt) := (segments s.guide.path).map fun g => (s.fromFront g.start, g)
    ((ds.filter fun p => decide (0 < p.1) && decide (p.1 ≤ (s.lim.horizon : Int))).foldr insertDist []).take
      16

/-- The segment cap (R31). -/
def State.segmentCap (s : State) : Nat :=
  match s.frontSeg with
  | some g => g.seg.limit
  | none => 0

/-- The motion cap (R34). -/
def State.motionCap (s : State) : Option Nat :=
  match s.mstate with
  | .run => none
  | .creep => some s.lim.creepSpeed
  | _ => some 0

/-- The terms of the speed target in the order of R35, each with the setter it is shown as. -/
def State.speedTerms (s : State) : List (Nat × Setter) :=
  let a := s.lim.deceleration
  [(s.segmentCap, Setter.segmentCap)] ++
    s.lookAhead.map (fun p => (envelope a p.2.seg.limit p.1, Setter.lookAhead p.2.index)) ++
    (match s.holdDistNow with
      | some (d, w) => [(if d ≤ 0 then 0 else envelope a 0 d, w)]
      | none => []) ++
    (match s.motionCap with
      | some c => [(c, Setter.motionCap)]
      | none => []) ++
    (if s.motion.drive.ready then [] else [(0, Setter.driveCap)])

/-- The least term, the first of equal ones (R35); of equal look-ahead envelopes the nearer segment's
(log 22). -/
def leastTerm : Nat × Setter → List (Nat × Setter) → Nat × Setter
  | best, [] => best
  | best, t :: ts => leastTerm (if t.1 < best.1 then t else best) ts

/-- The speed demand stepped from the last one toward the target (R35). -/
def stepSpeed (v target up down : Nat) : Nat :=
  if v < target then v + min up (target - v) else v - min down (v - target)

/-- The step a falling demand takes (R35). -/
def State.downStep (s : State) : Nat :=
  match s.mstate with
  | .stopping | .stopped => s.lim.stopStep
  | _ => s.lim.brakeStep

/-- The speed demand of a guide sample arrival (R30, R35). -/
def speedDemand (s : State) : State :=
  if s.mstate.zeroSpeed then
    s.setMotion { s.motion with speed := { s.motion.speed with demand := 0 } }
  else
    let best := leastTerm (s.segmentCap, Setter.segmentCap) s.speedTerms
    let v := stepSpeed s.motion.speed.demand best.1 s.lim.accelStep s.downStep
    s.setMotion
      { s.motion with
        speed :=
          { demand := min v s.segmentCap, target := best.1, holdDist := s.holdDistNow.map (·.1),
            setter := best.2 } }

/-! ### The DEMAND frame (R39, R41) -/

/-- The drive enable of a state (R39, R47). -/
def MotionState.enable : MotionState → Bool
  | .parked | .estop => false
  | _ => true

/-- An unanswered previous DEMAND counts a miss; the fifth raises F08 (R41). -/
def missTest (s : State) : State :=
  match s.motion.drive.last with
  | some d =>
    if d.answered then s
    else
      let n := bump 5 s.motion.drive.miss
      let s1 := s.setMotion { s.motion with drive := { s.motion.drive with miss := n } }
      if n = 5 ∧ s.motion.drive.miss ≠ 5 then raiseFault .f08 (.sequence d.seq) s1 else s1
  | none => s

/-- The DEMAND frame is sent and remembered (R39). -/
def sendDemand (s : State) : State :=
  let d := s.motion.drive
  let en := s.mstate.enable
  let v := if s.mstate.zeroSpeed then 0 else s.motion.speed.demand
  s.setMotion
    { s.motion with
      drive :=
        { d with
          seq := d.seq + 1
          last := some { seq := d.seq, delta := s.guide.steer.delta, enable := en, answered := false }
          frame := some (demandBytes d.seq v s.guide.steer.delta en) } }

/-- What the motion unit does on a position update, in the order of R30; nothing on a set. -/
def motionUpdate (u : PosUpdate) (s : State) : State :=
  if u.isSet then s
  else
    sendDemand
      (missTest
        (speedDemand
          (evalPause (arrivalTest (armingTest (stoppedTest (creepTest u (updateStill s))))))))

/-! ### FEEDBACK (R40 to R43) -/

/-- The discard count grows (R40). -/
def discardFeedback (s : State) : State :=
  s.setMotion
    { s.motion with
      drive := { s.motion.drive with discards := bump 65535 s.motion.drive.discards } }

/-- The record of a matching FEEDBACK, and F07 (R42). F07's condition is the recorded fault code not
being 0, whatever a RESTART has made of the fault table (R188, R193; log 46). -/
def feedbackRecord (f : FeedbackFields) (s : State) : State :=
  let s1 :=
    s.setMotion
      { s.motion with
        drive := { s.motion.drive with actual := f.actual, ready := f.ready, fault := f.fault } }
  if f.fault = 0 then endCond .f07 s1
  else if s.motion.drive.fault ≠ 0 then s1
  else raiseFault .f07 (.driveCode f.fault) s1

/-- The tracking test of a matching FEEDBACK, and F06 (R43). -/
def trackingTest (f : FeedbackFields) (d : SentDemand) (s : State) : State :=
  let put (n : Nat) (s : State) : State :=
    s.setMotion { s.motion with drive := { s.motion.drive with track := n } }
  if d.enable = true ∧ f.ready = true ∧ s.lim.trackingLimit < (f.actual - d.delta).natAbs then
    let n := bump 10 s.motion.drive.track
    if n = 10 ∧ s.motion.drive.track ≠ 10 then raiseFault .f06 (.tracking f.actual d.delta) (put n s)
    else put n s
  else endCond .f06 (put 0 s)

/-- A matching FEEDBACK answers the last DEMAND (R40, R41). -/
def answerDemand (d : SentDemand) (s : State) : State :=
  endCond .f08
    (s.setMotion
      { s.motion with
        drive := { s.motion.drive with last := some { d with answered := true }, miss := 0 } })

/-- FEEDBACK (R40). -/
def execFeedback (frame : List Byte) (s : State) : Out :=
  match feedbackCheck frame, s.motion.drive.last with
  | some f, some d =>
    if f.seq = d.seq ∧ d.answered = false then
      .next (trackingTest f d (feedbackRecord f (answerDemand d s)))
    else .next (discardFeedback s)
  | _, _ => .next (discardFeedback s)

/-- The drive link is started (R46). -/
def startDrive (s : State) : State :=
  endConds [.f06, .f07, .f08]
    (s.setMotion
      { s.motion with
        drive :=
          { s.motion.drive with
            last := none, miss := 0, track := 0, actual := 0, ready := false, fault := 0 } })

end Sys2Proof.Machine
end

