-- ==== Sys2Proof/Machine/Guidance.lean ====
section
/-! DEFINITION. The guidance unit's commands: odometer counts, guide samples, the guide timer and SET
POSITION (R8 to R28). -/

namespace Sys2Proof.Machine

/-! ### Odometry and the guide timer -/

/-- ODOMETER_COUNT (R9). -/
def execOdometerCount (forward : Bool) (s : State) : Out :=
  .next
    (s.setGuide
      { s.guide with odo := clampInt (-32767) 32767 (s.guide.odo + if forward then 1 else -1) })

/-- The guide timer is started for 30 ms and F03's condition ends (R15). -/
def startGuideTimer (s : State) : State :=
  endCond .f03 (s.setGuide { s.guide with timer := .running Config.guideMs })

/-- The guide timer is stopped, which ends F03's condition (R15). -/
def stopGuideTimer (s : State) : State := endCond .f03 (s.setGuide { s.guide with timer := .stopped })

/-- GUIDE_TIMEOUT (R15). -/
def execGuideTimeout (s : State) : Out :=
  if s.guide.timer.isRunning then
    .next (raiseFault .f03 .none (s.setGuide { s.guide with timer := .expired }))
  else .next s

/-- The odometer count is read and set to 0 (R9). -/
def readOdometer (s : State) : State := s.setGuide { s.guide with odo := 0 }

/-- The estimate after Δn counts: front, fraction, lap, measured speed, and the distance since the last
accepted marker (R10, R11, R19). -/
def Estimate.move (e : Estimate) (P k : Nat) (dn : Int) : Estimate :=
  let acc : Int := (e.front : Int) * 1024 + e.frac + dn * k
  let raw := acc / 1024
  { e with
    front := wrapPos P raw
    frac := (acc % 1024).toNat
    lap := e.lap + BitVec.ofInt 16 (raw / P)
    speed := clampInt (-32768) 32767 ((dn * k * 100).tdiv 1024)
    since := min 16777215 (e.since + (raw - e.front).natAbs) }

/-- The odometric movement of R10. -/
def Estimate.movement (e : Estimate) (k : Nat) (dn : Int) : Int :=
  ((e.front : Int) * 1024 + e.frac + dn * k) / 1024 - e.front

/-- The rollback distance after a movement (R12). -/
def rollbackAfter (old : Nat) (movement : Int) : Nat :=
  if movement < 0 then min 65535 (old + movement.natAbs) else old - movement.toNat

/-- The rollback distance follows a movement, with F05 (R12). -/
def updateRollback (movement : Int) (s : State) : State :=
  if s.mstate.noRollback then zeroRollback s
  else
    let r := rollbackAfter s.guide.est.rollback movement
    let s1 := s.setGuide { s.guide with est := { s.guide.est with rollback := r } }
    if s.lim.rollbackLimit < r then
      if s.lim.rollbackLimit < s.guide.est.rollback then s1 else raiseFault .f05 (.rollback r) s1
    else endCond .f05 s1

/-- Step (a): the odometer count is taken into the estimate (R8, R10 to R12, R19). -/
def odometry (s : State) : State :=
  let dn := s.guide.odo
  let k := s.lim.odoK
  let movement := s.guide.est.movement k dn
  let s1 := readOdometer s
  updateRollback movement (s1.setGuide { s1.guide with est := s1.guide.est.move s1.P k dn })

/-! ### Offset and strength (R14) -/

/-- The reading after a good or weak sample. -/
def GuideReading.take (r : GuideReading) (g : GuideSample) (threshold : Nat) : GuideReading :=
  let off := clampInt (-250) 250 g.offset
  let edge := g.edge || decide (off ≠ g.offset)
  if threshold ≤ g.strength.toNat then
    { e := off, ePrev := r.e, weak := 0, strength := g.strength.toNat, edge := edge }
  else
    { e := r.e, ePrev := r.e, weak := bump 5 r.weak, strength := g.strength.toNat, edge := edge }

/-- Step (b): the offset and strength fields are taken, with F02 (R14). -/
def takeReading (g : GuideSample) (s : State) : State :=
  let r := s.guide.reading.take g s.lim.strengthThreshold
  let s1 := s.setGuide { s.guide with reading := r }
  if r.weak = 0 then endCond .f02 s1
  else if r.weak = 5 ∧ s.guide.reading.weak ≠ 5 then raiseFault .f02 (.strength r.strength) s1
  else s1

/-! ### Markers (R16 to R20) -/

def setEst (e : Estimate) (s : State) : State := s.setGuide { s.guide with est := e }

/-- A POSITION report (R20). -/
def reportPosition (s : State) : State := postState .position 0 s

/-- The position state becomes LOST and F04 is raised (R18, R19). -/
def losePosition (cause : LostCause) (s : State) : State :=
  reportPosition
    (raiseFault .f04 (.positionLost cause s.guide.est.lastMarker)
      (setEst { s.guide.est with posState := .lost } s))

/-- ε, the signed distance from a marker to the marker reader (R17, R18). -/
def State.markerError (s : State) (pos : Nat) : Int :=
  signedDist s.P pos (wrapPos s.P ((s.guide.est.front : Int) - s.lim.readerOffset))

/-- The estimate with an accepted marker's error removed (R17, R18). -/
def Estimate.accept (e : Estimate) (P : Nat) (eps : Int) : Estimate :=
  { e with
    front := wrapPos P (e.front - eps), lap := e.lap + BitVec.ofInt 16 ((e.front - eps) / P)
    frac := 0, mismatch := 0, since := 0, lastCorrection := -eps, posState := .located }

/-- A known marker is accepted; F04's condition ends (R17, R18, R20). -/
def acceptMarker (eps : Int) (s : State) : State :=
  endCond .f04 (setEst (s.guide.est.accept s.P eps) s)

/-- A mismatch (R18). -/
def mismatchMarker (code : Code) (pos : Nat) (eps : Int) (s : State) : State :=
  let n := s.guide.est.mismatch + 1
  let s1 :=
    postEvent (.marker .mismatch code pos eps)
      (raiseFault .f19 (.marker code) (setEst { s.guide.est with mismatch := min 2 n } s))
  if 2 ≤ n then losePosition .mismatch s1
  else reportPosition (setEst { s1.guide.est with posState := .doubt } s1)

def State.findMarker (s : State) (code : Code) : Option Marker :=
  s.guide.markers.find? fun m => m.code == code

/-- Step (c): the marker code of the sample is handled (R16). The second part is the accepted marker's
code and correction. The last marker code is this code before R17 or R18 acts, so that an F04 of R18
carries it (log 47). -/
def handleMarker (code : Code) (s : State) : State × Option (Code × Int) :=
  match s.findMarker code with
  | none =>
    (raiseFault .f20 (.marker code)
      (postEvent (.marker .unknown code s.guide.est.front 0) s), none)
  | some m =>
    let s1 := setEst { s.guide.est with lastMarker := some code } s
    let eps := s1.markerError m.pos
    if s.guide.est.posState.known then
      if eps.natAbs ≤ s.lim.captureWindow then
        (reportPosition (acceptMarker eps s1), some (code, -eps))
      else (mismatchMarker code m.pos eps s1, none)
    else
      (reportPosition (postEvent (.marker .locate code m.pos (-eps)) (acceptMarker eps s1)),
        some (code, -eps))

/-- Step (d): the gap limit test (R19). -/
def gapTest (s : State) : State :=
  if s.guide.est.posState.known ∧ s.lim.gapLimit < s.guide.est.since then losePosition .gap s else s

/-! ### Steering (R25 to R28) -/

/-- Whether steering is computed in a motion state (R25). -/
def MotionState.steers : MotionState → Bool
  | .hold | .run | .creep | .stopping => true
  | .parked | .stopped | .estop => false

/-- The feedforward (R26). -/
def State.feedforward (s : State) : Int :=
  if s.mstate = .creep then 0
  else
    match s.frontSeg with
    | none => 0
    | some g =>
      g.seg.biasIn +
        ((g.seg.biasOut - g.seg.biasIn) * ((s.guide.est.front - g.start : Nat) : Int)).tdiv g.seg.len

/-- The feedback (R27). -/
def State.feedback (s : State) : Int :=
  let r := s.guide.reading
  let n : Int := s.guide.gains.kp * r.e + s.guide.gains.kd * (r.e - r.ePrev)
  0 - n.tdiv 256

/-- The steering fields after a computation (R28). -/
def Steering.next (t : Steering) (ff fb : Int) (range slew : Nat) : Steering :=
  let c := clampInt (-range) range (ff + fb)
  { delta := t.delta + clampInt (-slew) slew (c - t.delta), ff := ff, fb := fb, raw := ff + fb,
    saturated := decide (c ≠ ff + fb) }

/-- Step (e): the steering demand (R25). -/
def steer (s : State) : State :=
  if s.mstate.steers then
    s.setGuide
      { s.guide with
        steer := s.guide.steer.next s.feedforward s.feedback s.lim.steerRange s.lim.steerSlew }
  else s

/-! ### Guide samples (R8) -/

/-- The motion, zone and cue units act on a position update (R8; the order is the sender's, log 5). -/
def handOn (order : UnitOrder) (u : PosUpdate) (s : State) : State :=
  runUnits order (motionUpdate u) (zoneUpdate u) (cueUpdate u) s

/-- Step (c) of an arrival: the marker, if the sample carries one. -/
def sampleMarker (m : Option Code) (s : State) : State × Option (Code × Int) :=
  match m with
  | some code => handleMarker code s
  | none => (s, none)

/-- The position update of an arrival (R8): the estimates before (a) and after (d), the movement of (a)
and the accepted marker of (c). -/
def arrivalUpdate (before after : Estimate) (movement : Int) (accepted : Option (Code × Int)) :
    PosUpdate :=
  { frontBefore := before.front, lapBefore := before.lap, frontAfter := after.front,
    lapAfter := after.lap, movement := movement, accepted := accepted, before := before.posState,
    after := after.posState, isSet := false }

/-- A guide sample arrival while configuration is READY (R8). -/
def sampleArrival (g : GuideSample) (order : UnitOrder) (s : State) : State :=
  let e0 := s.guide.est
  let movement := e0.movement s.lim.odoK s.guide.odo
  let m := sampleMarker g.marker (takeReading g (odometry (startGuideTimer s)))
  let s4 := steer (gapTest m.1)
  handOn order (arrivalUpdate e0 s4.guide.est movement m.2) s4

/-- GUIDE_SAMPLE (R8). -/
def execGuideSample (g : GuideSample) (order : UnitOrder) (s : State) : Out :=
  if s.isReady then .next (sampleArrival g order s) else .next (takeReading g (readOdometer s))

/-! ### SET POSITION (R21) -/

/-- The estimate after an accepted SET POSITION. -/
def Estimate.set (e : Estimate) (front : Nat) : Estimate :=
  { e with front := front, frac := 0, mismatch := 0, rollback := 0, since := 0, lastMarker := none,
           lastCorrection := 0, posState := .located }

/-- The position update of a set (R21). -/
def setUpdate (before after : Estimate) : PosUpdate :=
  { frontBefore := before.front, lapBefore := before.lap, frontAfter := after.front,
    lapAfter := after.lap, movement := 0, accepted := none, before := before.posState,
    after := after.posState, isSet := true }

/-- SET POSITION as the guidance unit judges it; R21 names no order of its tests, and this one is the
model's (log 37). -/
def setPosition (order : UnitOrder) (front : Nat) (s : State) : State × Answer :=
  if s.isReady = false then (s, .refuse .config)
  else if s.P ≤ front then (s, .invalid .range)
  else if s.mstate ≠ .hold ∧ s.mstate ≠ .parked then (s, .refuse .state)
  else if s.motion.standstill = false then (s, .refuse .standstill)
  else
    let e := s.guide.est.set front
    (handOn order (setUpdate s.guide.est e) (reportPosition (endConds [.f04, .f05] (setEst e s))), .done)

/-- SET_POSITION (R21). -/
def execSetPosition (b : Body Nat) (order : UnitOrder) (s : State) : Out :=
  onRequest 0x18 b s (answering (setPosition order))

end Sys2Proof.Machine
end

