-- ==== Sys2Proof/Machine/Seat.lean ====
section
/-! DEFINITION. The seat unit's commands: the seat loop's rounds and transactions, the restraint check,
the release and SEAT STATUS (R97 to R117). -/

namespace Sys2Proof.Machine

/-! ### The operation and the class of a response (R98, R99) -/

/-- The operation a seat's transaction sends (R98). -/
def pickOp (windowActive : Bool) (r : SeatRecord) : SeatOp :=
  if windowActive then .release
  else if r.latchPending then .latch
  else if r.lampPending then (if r.lamp then .lampOn else .lampOff)
  else .status

/-- R99. -/
inductive ResponseClass where
  | missed | doubtful | clean
  deriving DecidableEq, Repr

/-- The class of a response, judged against the last counter kept (R99). -/
def SeatResponse.classed (x : SeatResponse) (last : Option Nat) : ResponseClass :=
  if x.crcOk = false ∨ last = some x.counter then .missed
  else if x.lockA ≠ x.lockB ∨ x.moduleFault = true then .doubtful
  else .clean

/-- Whether a clean response reads locked (R99). -/
def SeatResponse.readsLocked (x : SeatResponse) (limit : Nat) : Bool :=
  x.lockA && x.lockB && decide (x.travel ≤ limit)

/-- The fields every good response gives the record, with the pending flag its operation clears. -/
def SeatRecord.takeGood (r : SeatRecord) (op : SeatOp) (x : SeatResponse) : SeatRecord :=
  { r with
    travel := x.travel, lockA := x.lockA, lockB := x.lockB, miss := 0, lastCounter := some x.counter
    latchPending := r.latchPending && !decide (op = .latch)
    lampPending := r.lampPending && !(decide (op = .lampOn) || decide (op = .lampOff)) }

/-- The record after a response, but for occupancy and state (R98, R99). -/
def SeatRecord.takeResponse (r : SeatRecord) (op : SeatOp) (x : SeatResponse) (k : ResponseClass) :
    SeatRecord :=
  match k with
  | .missed => { r with miss := bump 3 r.miss }
  | .doubtful => { r.takeGood op x with disagree := bump 3 r.disagree }
  | .clean => { r.takeGood op x with disagree := 0, lastClean := some (x.readsLocked r.travelLimit) }

/-! ### Occupancy (R101) -/

def Occupancy.ofBool (b : Bool) : Occupancy := if b then .yes else .no

/-- The record after a good read of the occupied field (R101). DESIGN CHOICE (log 53): as the run goes to
0 the value being counted, which SEAT STATUS shows beside it (R100), stays the last value counted. -/
def SeatRecord.readOccupied (r : SeatRecord) (b : Bool) : SeatRecord :=
  if r.occupied = Occupancy.ofBool b then { r with runCount := 0 }
  else
    let n := if r.runCount ≠ 0 ∧ r.runValue = b then r.runCount + 1 else 1
    if 3 ≤ n then { r with occupied := Occupancy.ofBool b, runCount := 0, runValue := b }
    else { r with runCount := n, runValue := b }

/-- An occupancy change is handed to the check, the permit and the in-motion test (R101, R107, R112,
R113). -/
def occupancyChanged (r : SeatRecord) (s : State) : State :=
  let s1 := clearPermit (.occupancy r.addr) (abortCheck .occupancy s)
  if s1.mstate = .run ∧ r.state ≠ .checked then
    raiseFault .f12 (.seat r.addr) (postState .seatState r.addr s1)
  else s1

/-- A seat that became known as required and is not CHECKED takes the permit away (R113; log 12). -/
def becameKnown (r : SeatRecord) (s : State) : State :=
  if r.required s.config.committedMap.mustLock = true ∧ r.state ≠ .checked ∧ s.seat.permit = true then
    clearPermit (.occupancy r.addr) s
  else s

/-- What a new debounced occupancy brings about. -/
def handOccupancy (before after : SeatRecord) (s : State) : State :=
  if before.occupied = after.occupied then s
  else if before.occupied = .unknown then becameKnown after s
  else occupancyChanged after s

/-! ### F13 (R103) -/

/-- The F13 condition is tested against what it was before the response. -/
def testF13 (was : Bool) (addr : Nat) (s : State) : State :=
  if was = false ∧ s.seat.anyMissing = true then raiseFault .f13 (.seat addr) s
  else if was = true ∧ s.seat.anyMissing = false then endCond .f13 s
  else s

/-! ### The state rules (R102 to R106, R110) -/

/-- What a response looked like, for the state rules. -/
structure Read where
  cls : ResponseClass
  locked : Bool
  lockA : Bool
  lockB : Bool
  travel : Nat
  deriving DecidableEq, Repr

/-- A seat enters FAULT, which aborts a running check (R102, R112). -/
def enterFault (r : SeatRecord) (s : State) : State :=
  abortCheck .module (putSeat { r with state := .fault, recovery := 0 } s)

/-- LOCKED or OPEN by a clean read, when the occupancy is known (R102, R103). -/
def SeatRecord.byRead (r : SeatRecord) (locked : Bool) : SeatState :=
  if r.occupied = .unknown then .unknown else if locked then .locked else .isOpen

/-- A seat outside a check follows its reads (R102). -/
def followReads (r : SeatRecord) (x : Read) (s : State) : State :=
  match x.cls with
  | .missed => if r.miss = 3 then enterFault r s else s
  | .doubtful => if r.disagree = 3 then enterFault r s else s
  | .clean =>
    if r.occupied = .unknown then s else putSeat { r with state := r.byRead x.locked } s

/-- A seat in FAULT counts clean responses (R103). -/
def recoverFault (r : SeatRecord) (x : Read) (s : State) : State :=
  if x.cls = .clean then
    if 3 ≤ r.recovery + 1 then putSeat { r with state := r.byRead x.locked, recovery := 0 } s
    else putSeat { r with recovery := r.recovery + 1 } s
  else putSeat { r with recovery := 0 } s

/-- At rest in the station (R105). -/
def State.atRestInStation (s : State) : Bool :=
  (match s.mstate with
    | .hold | .stopped | .parked | .estop => true
    | .run | .creep | .stopping => false) && s.guide.est.posState.known && s.inLoadZone

/-- A seat in ALARM at rest in the station becomes OPEN (R105). -/
def invalidate (r : SeatRecord) (t : AlarmTest) (s : State) : State :=
  postEvent (.checkInvalidated r.addr t) (putSeat ({ r with state := .isOpen }.setLamp true) s)

/-- The F11 condition becoming active (R105). -/
def alarmBegin (was : Bool) (addr : Nat) (s : State) : State :=
  if was then s else setAlarm true (raiseFault .f11 (.seat addr) s)

/-- A CHECKED seat enters ALARM (R104, R105, R113). -/
def enterAlarm (r : SeatRecord) (t : AlarmTest) (s : State) : State :=
  let was := s.seat.anyAlarm
  let a := { r with state := .alarm, alarm := 0, recovery := 0 }
  let s1 := clearPermit (.leftChecked r.addr) (putSeat a s)
  if s1.atRestInStation then invalidate a t s1 else alarmBegin was r.addr s1

/-- The alarm count after a response (R104). -/
def SeatRecord.alarmAfter (r : SeatRecord) (x : Read) (tol : Nat) : Nat :=
  match x.cls with
  | .missed => r.alarm
  | _ =>
    if x.lockA = false ∨ x.lockB = false ∨ r.travelLimit + tol < x.travel then bump 2 r.alarm else 0

/-- A CHECKED seat is watched (R104). The failed test that R105 reports is that of the response which
fails, and locks where both locks and travel fail (log 40). -/
def watchChecked (r : SeatRecord) (x : Read) (s : State) : State :=
  let r1 := { r with alarm := r.alarmAfter x s.lim.travelTolerance }
  if r1.alarm = 2 then
    enterAlarm r1 (if x.lockA = false ∨ x.lockB = false then .locks else .travel) s
  else if r1.miss = 3 then enterAlarm r1 .missing s
  else if r1.disagree = 3 then enterAlarm r1 .disagree s
  else putSeat r1 s

/-- The last seat leaving ALARM ends F11 and the alarm (R106). -/
def alarmEnd (s : State) : State := if s.seat.anyAlarm then s else setAlarm false (endCond .f11 s)

/-- A seat in ALARM recovers (R106). -/
def recoverAlarm (r : SeatRecord) (x : Read) (s : State) : State :=
  if x.cls = .clean ∧ x.locked = true ∧ s.motion.standstill = true then
    if 3 ≤ r.recovery + 1 then
      alarmEnd
        (putSeat { r with state := .checked, alarm := 0, miss := 0, disagree := 0, recovery := 0 } s)
    else putSeat { r with recovery := r.recovery + 1 } s
  else putSeat { r with recovery := 0 } s

/-- Insertion of an address in order. -/
def insertAddr (a : Nat) : List Nat → List Nat
  | [] => [a]
  | x :: xs => if a < x then a :: x :: xs else if a = x then x :: xs else x :: insertAddr a xs

/-- A CHECKING seat is rejected (R110). -/
def rejectSeat (r : SeatRecord) (s : State) : State :=
  let s1 := putSeat ({ r with state := .isOpen }.setLamp true) s
  s1.setSeat
    { s1.seat with
      check := s1.seat.check.map fun c => { c with rejected := insertAddr r.addr c.rejected } }

/-- A CHECKING seat in a confirm round (R110). -/
def judgeChecking (r : SeatRecord) (x : Read) (confirm : Bool) (s : State) : State :=
  if confirm = false ∨ (x.cls = .clean ∧ x.locked = true) then s else rejectSeat r s

/-- The rule of the seat's state, as it stands, takes the response (log 9). -/
def applyState (r : SeatRecord) (x : Read) (confirm : Bool) (s : State) : State :=
  match r.state with
  | .unknown | .isOpen | .locked => followReads r x s
  | .fault => recoverFault r x s
  | .checked => watchChecked r x s
  | .alarm => recoverAlarm r x s
  | .checking => judgeChecking r x confirm s

/-! ### Transactions and rounds -/

/-- The loop counts after a transaction (R99). DESIGN CHOICE (log 52): a response that fails its check
and carries the last counter as well counts as failed, never as stuck. -/
def LoopCounts.after (c : LoopCounts) (x : SeatResponse) (last : Option Nat) : LoopCounts :=
  { transactions := bump 65535 c.transactions
    failed := if x.crcOk then c.failed else bump 65535 c.failed
    stuck := if x.crcOk && decide (last = some x.counter) then bump 65535 c.stuck else c.stuck }

/-- One transaction with a fitted seat (R98 to R107; the order of its parts is log 9's). -/
def transact (op : SeatOp) (r : SeatRecord) (w : BitVec 24) (confirm : Bool) (s : State) : State :=
  let x := SeatResponse.ofBits w
  let k := x.classed r.lastCounter
  let was := s.seat.anyMissing
  let r1 := r.takeResponse op x k
  let r2 := if k = .missed then r1 else r1.readOccupied x.occupied
  let s1 :=
    s.setSeat
      { s.seat with
        counts := s.seat.counts.after x r.lastCounter, command := some (seatCommand r.addr op) }
  let s2 := handOccupancy r r2 (putSeat r2 s1)
  let rd : Read :=
    { cls := k, locked := x.readsLocked r.travelLimit, lockA := x.lockA, lockB := x.lockB,
      travel := x.travel }
  testF13 was r.addr (applyState ((s2.seatAt r.addr).getD r2) rd confirm s2)

/-- The next address of the round has its transaction. -/
def roundTransact (w : BitVec 24) (s : State) : State :=
  match s.seat.round with
  | none => s
  | some c =>
    match c.remaining with
    | [] => s
    | a :: rest =>
      let s1 := s.setSeat { s.seat with round := some { c with remaining := rest } }
      match s1.seatAt a with
      | none => s1
      | some r => transact (pickOp (decide (s1.seat.window ≠ .stopped)) r) r w c.confirm s1

/-- SEAT_TRANSACTION (R99). -/
def execSeatTransaction (w : BitVec 24) (s : State) : Out :=
  if s.seat.loop = .stopped then .next s else .next (roundTransact w s)

/-- A round begins: every fitted address in order, a confirm round while a check runs (R97, R110). -/
def beginRound (s : State) : State :=
  s.setSeat
    { s.seat with
      roundTimer := .running s.lim.roundPeriod
      round := some { remaining := s.seat.records.map (·.addr), confirm := s.seat.check.isSome } }

/-- POLL_ROUND_START (R97). -/
def execPollRoundStart (s : State) : Out :=
  if s.seat.loop = .started ∧ s.seat.roundTimer.isRunning = true ∧ s.seat.round = none then
    .next (beginRound s)
  else .next s

/-- What a check that passes makes of a CHECKING seat (R111). -/
def SeatRecord.passCheck (r : SeatRecord) : SeatRecord :=
  if r.state = .checking then { r with state := .checked, alarm := 0, recovery := 0 } else r

/-- What a check that rejected a seat makes of one still CHECKING (R111). -/
def SeatRecord.failCheck (r : SeatRecord) : SeatRecord :=
  if r.state = .checking then { r with state := .locked } else r

/-- A CHECK RESULT report (R111). -/
def reportCheck (c : Check) (result : CheckResult) (cause : CheckCause) (s : State) : State :=
  postEvent (.checkResult c.source result cause c.set c.rejected c.rounds) s

/-- Whether every required fitted seat is CHECKED, so that the permit may be held (R113). -/
def State.seatsChecked (s : State) : Bool :=
  s.seat.records.all fun r =>
    !r.required s.config.committedMap.mustLock || decide (r.state = .checked)

/-- A check passes (R111). The permit is granted when every required seat is CHECKED: a seat that
became known as required while the check ran, and was not in its set, keeps it clear (R113; log 12). -/
def passCheck (c : Check) (s : State) : State :=
  let s1 := mapSeats SeatRecord.passCheck (s.setSeat { s.seat with check := none })
  reportCheck c .pass .none (s1.setSeat { s1.seat with permit := s1.seatsChecked })

/-- A check fails with a rejected seat: F14, and the announcement when the map names one (R111). -/
def failCheck (c : Check) (s : State) : State :=
  let s1 := mapSeats SeatRecord.failCheck (s.setSeat { s.seat with check := none })
  let s2 := raiseFault .f14 (.check .rejected) s1
  let s3 :=
    match s2.config.committedMap.clip with
    | some clip => announce clip s2
    | none => s2
  reportCheck c .fail .rejected s3

/-- A confirm round has ended (R110, R111). -/
def countRound (c : Check) (s : State) : State :=
  let c1 := { c with rounds := c.rounds + 1 }
  if s.lim.confirmRounds ≤ c1.rounds then
    if c1.rejected.isEmpty then passCheck c1 s else failCheck c1 s
  else s.setSeat { s.seat with check := some c1 }

/-- The round ends (R97, R110). -/
def endRound (s : State) : State :=
  match s.seat.round with
  | none => s
  | some c =>
    let s1 := s.setSeat { s.seat with round := none }
    match s1.seat.check with
    | some k => if c.confirm then countRound k s1 else s1
    | none => s1

/-- ROUND_END (R97). -/
def execRoundEnd (s : State) : Out :=
  match s.seat.round with
  | some c => if c.remaining = [] then .next (endRound s) else .next s
  | none => .next s

/-- The response of an absent module: the line idle high (R99). -/
def noResponse : BitVec 24 := 0xFFFFFF#24

/-- The rest of a round in progress has its transactions; the second part is the responses left. -/
def finishRound : Nat → List (BitVec 24) → State → State × List (BitVec 24)
  | 0, ws, s => (s, ws)
  | n + 1, ws, s => finishRound n ws.tail (roundTransact (ws.headD noResponse) s)

/-- The closing round sends LATCH to every fitted module (R97). -/
def closingRound : List Nat → List (BitVec 24) → State → State
  | [], _, s => s
  | a :: rest, ws, s =>
    closingRound rest ws.tail
      (match s.seatAt a with
        | some r => transact .latch r (ws.headD noResponse) false s
        | none => s)

/-- The transactions a round in progress still has to make. -/
def SeatUnit.left (u : SeatUnit) : Nat :=
  match u.round with
  | some c => c.remaining.length
  | none => 0

/-- SEAT_LOOP_CLOSING_ROUND (R97): the round in progress completes, the closing round sends LATCH, and
the loop stops. -/
def execSeatLoopClosingRound (responses : List (BitVec 24)) (s : State) : Out :=
  if s.seat.loop = .closing then
    let p := finishRound s.seat.left responses s
    let s1 := endRound p.1
    let s2 := closingRound (s1.seat.records.map (·.addr)) p.2 s1
    .next (s2.setSeat { s2.seat with loop := .stopped, roundTimer := .stopped })
  else .next s

/-! ### The check (R108, R109) -/

/-- The tests a CHECK must pass; the first that holds refuses it (R108). -/
def State.refuseCheck (s : State) : Option Detail :=
  if s.isReady = false then some .config
  else if s.seat.check.isSome then some .running
  else if s.seat.window ≠ .stopped then some .release
  else if s.mstate ≠ .hold then some .state
  else if s.guide.est.posState.known = false then some .position
  else if s.inLoadZone = false then some .loadZone
  else if s.motion.standstill = false then some .standstill
  else none

/-- Whether a seat makes the check fail at once (R109). -/
def SeatRecord.failsAtOnce (set : List Nat) (r : SeatRecord) : Bool :=
  decide (r.state = .unknown) ||
    (set.contains r.addr && (decide (r.state = .fault) || decide (r.state = .alarm)))

/-- A CHECKED seat outside the set is LOCKED or OPEN by its last clean read (R109). -/
def SeatRecord.leaveOut (set : List Nat) (r : SeatRecord) : SeatRecord :=
  if r.state = .checked ∧ set.contains r.addr = false then { r with state := r.byLastRead } else r

/-- A seat of the set becomes CHECKING with its lamp off (R109, R114). -/
def SeatRecord.beginCheck (set : List Nat) (r : SeatRecord) : SeatRecord :=
  if set.contains r.addr then { r with state := .checking }.setLamp false else r

/-- The lamp of a seat that makes the check fail at once is turned on (R109, R114). -/
def SeatRecord.lightFailed (set : List Nat) (r : SeatRecord) : SeatRecord :=
  if r.failsAtOnce set then r.setLamp true else r

/-- An admitted check starts or fails at once (R109, R111). -/
def startCheck (source : CommandSource) (s : State) : State × Detail :=
  let s1 := clearPermit .checkStarted s
  let set := (s1.seat.records.filter fun r => r.required s1.config.committedMap.mustLock).map (·.addr)
  let s2 := mapSeats (SeatRecord.leaveOut set) s1
  let c : Check := { source := source, set := set, rejected := [], rounds := 0 }
  if s2.seat.records.any (SeatRecord.failsAtOnce set) then
    (reportCheck c .fail .module
      (raiseFault .f14 (.check .module) (mapSeats (SeatRecord.lightFailed set) s2)), .failed)
  else
    let s3 := mapSeats (SeatRecord.beginCheck set) s2
    (s3.setSeat
      { s3.seat with
        check := some c, round := s3.seat.round.map fun r => { r with confirm := false } }, .started)

/-- CHECK from the host (R108). -/
def judgeCheck (s : State) : State × Answer :=
  match s.refuseCheck with
  | some d => (s, .refuse d)
  | none => ((startCheck .host s).1, ⟨.done, (startCheck .host s).2, .empty⟩)

/-- CHECK (R108). -/
def execCheck (b : Body Unit) (s : State) : Out := onRequest 0x28 b s (answering fun _ => judgeCheck)

/-- CHECK from the wayside (R108). -/
def waysideCheckFrame (s : State) : State :=
  match s.refuseCheck with
  | some d => postEvent (.checkResult .wayside (.refused d) .none [] [] 0) s
  | none => (startCheck .wayside s).1

/-- WAYSIDE_CHECK (R108). -/
def execWaysideCheck (dest : Byte) (s : State) : Out := onWayside dest s waysideCheckFrame

/-! ### The release (R115, R116) -/

/-- What the start of a release makes of a seat (R115). -/
def SeatRecord.released (r : SeatRecord) : SeatRecord :=
  SeatRecord.setLamp { r with state := if r.state = .checked then .isOpen else r.state } false

/-- The release starts; its report carries the window as it starts (R115; log 45). -/
def openBars (s : State) : State :=
  let s1 := mapSeats SeatRecord.released (clearPermit .release (abortCheck .release s))
  postEvent (.release (.running Config.releaseMs))
    (s1.setSeat { s1.seat with window := .running Config.releaseMs })

/-- RELEASE (R115). -/
def judgeRelease (s : State) : State × Answer :=
  if s.isReady = false then (s, .refuse .config)
  else if s.mstate ≠ .hold then (s, .refuse .state)
  else if s.guide.est.posState.known = false then (s, .refuse .position)
  else if s.inLoadZone = false then (s, .refuse .loadZone)
  else if s.motion.standstill = false then (s, .refuse .standstill)
  else if s.seat.window ≠ .stopped then
    (s.setSeat { s.seat with window := .running Config.releaseMs }, .already)
  else (openBars s, .done)

/-- RELEASE (R115). -/
def execRelease (b : Body Unit) (s : State) : Out :=
  onRequest 0x29 b s (answering fun _ => judgeRelease)

/-- RELEASE_WINDOW_EXPIRY (R116). -/
def execReleaseWindowExpiry (s : State) : Out :=
  if s.seat.window.isRunning then .next (endWindow .time s) else .next s

/-! ### SEAT STATUS (R117) -/

def State.seatStatusBody (s : State) : SeatStatusBody :=
  { map := s.config.committedMap, records := s.seat.records, permit := s.seat.permit,
    permitCause := s.seat.permitCause, check := s.seat.check, window := s.seat.window,
    counts := s.seat.counts, f11 := s.seat.anyAlarm, f13 := s.seat.anyMissing }

/-- SEAT_STATUS (R117). -/
def execSeatStatus (b : Body Unit) (s : State) : Out :=
  onRequest 0x2A b s (answering fun _ s => (s, ⟨.done, .done, .seatStatus s.seatStatusBody⟩))

end Sys2Proof.Machine
end

