-- ==== Sys2Proof/Machine/ConfigCmd.lean ====
section
/-! DEFINITION. The configuration unit's commands: the session, the loads, the live settings, COMMIT with
its checks, and RESTART, with what every block does on them (R2, R5, R121, R95, R194 to R201). -/

namespace Sys2Proof.Machine

/-! ### Parts -/

def setRecord (r : ConfigRecord) (s : State) : State := s.setConfig { s.config with record := r }

/-- A CONFIG STATE report (R194). -/
def reportConfig (s : State) : State := postState .configState 0 s

/-- Whether configuration is CONFIGURING (R197). -/
def State.configuring (s : State) : Bool := decide (s.config.record.state = .configuring)

/-! ### BEGIN CONFIG (R195, R196) -/

/-- The loaded sets are set equal to the committed ones, and configuration becomes CONFIGURING (R195). -/
def openSession (s : State) : State :=
  reportConfig
    (s.setConfig
      { s.config with
        record := { s.config.record with state := .configuring }
        loaded := s.config.committed, loadedMap := s.config.committedMap })

/-- The seat loop is stopped, once its closing round is done (R97). -/
def closeLoop (s : State) : State :=
  if s.seat.loop = .started then s.setSeat { s.seat with loop := .closing, roundTimer := .stopped } else s

/-- The acknowledgement table is emptied without reports (R141). -/
def emptyAcks (s : State) : State := s.setCue { s.cue with acks := [] }

/-- BEGIN CONFIG is handed to the blocks, the zone unit before the cue unit (R196; log 17). -/
def beginConfigBlocks (s : State) : State :=
  emptyAcks
    (outputsOff (clearPermit .beginConfig (closeLoop (recomputeHold (stopLink (stopGuideTimer s))))))

/-- BEGIN CONFIG (R195). -/
def beginConfig (s : State) : State × Answer :=
  if s.configuring then (s, .refuse .state)
  else if s.mstate ≠ .parked then (s, .refuse .state)
  else (beginConfigBlocks (openSession s), .done)

/-- BEGIN_CONFIG (R195). -/
def execBeginConfig (b : Body Unit) (s : State) : Out :=
  onRequest 0x01 b s (answering fun _ => beginConfig)

/-! ### Loads (R197) -/

/-- A load taken only in CONFIGURING (R197). -/
def whileConfiguring (judge : State → State × Answer) (s : State) : State × Answer :=
  if s.configuring then judge s else (s, .refuse .config)

/-- PATH LOAD (R2). -/
def pathLoad (l : Load Segment) (s : State) : State × Answer :=
  match judgeLoad Config.segmentMax s.guide.path.length segmentInRange l with
  | some i => (s, .rangeAt (some i))
  | none =>
    let p := spliceRun s.guide.path l.start l.run
    (s.setGuide { s.guide with path := p }, ⟨.done, .done, .path p.length (lapLength p)⟩)

/-- PATH_LOAD (R2). -/
def execPathLoad (b : Body (Load Segment)) (s : State) : Out :=
  onRequest 0x02 (fitRun b) s (answering fun l => whileConfiguring (pathLoad l))

/-- MARKER LOAD (R5). DESIGN CHOICE (log 50): the reply carries the new marker count alone, as R5 does
not say what it carries and R2 says it of PATH LOAD only. -/
def markerLoad (l : Load Marker) (s : State) : State × Answer :=
  match judgeLoad Config.markerMax s.guide.markers.length markerInRange l with
  | some i => (s, .rangeAt (some i))
  | none =>
    let m := spliceRun s.guide.markers l.start l.run
    (s.setGuide { s.guide with markers := m }, ⟨.done, .done, .number m.length⟩)

/-- MARKER_LOAD (R5). -/
def execMarkerLoad (b : Body (Load Marker)) (s : State) : Out :=
  onRequest 0x03 (fitRun b) s (answering fun l => whileConfiguring (markerLoad l))

/-- The index of the first record whose lead is clamped (R121). -/
def firstClamped (l : Load CueIn) : Option Nat :=
  (l.run.findIdx? fun c => decide (5000 < c.lead)).map (l.start + ·)

/-- CUE LOAD (R121). -/
def cueLoad (l : Load CueIn) (s : State) : State × Answer :=
  match judgeLoad Config.cueMax s.cue.cues.length (fun c => (acceptCue c).isSome) l with
  | some i => (s, .rangeAt (some i))
  | none =>
    let cs := spliceRun s.cue.cues l.start (l.run.filterMap acceptCue)
    let s1 := s.setCue { s.cue with cues := cs }
    match firstClamped l with
    | some i => (s1, ⟨.qualified, .clamped, .cueLoad cs.length (some i)⟩)
    | none => (s1, ⟨.done, .done, .cueLoad cs.length none⟩)

/-- CUE_LOAD (R121). -/
def execCueLoad (b : Body (Load CueIn)) (s : State) : Out :=
  onRequest 0x04 (fitRun b) s (answering fun l => whileConfiguring (cueLoad l))

/-- SEAT MAP (R95). -/
def loadSeatMap (m : SeatMap) (s : State) : State × Answer :=
  match firstOffending Config.seatMax (fun (e : SeatEntry) => decide (e.addr ≤ 255)) 0 m.entries with
  | some i => (s, .rangeAt (some i))
  | none =>
    if (m.clip.map fun c => decide (511 < c)) = some true then (s, .rangeAt none)
    else (s.setConfig { s.config with loadedMap := m }, .done)

/-- SEAT_MAP (R95). -/
def execSeatMap (b : Body SeatMap) (s : State) : Out :=
  onRequest 0x05 b s (answering fun m => whileConfiguring (loadSeatMap m))

/-- LIMITS (R198). -/
def limitsLoad (l : List (Nat × Nat)) (s : State) : State × Answer :=
  if l.isEmpty then (s, .rangeAt none)
  else
    match firstBadLimit 1 [] l with
    | some p => (s, .rangeAt (some p))
    | none =>
      (s.setConfig { s.config with loaded := loadLimits s.config.loaded l },
        ⟨.done, .done, .number l.length⟩)

/-- LIMITS (R198). -/
def execLimits (b : Body (List (Nat × Nat))) (s : State) : Out :=
  onRequest 0x06 b s (answering fun l => whileConfiguring (limitsLoad l))

/-! ### Live settings (R24, R181) -/

def clampedAnswer (clamped : Bool) : Answer := if clamped then ⟨.qualified, .clamped, .empty⟩ else .done

/-- SET MIX (R181). -/
def setMix (r : MixReq) (s : State) : State × Answer :=
  (s.setVoice { s.voice with masters := r.masters.map (min 256), duck := min 4096 r.duck },
    clampedAnswer ((r.masters.toList.any fun m => decide (256 < m)) || decide (4096 < r.duck)))

/-- SET_MIX (R181). -/
def execSetMix (b : Body MixReq) (s : State) : Out := onRequest 0x07 b s (answering setMix)

/-- SET GAINS (R24). -/
def setGains (r : GainsReq) (s : State) : State × Answer :=
  (s.setGuide { s.guide with gains := { kp := min 4095 r.kp, kd := min 4095 r.kd } },
    clampedAnswer (decide (4095 < r.kp) || decide (4095 < r.kd)))

/-- SET_GAINS (R24). -/
def execSetGains (b : Body GainsReq) (s : State) : Out := onRequest 0x08 b s (answering setGains)

/-! ### The checks of COMMIT (R199) -/

/-- The first index whose value satisfies p and begins a second run of that value, runs being cyclic:
a run at the end of the list may continue at its start (R3). -/
def secondRun {α : Type} [DecidableEq α] (p : α → Bool) (xs : List α) : Option Nat :=
  (List.range xs.length).find? fun i =>
    match xs[i]?, xs[i - 1]? with
    | some x, some y =>
      decide (0 < i) && p x && decide (x ≠ y) && (xs.take i).contains x &&
        !((xs.drop i).all (fun z => decide (z = x)) && decide (xs.head? = some x))
    | _, _ => false

/-- The first index whose value stands earlier in the list: the later of two equal entries (R6, R96,
R122). DESIGN CHOICE (log 56): of several pairs, the one whose later entry comes first. -/
def firstRepeat {α : Type} [DecidableEq α] (xs : List α) : Option Nat :=
  (List.range xs.length).find? fun i =>
    match xs[i]? with
    | some x => (xs.take i).contains x
    | none => false

/-- The first index whose value satisfies a test. -/
def firstWhere {α : Type} (p : α → Bool) (xs : List α) : Option Nat := xs.findIdx? p

/-- A check that fails with an index. -/
def failIf (b : Bool) (i : Nat) : Option Nat := if b then some i else none

/-- The path checks, in order (R3). -/
def checkPath (path : List Segment) : Option Nat :=
  let P := lapLength path
  (failIf path.isEmpty 0).or
    ((failIf (decide (P < Config.lapMin) || decide (Config.lapMax < P)) (path.length - 1)).or
      ((failIf ((path.map (·.zone)).all fun z => decide ((path.map (·.zone)).head? = some z)) 0).or
        ((secondRun (fun _ => true) (path.map (·.zone))).or
          ((failIf ((path.all fun g => g.load) || (path.all fun g => !g.load)) 0).or
            ((secondRun (fun b => b) (path.map (·.load))).or
              (failIf (decide ((path.head?.map (·.load)) ≠ some true)) 0))))))

/-- The marker checks (R6), which names no order of the two; the repeated codes first is the model's
(log 37). -/
def checkMarkers (P : Nat) (ms : List Marker) : Option Nat :=
  (firstRepeat (ms.map (·.code))).or (firstWhere (fun m => decide (P ≤ m.pos)) ms)

/-- The limits checks: 12 and 7 of R23, then 16 of R69. -/
def checkLimits (P : Nat) (delta : Int) (l : Limits) : Option Nat :=
  (failIf (decide (l.stopStep < l.brakeStep)) 12).or
    ((failIf (decide (l.steerRange < delta.natAbs)) 7).or
      (failIf (decide (P / 2 ≤ l.vehicleLength)) 16))

/-- The seat map checks (R96), in the order of its text (log 37). -/
def checkSeatMap (m : SeatMap) : Option Nat :=
  (firstWhere (fun (e : SeatEntry) => decide (15 < e.addr)) m.entries).or
    (firstRepeat (m.entries.map (·.addr)))

/-- Whether a cue's voice and output numbers are in range (R122). -/
def CueKindOk (k : CueKind) : Bool :=
  match k with
  | .voiceStart v _ _ _ _ _ => decide (v ≤ 7)
  | .voiceStop v _ => decide (v ≤ 7)
  | .voiceGain v _ _ => decide (v ≤ 7)
  | .output o _ _ => decide (o ≤ 7)
  | .scene _ _ _ | .flag _ _ => true

/-- Whether a cue names voice 7 (R122). -/
def namesVoice7 (k : CueKind) : Bool :=
  match k with
  | .voiceStart v _ _ _ _ _ => decide (v = 7)
  | .voiceStop v _ => decide (v = 7)
  | .voiceGain v _ _ => decide (v = 7)
  | .output _ _ _ | .scene _ _ _ | .flag _ _ => false

/-- The first index at which a list of numbers decreases (R122). -/
def firstDrop : Nat → List Nat → Option Nat
  | i, a :: b :: rest => if b < a then some (i + 1) else firstDrop (i + 1) (b :: rest)
  | _, _ => none

/-- The cue list checks (R122). -/
def checkCues (P : Nat) (announces : Bool) (cs : List Cue) : Option Nat :=
  (firstWhere (fun (c : Cue) => decide (P ≤ c.trigger)) cs).or
    ((firstDrop 0 (cs.map (·.trigger))).or
      ((firstRepeat (cs.map (·.id))).or
        ((firstWhere (fun (c : Cue) => !CueKindOk c.kind) cs).or
          (if announces then firstWhere (fun (c : Cue) => namesVoice7 c.kind) cs else none))))

/-- The first failing check of COMMIT with its table and index (R199). -/
def State.commitFailure (s : State) : Option (TableName × Nat) :=
  let P := s.P
  ((checkPath s.guide.path).map fun i => (TableName.path, i)).or
    (((checkMarkers P s.guide.markers).map fun i => (TableName.markers, i)).or
      (((checkLimits P s.guide.steer.delta s.config.loaded).map fun i => (TableName.limits, i)).or
        (((checkSeatMap s.config.loadedMap).map fun i => (TableName.seatMap, i)).or
          ((checkCues P s.config.loadedMap.clip.isSome s.cue.cues).map fun i => (TableName.cues, i)))))

/-- The detail code that names a table (R199). -/
def TableName.detail : TableName → Detail
  | .path => .path | .markers => .markers | .limits => .limits | .seatMap => .seatMap | .cues => .cues

/-! ### What RESTART and COMMIT do to each block -/

/-- The guidance unit's values: the estimate, the reading, the odometer count and the guide timer
(R22). -/
def resetGuidance (s : State) : State :=
  let s1 :=
    s.setGuide
      { s.guide with
        est := Estimate.reset, reading := GuideReading.reset, odo := 0
        timer := if s.isReady then .running Config.guideMs else .stopped }
  let s2 := endConds [.f02, .f04, .f05] s1
  if s.guide.est.posState = .unlocated then s2 else reportPosition s2

/-- The motion unit's values (R13, R36, R46, R67); the dispatch count and the ESTOP level are kept, and
so are the target, the hold distance and the setter shown, of which R46 says nothing (log 38). -/
def resetMotion (s : State) : State :=
  let r := s.motion.record
  let s1 :=
    s.setMotion
      { s.motion with
        record := { r with state := .parked, resumeRun := false, creepDist := 0, stopRec := none,
                           paused := true }
        speed := { s.motion.speed with demand := 0 }
        still := 0, standstill := false, armed := none }
  if r.state = .parked ∧ r.resumeRun = false ∧ r.paused = true then s1 else postState .motionState 0 s1

/-- The drive link is started when configuration is READY (R46). -/
def restartDrive (s : State) : State := if s.isReady then startDrive s else s

/-- The cue unit's values (R141). -/
def resetCue (s : State) : State :=
  emptyAcks
    (outputsOff
      (s.setCue
        { s.cue with
          pointer := 0, lap := 0, cues := s.cue.cues.map fun c => { c with last := none } }))

/-- The zone unit's values: table and queues emptied, the link started when READY (R93). -/
def resetZone (s : State) : State :=
  let s1 := emptyQueues false (emptyTable s)
  recomputeHold (testF10 .link (if s.isReady then startLink s1 else s1))

/-- A seat's SEAT STATE report as its record is replaced (R117). -/
def reportFresh (before : List SeatRecord) (s : State) (r : SeatRecord) : State :=
  match before.find? fun x => x.addr == r.addr with
  | some b => reportSeat b r s
  | none => postState .seatState r.addr s

/-- The seat unit's values from the committed map (R118); the loop starts when READY (R97). A closing
round that has not been made is dropped (log 10). DESIGN CHOICE (log 55): a check that runs is dropped
with no CHECK RESULT. -/
def resetSeat (cause : PermitCause) (s : State) : State :=
  let fresh := (sortSeats s.config.committedMap.entries).map SeatRecord.fresh
  let s1 := clearPermit cause s
  let s2 :=
    s1.setSeat
      { s1.seat with
        records := fresh, check := none, window := .stopped, round := none, loop := .stopped
        roundTimer := .stopped }
  let s3 := fresh.foldl (reportFresh s.seat.records) s2
  if s.isReady then beginRound (s3.setSeat { s3.seat with loop := .started }) else s3

/-- A directory entry after RESTART (R162). -/
def Clip.restarted (c : Option Clip) : Option Clip :=
  match c with
  | some c =>
    match c.state with
    | .ready | .bad => some { c with plays := 0 }
    | .loading | .verifying => none
  | none => none

/-- The clip store's values after RESTART (R160, R162); the next offset of the write stage is kept
(log 43). -/
def resetClip (s : State) : State :=
  let a := s.clip.arb
  s.setClip
    { s.clip with
      dir := s.clip.dir.map Clip.restarted
      stage := { s.clip.stage with blocks := [], runClip := none, idle := .stopped }
      verify := { s.clip.verify with queue := [] }
      buffer := .empty
      arb :=
        { refills := Vector.replicate 8 none, commits := [], readBack := none, verify := none
          port := a.port.map fun p => { p with dropped := true }
          lastVoice := 7 } }

/-- The voice engine's values after RESTART (R179, R183). -/
def resetVoice (s : State) : State :=
  s.setVoice
    { s.voice with
      voices := Vector.replicate 8 Voice.reset, paused := true, alarm := false
      clips := Vector.replicate 4 0 }

/-- The host silence timer is started when the timeout in force is not 0 (R213). -/
def startSilence (s : State) : State :=
  if s.lim.hostSilence = 0 then s
  else s.setHost { s.host with silence := .running (1000 * s.lim.hostSilence) }

/-- The host is silent no longer: F18's condition ends (R213). -/
def endSilent (s : State) : State := endCond .f18 (s.setHost { s.host with silent := false })

/-! ### COMMIT (R199, R200) -/

/-- The loaded sets become the committed ones, and the record shows the pass (R200). -/
def commitRecord (label : Code) (s : State) : State :=
  reportConfig
    (s.setConfig
      { s.config with
        committed := s.config.loaded, committedMap := s.config.loadedMap
        record := { state := .ready, label := label, count := s.config.record.count + 1,
                    last := .pass } })

/-- The seat unit's part of COMMIT: the seat faults' conditions end, with RESTRAINT ALARM END (R118). -/
def commitSeat (s : State) : State :=
  let s1 := endConds [.f11, .f13] (resetSeat .commit s)
  if s.seat.anyAlarm then setAlarm false s1 else s1

/-- The zone map is derived from the committed path (R68). -/
def deriveZoneMap (s : State) : State := s.setZone { s.zone with zmap := zoneMap s.guide.path }

/-- The host link unit's part of COMMIT (R213). -/
def commitSilence (s : State) : State :=
  if s.lim.hostSilence = 0 then endSilent (s.setHost { s.host with silence := .stopped })
  else startSilence s

/-- A COMMIT that passes is handed to the blocks (R200), the cue unit before the zone unit (R141). -/
def commitBlocks (s : State) : State :=
  commitSilence
    (commitSeat
      (resetZone (deriveZoneMap (resetCue (restartDrive (resetMotion (resetGuidance s)))))))

/-- What the reply to a COMMIT that passed carries (R200). -/
def State.commitBody (s : State) : CommitBody :=
  { count := s.config.record.count, segments := s.guide.path.length, lapLength := s.P,
    zones := s.zone.zmap.length, markers := s.guide.markers.length, cues := s.cue.cues.length,
    seats := s.seat.records.length }

/-- COMMIT (R199, R200). -/
def commit (label : Code) (s : State) : State × Answer :=
  if s.configuring then
    match s.commitFailure with
    | some (t, i) =>
      (setRecord { s.config.record with last := .fail t i } s, ⟨.invalid, t.detail, .index (some i)⟩)
    | none =>
      let s1 := commitBlocks (commitRecord label s)
      (s1, ⟨.done, .done, .commit s1.commitBody⟩)
  else (s, .refuse .state)

/-- COMMIT (R199). -/
def execCommit (b : Body Code) (s : State) : Out := onRequest 0x09 b s (answering commit)

/-! ### RESTART (R201) -/

/-- The report queue is emptied and RESTARTED posted as its first entry (R201, R215). -/
def restartReports (s : State) : State :=
  let r := s.config.record
  postEvent (.restarted .request r.state r.label r.count)
    (s.setHost { s.host with reports := [], dropped := 0 })

/-- F01 is raised when the ESTOP input is asserted (R65, R193). -/
def senseEstop (s : State) : State :=
  if s.motion.record.estopIn then raiseFault .f01 .none s else s

/-- The restart is carried out as one event (R201). -/
def restart (s : State) : State :=
  senseEstop
    (startSilence
      (resetVoice
        (resetClip
          (resetSeat .restart
            (resetZone
              (resetCue
                (restartDrive
                  (resetMotion (resetGuidance (clearFaultTable (restartReports s)))))))))))

/-- RESTART is refused in three motion states; else it is replied to first, and then carried out
(R201). -/
def takeRestart (f : RxFrame) (s : State) : State :=
  match s.mstate with
  | .run | .creep | .stopping => sendReply f (.refuse .state) s
  | .parked | .hold | .stopped | .estop => restart (sendReply f .done s)

/-- RESTART (R201). -/
def execRestart (b : Body Unit) (s : State) : Out := onRequest 0x64 b s fun f _ => takeRestart f

end Sys2Proof.Machine
end

