-- ==== Sys2Proof/Machine/Cue.lean ====
section
/-! DEFINITION. The cue unit's commands: the flag requests, SHOW FLAG, CUE ACK, the acknowledgement and
pulse timers, and CUE STATUS (R131 to R140). -/

namespace Sys2Proof.Machine

/-! ### Show flags -/

/-- A value byte as a truth value (R138; log 29). -/
def flagValue (v : Nat) : Option Bool :=
  match v with
  | 0 => some false
  | 1 => some true
  | _ => none

/-- FLAG SET (R138). -/
def flagSet (r : FlagSetReq) (s : State) : State × Answer :=
  if h : r.index < 32 then
    match flagValue r.value with
    | some v => (writeFlag ⟨r.index, h⟩ v s, ⟨.done, .done, .flag (s.flag ⟨r.index, h⟩)⟩)
    | none => (s, .invalid .range)
  else (s, .invalid .range)

/-- FLAG_SET (R138). -/
def execFlagSet (b : Body FlagSetReq) (s : State) : Out := onRequest 0x30 b s (answering flagSet)

/-- FLAG EXCHANGE (R139). -/
def flagExchange (r : FlagExchangeReq) (s : State) : State × Answer :=
  if h : r.index < 32 then
    match flagValue r.expected, flagValue r.value with
    | some e, some v =>
      if s.flag ⟨r.index, h⟩ = e then (writeFlag ⟨r.index, h⟩ v s, ⟨.done, .done, .flag v⟩)
      else (s, ⟨.qualified, .different, .flag (s.flag ⟨r.index, h⟩)⟩)
    | _, _ => (s, .invalid .range)
  else (s, .invalid .range)

/-- FLAG_EXCHANGE (R139). -/
def execFlagExchange (b : Body FlagExchangeReq) (s : State) : Out :=
  onRequest 0x31 b s (answering flagExchange)

/-- What a SHOW FLAG does (R137). -/
def showFlagFrame (index : Nat) (v : Bool) (s : State) : State :=
  if h : index < 32 then writeFlag ⟨index, h⟩ v s else postEvent (.flagRejected index v) s

/-- SHOW_FLAG (R137). -/
def execShowFlag (dest index : Byte) (v : Bool) (s : State) : Out :=
  onWayside dest s (showFlagFrame index.toNat v)

/-! ### Acknowledgements -/

/-- What a CUE ACK does (R131). -/
def takeAck (cueId : Nat) (tag : Byte) (s : State) : State :=
  match s.ackFor cueId tag with
  | none => s.setCue { s.cue with staleAcks := bump 65535 s.cue.staleAcks }
  | some e =>
    let s1 := closeAck cueId tag s
    if e.sends = 2 then tellCue cueId .ackedOnResend .bare s1 else s1

/-- CUE_ACK (R131). -/
def execCueAck (dest : Byte) (cueId : Half) (tag : Byte) (s : State) : Out :=
  onWayside dest s (takeAck cueId.toNat tag)

/-- The entry goes back to QUEUED and its frame is sent again (R132). -/
def resendScene (e : AckEntry) (s : State) : State :=
  putScene
    { controller := e.controller, number := e.number, cueId := e.cueId, tag := e.tag, late := e.late,
      ack := true, sends := 2 }
    (s.setCue
      { s.cue with
        acks := s.cue.acks.map fun x =>
          if x.isFor e.cueId e.tag then { x with sends := 2, stage := .queued } else x })

/-- The entry closes as UNACKNOWLEDGED and F21 is raised (R132). -/
def unacknowledged (e : AckEntry) (s : State) : State :=
  raiseFault .f21 (.cue e.cueId)
    (tellCue e.cueId .unacknowledged (.scene e.controller e.number) (closeAck e.cueId e.tag s))

/-- ACK_TIMER_EXPIRY (R132). -/
def execAckTimerExpiry (cueId : Nat) (tag : Byte) (s : State) : Out :=
  match s.ackFor cueId tag with
  | none => .next s
  | some e =>
    if e.stage = .queued then .next s
    else if e.sends = 1 then .next (resendScene e s)
    else .next (unacknowledged e s)

/-! ### Effect outputs -/

/-- PULSE_EXPIRY (R135): taken when the pulse has no time left, so that a PULSE taken before the
expiry of the pulse it replaces runs its whole time (log 2). -/
def execPulseExpiry (out : Fin 8) (s : State) : Out :=
  match s.cue.outputs[out] with
  | .pulsing 0 => .next (setOutput out .off s)
  | _ => .next s

/-! ### CUE STATUS (R140) -/

def State.cueStatusBody (s : State) : CueStatusBody :=
  { count := s.cue.cues.length, pointer := s.cue.pointer, lap := s.cue.lap,
    cues := s.cue.cues.map fun c => { id := c.id, trigger := c.trigger, last := c.last },
    flags := s.cue.flags, outputs := s.cue.outputs, acks := s.cue.acks, sceneTag := s.cue.sceneTag,
    staleAcks := s.cue.staleAcks, untracked := s.cue.untracked }

/-- CUE_STATUS (R140). -/
def execCueStatus (b : Body Unit) (s : State) : Out :=
  onRequest 0x32 b s (answering fun _ s => (s, ⟨.done, .done, .cueStatus s.cueStatusBody⟩))

end Sys2Proof.Machine
end

