-- ==== Sys2Proof/Machine/Fault.lean ====
section
/-! DEFINITION. The fault unit's commands: FAULTS and CLEAR FAULTS (R189, R192). -/

namespace Sys2Proof.Machine

/-- FAULTS: every record in order of priority, and the summary (R192). -/
def faultsAnswer (s : State) : Answer :=
  ⟨.done, .done, .faults (FaultCode.byPriority.map fun c => (c, s.faultRec c)) s.summary⟩

/-- FAULTS (R192). -/
def execFaults (b : Body Unit) (s : State) : Out :=
  onRequest 0x61 b s (answering fun _ s => (s, faultsAnswer s))

/-- A record after CLEAR FAULTS: its latch stays only while active is set (R189). -/
def FaultRecord.cleared (r : FaultRecord) : FaultRecord := { r with latched := r.latched && r.active }

/-- CLEAR FAULTS (R189). -/
def clearFaults (s : State) : State × Answer :=
  let gone := s.latchedCodes.filter fun c => !s.faultActive c
  let still := s.latchedCodes.filter s.faultActive
  let s1 :=
    noteSummary s.summary (s.setFault { table := s.fault.table.map FaultRecord.cleared })
  (s1, if still.isEmpty then ⟨.done, .done, .cleared gone still s1.summary⟩
       else ⟨.qualified, .fault, .cleared gone still s1.summary⟩)

/-- CLEAR_FAULTS (R189). -/
def execClearFaults (b : Body Unit) (s : State) : Out :=
  onRequest 0x62 b s (answering fun _ => clearFaults)

end Sys2Proof.Machine
end

