-- ==== Sys2Proof/Machine/HostLink.lean ====
section
/-! DEFINITION. The host link unit's commands: power-on, the receive framer and queue, the transmitter,
host silence, break, STATUS and FETCH REPORTS (R202 to R215). -/

namespace Sys2Proof.Machine

/-! ### Power-on (R202) -/

/-- Every block at its power-on values, with the strap and the ESTOP input as read (R202). -/
def State.powered (fast estop : Bool) (s : State) : State :=
  { State.reset with
    pending := s.pending
    host := { HostLink.reset with fast := fast }
    motion := { Motion.reset with record := { Motion.reset.record with estopIn := estop } } }

/-- POWER_ON (R202), with the ESTOP input sensed (R65). -/
def execPowerOn (fast estop : Bool) (s : State) : Out := .next (senseEstop (s.powered fast estop))

/-! ### Receiving (R204, R205, R213) -/

def setCounts (c : HostCounts) (s : State) : State := s.setHost { s.host with counts := c }

/-- How many OVERRUN replies wait at the transmitter (R207). -/
def HostLink.overrunsWaiting (h : HostLink) : Nat :=
  h.waiting.countP fun r => decide (r.detail = .overrun)

/-- A valid frame finds the queue full: it is counted and answered OVERRUN (R205, R207). -/
def overrun (f : RxFrame) (s : State) : State :=
  let s1 := setCounts { s.host.counts with overrun := bump 65535 s.host.counts.overrun } s
  if s1.host.overrunsWaiting < Config.overrunRepliesMax then sendReply f (.refuse .overrun) s1
  else setCounts { s1.host.counts with unanswered := bump 255 s1.host.counts.unanswered } s1

/-- A valid frame: the silence timer starts again, F18's condition ends, and the frame is queued or
overruns (R204, R205, R213). -/
def receiveValid (f : RxFrame) (s : State) : State :=
  let s1 := endSilent (startSilence s)
  if s1.host.rxQueue.length < Config.rxQueueMax then
    s1.setHost { s1.host with rxQueue := s1.host.rxQueue ++ [f] }
  else overrun f s1

/-- What the framer found acts (R204). -/
def receiveFramed (s : State) (x : Framed) : State :=
  match x with
  | .overLong => setCounts { s.host.counts with overLong := bump 65535 s.host.counts.overLong } s
  | .badCrc => setCounts { s.host.counts with badCrc := bump 65535 s.host.counts.badCrc } s
  | .valid f => receiveValid f s

/-- HOST_FRAME_RECEIVED (R204): the framer takes the bytes the line brings. -/
def execHostFrameReceived (bytes : List Byte) (s : State) : Out :=
  let r := framerFeed s.host.framer bytes
  .next (r.1.foldl receiveFramed (s.setHost { s.host with framer := r.2 }))

/-- BREAK (R214). -/
def execLineBreak (s : State) : Out :=
  .next
    (s.setHost
      { s.host with
        framer := [], rxQueue := []
        counts := { s.host.counts with breaks := bump 255 s.host.counts.breaks } })

/-- HOST_SILENCE_TIMEOUT (R213): F18 is raised as the host becomes silent, and not again while it stays
silent (R185). -/
def execHostSilenceTimeout (s : State) : Out :=
  if s.host.silence.isRunning then
    if s.host.silent then .next (s.setHost { s.host with silence := .expired })
    else .next (raiseFault .f18 .none (s.setHost { s.host with silence := .expired, silent := true }))
  else .next s

/-- REPLY_SENT (R207): the next frame handed over is sent. -/
def execReplySent (s : State) : Out :=
  .next (s.setHost { s.host with sending := s.host.waiting.head?, waiting := s.host.waiting.tail })

/-- UNKNOWN_KIND (R206). -/
def execUnknownKind (s : State) : Out :=
  match s.host.held, s.host.rxQueue with
  | none, f :: rest =>
    if requestKinds.contains f.kind then .next s
    else .next (sendReply f (.invalid .unknownKind) (s.setHost { s.host with rxQueue := rest }))
  | _, _ => .next s

/-! ### STATUS (R208) -/

def State.statusBody (s : State) : StatusBody :=
  { config := s.config.record, summary := s.summary, est := s.guide.est, reading := s.guide.reading,
    steer := s.guide.steer, gains := s.guide.gains, speed := s.motion.speed, motion := s.motion.record,
    standstill := s.motion.standstill, drive := s.motion.drive, armed := s.motion.armed,
    permit := s.seat.permit, permitCause := s.seat.permitCause, hold := s.zone.hold,
    table := s.zone.table, link := s.zone.link, flags := s.cue.flags, outputs := s.cue.outputs,
    host := s.host.counts, reports := s.host.reports.length, dropped := s.host.dropped,
    silence := s.lim.hostSilence, hostSilent := s.host.silent }

/-- STATUS (R208). -/
def execStatus (b : Body Unit) (s : State) : Out :=
  onRequest 0x60 b s (answering fun _ s => (s, ⟨.done, .done, .status s.statusBody⟩))

/-! ### FETCH REPORTS (R211) -/

/-- An UNDERRUN report's values as they stand (R182). -/
def State.underrunShown (s : State) (v : Nat) : Fetched :=
  if h : v < 8 then
    let w := s.getVoice ⟨v, h⟩
    .underrun v w.clip w.underrun w.underruns
  else .underrun v none false 0

/-- The class of the code the summary names (R191). -/
def State.summaryClass (s : State) : Option FaultClass :=
  s.summary.code.map fun c => (s.faultRec c).cls

/-- A report with its values as they stand when it is fetched (R209); a SEAT STATE report of a seat that
a COMMIT no longer fits shows no fields (log 41). -/
def State.fetched (s : State) (r : Report) : Fetched :=
  match r with
  | .event e => .event e
  | .state .position _ =>
    .position s.guide.est.front s.guide.est.lap s.guide.est.posState s.guide.est.lastMarker
      s.guide.est.lastCorrection
  | .state .motionState _ =>
    .motionState s.mstate s.motion.record.resumeRun s.motion.record.paused s.motion.standstill
      s.motion.record.dispatchCount (s.motion.record.stopRec.map (·.first))
  | .state .zoneStatus _ => .zoneStatus s.zone.table s.zone.link s.zone.hold
  | .state .seatState a => .seatState ((s.seatAt a).map SeatRecord.shown)
  | .state .underrun v => s.underrunShown v
  | .state .flags _ => .flags s.cue.flags
  | .state .faultSummary _ => .faultSummary s.summary s.summaryClass
  | .state .configState _ => .configState s.config.record

/-- Up to 16 reports leave the queue, and OVERFLOW joins it when reports were dropped (R211). -/
def HostLink.afterFetch (h : HostLink) : HostLink :=
  let rest := h.reports.drop Config.fetchMax
  if 0 < h.dropped ∧ rest.length < Config.reportMax then
    { h with reports := rest ++ [.event (.overflow h.dropped)], dropped := 0 }
  else { h with reports := rest }

/-- FETCH REPORTS (R211). -/
def fetchReports (s : State) : State × Answer :=
  let got := s.host.reports.take Config.fetchMax
  let s1 := s.setHost s.host.afterFetch
  (s1, ⟨.done, .done, .reports got.length s1.host.reports.length (got.map s.fetched)⟩)

/-- FETCH_REPORTS (R211). -/
def execFetchReports (b : Body Unit) (s : State) : Out :=
  onRequest 0x63 b s (answering fun _ => fetchReports)

end Sys2Proof.Machine
end

