-- ==== Sys2Proof/Machine/MotionCmd.lean ====
section
/-! DEFINITION. The motion unit's commands: the host's motion requests, the three wayside commands and
the ESTOP input (R49 to R65). -/

namespace Sys2Proof.Machine

/-! ### Judgements (R51 to R62) -/

/-- ENABLE DRIVE (R51). -/
def enableDrive (s : State) : State × Answer :=
  if s.mstate = .hold then (s, .already)
  else if s.mstate ≠ .parked then (s, .refuse .state)
  else if s.isReady = false then (s, .refuse .config)
  else if s.motion.record.estopIn then (s, .refuse .estop)
  else if s.classLatched .stop || s.classLatched .hold then (s, refuseFault s)
  else (moveTo .hold (setStopRecord none s), .done)

/-- DISABLE DRIVE (R52). -/
def disableDrive (s : State) : State × Answer :=
  match s.mstate with
  | .parked => (s, .already)
  | .run | .creep | .stopping | .estop => (s, .refuse .state)
  | .hold | .stopped => (moveTo .parked s, .done)

/-- A dispatch that passes its tests: the arming is cleared and the count incremented (R54). -/
def takeDispatch (source : CommandSource) (s : State) : State :=
  let s1 :=
    s.setMotion
      { s.motion with
        armed := none
        record := { s.motion.record with dispatchCount := s.motion.record.dispatchCount + 1 } }
  let s2 := moveTo .run s1
  postEvent (.dispatched source s2.guide.est.front s2.guide.est.lap s2.motion.record.dispatchCount) s2

/-- DISPATCH from the host or the wayside (R53, R54). -/
def judgeDispatch (source : CommandSource) (s : State) : State × Answer :=
  if s.mstate = .run then (s, .already)
  else if s.mstate ≠ .hold then (s, .refuse .state)
  else if s.guide.est.posState ≠ .located then (s, .refuse .position)
  else if s.classLatched .hold then (s, refuseFault s)
  else if s.inLoadZone && !s.seat.permit then (s, .refuse .permit)
  else (takeDispatch source s, .done)

/-- HOLD and RIDE HOLD (R55, R63). -/
def judgeHold (s : State) : State × Answer :=
  match s.mstate with
  | .run => (moveTo .hold s, .done)
  | .creep => (creepEnd .held (moveTo .hold s), .done)
  | .hold => (s, .already)
  | .parked | .stopping | .stopped | .estop => (s, .refuse .state)

/-- RESUME and RIDE RESUME (R56). -/
def judgeResume (s : State) : State × Answer :=
  if s.mstate = .run then (s, .already)
  else if s.mstate ≠ .hold then (s, .refuse .state)
  else if s.motion.record.resumeRun = false then (s, .refuse .noTarget)
  else if s.inLoadZone then (s, .refuse .loadZone)
  else if s.guide.est.posState.known = false then (s, .refuse .position)
  else if s.classLatched .hold then (s, refuseFault s)
  else (moveTo .run s, .done)

/-- STOP (R58). -/
def judgeStop (s : State) : State × Answer :=
  match s.mstate with
  | .hold | .run | .creep => (stopCause .request s, .done)
  | .stopping | .stopped | .estop => (stopCause .request s, .already)
  | .parked => (s, .refuse .state)

/-- CLEAR STOP (R61). -/
def clearStop (s : State) : State × Answer :=
  if s.mstate = .hold then (s, .already)
  else if s.mstate ≠ .stopped then (s, .refuse .state)
  else if s.classLatched .stop then (s, refuseFault s)
  else (moveTo .hold (setStopRecord none s), .done)

/-- CREEP (R62). -/
def judgeCreep (s : State) : State × Answer :=
  if s.mstate = .creep then (s, .already)
  else if s.mstate ≠ .hold then (s, .refuse .state)
  else if s.guide.est.posState.known then (s, .refuse .position)
  else if s.motion.standstill = false then (s, .refuse .standstill)
  else
    (moveTo .creep
      (s.setMotion { s.motion with record := { s.motion.record with creepDist := 0 } }), .done)

/-! ### Requests of the host -/

/-- ENABLE_DRIVE (R51). -/
def execEnableDrive (b : Body Unit) (s : State) : Out :=
  onRequest 0x10 b s (answering fun _ => enableDrive)

/-- DISABLE_DRIVE (R52). -/
def execDisableDrive (b : Body Unit) (s : State) : Out :=
  onRequest 0x11 b s (answering fun _ => disableDrive)

/-- DISPATCH (R53). -/
def execDispatch (b : Body Unit) (s : State) : Out :=
  onRequest 0x12 b s (answering fun _ => judgeDispatch .host)

/-- HOLD (R55). -/
def execHold (b : Body Unit) (s : State) : Out := onRequest 0x13 b s (answering fun _ => judgeHold)

/-- RESUME (R56). -/
def execResume (b : Body Unit) (s : State) : Out := onRequest 0x14 b s (answering fun _ => judgeResume)

/-- STOP (R58). -/
def execStop (b : Body Unit) (s : State) : Out := onRequest 0x15 b s (answering fun _ => judgeStop)

/-- CLEAR_STOP (R61). -/
def execClearStop (b : Body Unit) (s : State) : Out :=
  onRequest 0x16 b s (answering fun _ => clearStop)

/-- CREEP (R62). -/
def execCreep (b : Body Unit) (s : State) : Out := onRequest 0x17 b s (answering fun _ => judgeCreep)

/-! ### Commands of the wayside (R50) -/

/-- A wayside command is judged as the host request, and its outcome posted (R50). -/
def waysideCommand (c : MotionCommand) (judge : State → State × Answer) (s : State) : State :=
  let r := judge s
  postEvent (.motionCommand c .wayside r.2.cls r.2.detail) r.1

/-- WAYSIDE_DISPATCH (R50, R53). -/
def execWaysideDispatch (dest : Byte) (s : State) : Out :=
  onWayside dest s (waysideCommand .dispatch (judgeDispatch .wayside))

/-- RIDE_HOLD (R50, R55). -/
def execRideHold (dest : Byte) (s : State) : Out := onWayside dest s (waysideCommand .rideHold judgeHold)

/-- RIDE_RESUME (R50, R56). -/
def execRideResume (dest : Byte) (s : State) : Out :=
  onWayside dest s (waysideCommand .rideResume judgeResume)

/-! ### The ESTOP input (R64, R65) -/

def setEstopIn (on : Bool) (s : State) : State :=
  s.setMotion { s.motion with record := { s.motion.record with estopIn := on } }

/-- ESTOP_ASSERTED (R64). -/
def execEstopAsserted (s : State) : Out :=
  if s.motion.record.estopIn then .next s else .next (raiseFault .f01 .none (setEstopIn true s))

/-- ESTOP_RELEASED (R65). -/
def execEstopReleased (s : State) : Out :=
  if s.motion.record.estopIn then
    let s1 := endCond .f01 (setEstopIn false s)
    .next (if s1.mstate = .estop then enterStopped s1 else s1)
  else .next s

end Sys2Proof.Machine
end

