-- ==== Sys2Proof/Machine/VoiceCmd.lean ====
section
/-! DEFINITION. The voice engine's commands: the host's voice requests, the sample tick with its mixer,
and MIX STATUS (R165 to R181). -/

namespace Sys2Proof.Machine

/-! ### Requests of the host -/

/-- VOICE START from the host (R165). -/
def voiceStart (r : VoiceStartReq) (s : State) : State × Answer :=
  if h : r.voice < 8 then
    match r.hold with
    | none => (s, .invalid .range)
    | some p =>
      if 511 < r.clip ∨ 4096 < r.gain ∨ routesOk r.routes = false then (s, .invalid .range)
      else if r.voice = 7 ∧ s.config.committedMap.clip.isSome then (s, .refuse .reserved)
      else if s.claimable r.clip = false then
        (s, ⟨.refused, .notReady, .clipState (s.clipState r.clip)⟩)
      else
        (takeStart ⟨r.voice, h⟩
          { clip := r.clip, gain := r.gain, routes := r.routes, hold := p, loop := r.loop,
            duckable := r.duckable, announce := false, source := .host } s,
          ⟨.done, if (s.getVoice ⟨r.voice, h⟩).state = .idle then .started else .pending, .empty⟩)
  else (s, .invalid .range)

/-- VOICE_START (R165). -/
def execVoiceStart (b : Body VoiceStartReq) (s : State) : Out :=
  onRequest 0x48 b s (answering voiceStart)

/-- VOICE STOP from the host (R173). -/
def voiceStop (r : VoiceStopReq) (s : State) : State × Answer :=
  if h : r.voice < 8 then
    if 10000 < r.fade then (s, .invalid .range)
    else if (s.getVoice ⟨r.voice, h⟩).state = .idle then (s, .already)
    else (stopVoice ⟨r.voice, h⟩ r.fade s, .done)
  else (s, .invalid .range)

/-- VOICE_STOP (R173). -/
def execVoiceStop (b : Body VoiceStopReq) (s : State) : Out := onRequest 0x49 b s (answering voiceStop)

/-- VOICE GAIN from the host (R174). -/
def voiceGain (r : VoiceGainReq) (s : State) : State × Answer :=
  if h : r.voice < 8 then
    if 4096 < r.target ∨ 10000 < r.ramp then (s, .invalid .range)
    else if (s.getVoice ⟨r.voice, h⟩).takesGain then
      (gainVoice ⟨r.voice, h⟩ r.target r.ramp s, .done)
    else (s, .refuse .state)
  else (s, .invalid .range)

/-- VOICE_GAIN (R174). -/
def execVoiceGain (b : Body VoiceGainReq) (s : State) : Out := onRequest 0x4A b s (answering voiceGain)

/-! ### MIX STATUS (R181) -/

def State.mixStatusBody (s : State) : MixStatusBody :=
  { voices := s.voice.voices, paused := s.voice.paused, ducking := s.ducking,
    masters := s.voice.masters, duck := s.voice.duck, clips := s.voice.clips }

/-- MIX STATUS reports the clip counters and sets them to 0 (R179, R181). -/
def mixStatus (s : State) : State × Answer :=
  (s.setVoice { s.voice with clips := Vector.replicate 4 0 }, ⟨.done, .done, .mixStatus s.mixStatusBody⟩)

/-- MIX_STATUS (R181). -/
def execMixStatus (b : Body Unit) (s : State) : Out := onRequest 0x4B b s (answering fun _ => mixStatus)

/-! ### Drawing samples (R171, R172, R175) -/

/-- What a voice gives the mixer: the sample drawn, its gain in Q12 and its routes (R178). -/
structure Contribution where
  sample : Int
  gain : Nat
  routes : Routes
  deriving DecidableEq, Repr

/-- The gain a voice gives the mixer, lowered while ducking is active (R174, R177). -/
def Voice.mixGain (w : Voice) (ducked : Bool) (duck : Nat) : Nat :=
  let g := w.gain / 256
  if ducked && w.duckable then (g * duck + 2048) / 4096 else g

/-- Sample j of a block (R142). -/
def blockSample (b : List Byte) (j : Nat) : Int := (ofLe16 (b.getD (2 * j) 0) (b.getD (2 * j + 1) 0)).toInt

/-- Whether the voice pauses before drawing this sample (R175). -/
def Voice.pausesNow (w : Voice) : Bool :=
  decide (w.state = .playing) && w.pausePending && decide (w.pos % 256 = 0) && !w.ring.isEmpty

/-- An underrun sample (R171, R182). -/
def underrun (v : Fin 8) (s : State) : State :=
  let w := s.getVoice v
  let s1 := s.putVoice v { w with underrun := true, underruns := bump 65535 w.underruns }
  if w.underrun then s1
  else raiseFault .f16 (.voiceClip v (w.clip.getD 0)) (postState .underrun v s1)

/-- The voice reached the length of its clip (R168, R172). -/
def clipEnd (v : Fin 8) (s : State) : State :=
  let w := s.getVoice v
  if w.loop then s.putVoice v { w with pos := w.loopStart.getD 0 }
  else if w.state = .releasing then fadeEnd v s
  else goIdle v .ended s

/-- The position is incremented; a finished block leaves the ring (R171), and the clip may end
(R172). -/
def advance (v : Fin 8) (s : State) : State :=
  let w := s.getVoice v
  let p := w.pos + 1
  if p % 256 = 0 ∨ p = w.length then
    let s1 := refillTest v (s.putVoice v { w with pos := p, ring := w.ring.tail })
    if p = w.length then clipEnd v s1 else s1
  else s.putVoice v { w with pos := p }

/-- The gain moves, and a fade that reaches 0 ends (R168, R174). -/
def moveGain (v : Fin 8) (s : State) : State :=
  if (s.getVoice v).state = .idle then s else fadeTest v (s.putVoice v (s.getVoice v).stepGain)

/-- A voice's part of a tick: it pauses, draws, or stands, and its gain moves. -/
def tickVoice (ducked : Bool) (duck : Nat) (v : Fin 8) (s : State) : State × Option Contribution :=
  let w := s.getVoice v
  if w.pausesNow then
    (moveGain v (s.putVoice v { w with state := .paused, pausePending := false }), none)
  else if w.soundsOn then
    match w.ring with
    | [] => (moveGain v (underrun v s), some ⟨0, w.mixGain ducked duck, w.routes⟩)
    | b :: _ =>
      (moveGain v (advance v s),
        some ⟨blockSample b (w.pos % 256), w.mixGain ducked duck, w.routes⟩)
  else (moveGain v s, none)

/-- Every voice's part of a tick. DESIGN CHOICE (log 57): voice 0 first, where the rules name no order of
the voices (R171, R174, R178). -/
def tickVoices (ducked : Bool) (duck : Nat) : List (Fin 8) → State → State × List Contribution
  | [], s => (s, [])
  | v :: vs, s =>
    let r := tickVoice ducked duck v s
    let rest := tickVoices ducked duck vs r.1
    (rest.1, r.2.toList ++ rest.2)

/-! ### The mixer (R178, R179) -/

/-- The range of a 16-bit sample. -/
def clampSample (x : Int) : Int := clampInt (-32768) 32767 x

/-- The sum of an output's terms (R178). -/
def mixSum (cs : List Contribution) (o : Fin 4) : Int :=
  (cs.map fun c => c.sample * (c.gain : Int) * ((c.routes[o] : Nat) : Int)).sum

/-- The first stage before it is set to range (R178). -/
def stageOne (sum : Int) : Int := (sum + 524288) / 1048576

/-- The second stage before it is set to range (R179). -/
def stageTwo (x : Int) (master : Nat) : Int := (x * master + 128) / 256

/-- An output's final sample and how many of its stages saturated (R178, R179). -/
def mixOutput (cs : List Contribution) (master : Nat) (o : Fin 4) : Int × Nat :=
  let a := stageOne (mixSum cs o)
  let x := clampSample a
  let b := stageTwo x master
  let y := clampSample b
  (y, (if a = x then 0 else 1) + (if b = y then 0 else 1))

/-- The mixer's frame and counters (R178 to R180). -/
def mixFrame (cs : List Contribution) (masters : Vector Nat 4) (u : VoiceEngine) : VoiceEngine :=
  { u with
    frame := Vector.ofFn fun o => BitVec.ofInt 16 (mixOutput cs masters[o] o).1
    clips := Vector.ofFn fun o => min 65535 (u.clips[o] + (mixOutput cs masters[o] o).2) }

/-- Every voice's part of a tick, and the mixer's (R171 to R180). -/
def sampleTick (s : State) : State :=
  let r := tickVoices s.ducking.active s.voice.duck [0, 1, 2, 3, 4, 5, 6, 7] s
  r.1.setVoice (mixFrame r.2 s.voice.masters r.1.voice)

/-- SAMPLE_TICK (R178). -/
def execSampleTick (s : State) : Out := .next (sampleTick s)

end Sys2Proof.Machine
end

