-- ==== Sys2Proof/Machine/Zone.lean ====
section
/-! DEFINITION. The zone unit's commands: answers of the zone controller, revokes, the timers, the link
and its transmitter, RECLAIM and ZONE STATUS (R72 to R94). -/

namespace Sys2Proof.Machine

/-! ### Answers to claims and releases -/

/-- Whether an answer with a tag matches the entry's outstanding claim (R73, R74). -/
def Reservation.answers (r : Reservation) (tag : Byte) : Bool :=
  decide (r.state = .requested) && r.outstanding && decide (r.tag = tag)

/-- A matching GRANT: the entry is HELD (R73). -/
def Reservation.granted (r : Reservation) : Reservation :=
  { r with state := .held, timer := .stopped, outstanding := false, failed := false, sendDue := false }

/-- What a GRANT does (R73, R78). -/
def takeGrant (z : Nat) (tag : Byte) (s : State) : State :=
  match s.entryOf z with
  | none => reportZone (.unexpectedGrant z tag) (returnRelease z tag s)
  | some r =>
    if r.answers tag then
      testF10 .link (recomputeHold (reportTable (modEntry z Reservation.granted s)))
    else if r.state = .held then s
    else if r.state = .releasing then reportZone (.unexpectedGrant z tag) s
    else reportZone (.unexpectedGrant z tag) (returnRelease z tag s)

/-- GRANT (R73, R78). -/
def execGrant (dest zone tag : Byte) (s : State) : Out := onWayside dest s (takeGrant zone.toNat tag)

/-- The backoff time after the k-th denial (R74). -/
def backoffMs (base k : Nat) : Nat := base * 2 ^ min (k - 1) 5

/-- The entry after a matching DENY BUSY (R74); an answer to its tag ends the failed mark (log 33). -/
def Reservation.denied (r : Reservation) (limit base : Nat) : Reservation :=
  let k := bump 31 r.deny
  if limit ≤ k then
    { r with state := .waiting, deny := k, timer := .stopped, outstanding := false, failed := false,
             sendDue := false }
  else
    { r with deny := k, timer := .backoff (backoffMs base k), outstanding := false, failed := false,
             sendDue := false }

/-- The entry after a matching DENY CLOSED (R75; log 33). -/
def Reservation.closedBy (r : Reservation) : Reservation :=
  { r with state := .closed, timer := .stopped, outstanding := false, failed := false, sendDue := false }

/-- A matching DENY BUSY (R74). -/
def denyBusy (r : Reservation) (s : State) : State :=
  let r' := r.denied s.lim.denyLimit s.lim.backoffBase
  let s1 := modEntry r.zone (fun _ => r') s
  let s2 := if r'.state = .waiting then reportZone (.waiting r.zone) (reportTable s1) else s1
  testF10 .link (recomputeHold s2)

/-- A matching DENY CLOSED (R75). -/
def denyClosed (r : Reservation) (s : State) : State :=
  let s1 := reportTable (modEntry r.zone Reservation.closedBy s)
  testF10 .link (recomputeHold (raiseFault .f15 (.zone r.zone) (reportZone (.closed r.zone) s1)))

/-- What a DENY does (R74, R75). -/
def takeDeny (z : Nat) (tag : Byte) (reason : DenyReason) (s : State) : State :=
  match s.entryOf z with
  | none => countStale s
  | some r =>
    if r.answers tag then
      match reason with
      | .busy => denyBusy r s
      | .closed => denyClosed r s
    else countStale s

/-- DENY (R74, R75). -/
def execDeny (dest zone tag : Byte) (reason : DenyReason) (s : State) : Out :=
  onWayside dest s (takeDeny zone.toNat tag reason)

/-- Whether ZONE FREE and RECLAIM restart the claim of an entry (R76). -/
def Reservation.restartable (r : Reservation) : Bool :=
  decide (r.state = .waiting) || decide (r.state = .closed) ||
    (decide (r.state = .requested) && r.failed)

/-- What ZONE FREE does (R76). -/
def takeFree (z : Nat) (s : State) : State :=
  match s.entryOf z with
  | none => s
  | some r => if r.restartable then testF10 .link (recomputeHold (restartClaim z s)) else s

/-- ZONE_FREE (R76). -/
def execZoneFree (dest zone : Byte) (s : State) : Out := onWayside dest s (takeFree zone.toNat)

/-- What a RELEASED does (R80). -/
def takeReleased (z : Nat) (tag : Byte) (s : State) : State :=
  match s.entryOf z with
  | none => countStale s
  | some r =>
    if r.state = .releasing ∧ r.tag = tag then testF10 .link (recomputeHold (removeEntry z s))
    else countStale s

/-- RELEASED (R80). -/
def execReleased (dest zone tag : Byte) (s : State) : Out :=
  onWayside dest s (takeReleased zone.toNat tag)

/-! ### Revoke (R82, R83) -/

/-- The stopping distance (R82). -/
def State.stopDist (s : State) : Nat :=
  ceilDiv (s.motion.speed.demand * s.motion.speed.demand) (2 * s.lim.deceleration)

/-- The distance from the front to the revoked zone's entry less the stop margin (R82). -/
def State.revokeDist (s : State) (z : Nat) : Int :=
  match s.zoneInfo z with
  | some i => s.fromFront (wrapPos s.P ((i.entry : Int) - s.lim.stopMargin))
  | none => 0

/-- The zones a revoke removes: the zone named and every HELD zone beyond it (R83). -/
def State.revokedZones (s : State) (z : Nat) : List Reservation :=
  s.zone.table.filter fun r =>
    decide (r.zone = z) || (decide (r.state = .held) && decide (s.entryDist z < s.entryDist r.zone))

/-- Whether a removed entry's zone is given back by a return RELEASE (R83). -/
def Reservation.givesBack (r : Reservation) : Bool :=
  decide (r.state = .held) || (decide (r.state = .requested) && r.outstanding)

/-- The frames of removed entries that wait in the mailbox are withdrawn (R83). -/
def withdrawMail (zs : List Nat) (s : State) : State :=
  s.setZone
    { s.zone with
      mailbox := s.zone.mailbox.filter fun m =>
        match m.owner with
        | some z => !zs.contains z
        | none => true }

/-- A revoke carried out (R83; the order of its parts is log 14's, and the removed entries are taken in
table order, log 39). -/
def carryOutRevoke (z : Nat) (s : State) : State :=
  let gone := s.revokedZones z
  let s1 := gone.foldl (fun st r => removeEntry r.zone st) (withdrawMail (gone.map (·.zone)) s)
  let s2 :=
    (gone.filter Reservation.givesBack).foldl (fun st r => returnRelease r.zone r.tag st)
      (serveSendDue s1)
  testF10 .link (recomputeHold s2)

def acceptRevoke (z : Nat) (s : State) : State :=
  reportZone (.revoked z) (putAnswer (.revokeAccept z) s)

def refuseRevoke (z : Nat) (why : RefuseReason) (s : State) : State :=
  reportZone (.revokeRefused z why) (putAnswer (.revokeRefuse z why) s)

/-- What a REVOKE does (R82). -/
def takeRevoke (z : Nat) (s : State) : State :=
  match s.entryOf z with
  | none => refuseRevoke z .unknown s
  | some r =>
    if r.state = .releasing then acceptRevoke z s
    else if s.frontZone = some z ∨ s.revokeDist z ≤ 0 then refuseRevoke z .committed s
    else if s.revokeDist z < (s.stopDist : Int) then refuseRevoke z .committed s
    else acceptRevoke z (carryOutRevoke z s)

/-- REVOKE (R82). -/
def execRevoke (dest zone : Byte) (s : State) : Out := onWayside dest s (takeRevoke zone.toNat)

/-! ### Link supervision and frames of no effect (R89 to R91) -/

/-- LINK_CHECK (R89). -/
def execLinkCheck (dest : Byte) (s : State) : Out := onWayside dest s id

/-- WAYSIDE_FRAME_DISCARD (R89): a frame that fails its frame check. -/
def execWaysideFrameDiscard (frame : List Byte) (s : State) : Out :=
  if s.zone.link = .stopped then .next s
  else
    match waysideCheck frame with
    | none => .next (countDiscard s)
    | some _ => .next s

/-- WAYSIDE_UNKNOWN_KIND (R89): a valid frame of a kind that is not routed. DESIGN CHOICE (log 51): so is
one with a kind that only a vehicle sends, 0x21 to 0x27, which R89 does not route and R216's table
holds; its body is checked by that table. -/
def execWaysideUnknownKind (frame : List Byte) (s : State) : Out :=
  match waysideCheck frame with
  | none => .next s
  | some f => if routedKinds.contains f.kind then .next s else onWayside f.dest s countDiscard

/-- LINK_TIMEOUT (R90). -/
def execLinkTimeout (s : State) : Out :=
  if s.zone.link ≠ .stopped ∧ s.zone.linkTimer.isRunning = true then
    .next
      (testF10 .link
        (reportZone .linkLost (s.setZone { s.zone with link := .lost, linkTimer := .expired })))
  else .next s

/-! ### Entry timers (R74, R77, R80) -/

/-- The entry whose claim timer runs, while the link is started (R77, R90). -/
def State.claimRunning (s : State) (z : Nat) : Option Reservation :=
  if s.zone.link = .stopped then none
  else
    match s.entryOf z with
    | some r =>
      match r.timer with
      | .claim _ => some r
      | _ => none
    | none => none

/-- The entry whose release timer runs, while the link is started (R80, R90). -/
def State.releaseRunning (s : State) (z : Nat) : Option Reservation :=
  if s.zone.link = .stopped then none
  else
    match s.entryOf z with
    | some r =>
      match r.timer with
      | .release _ => some r
      | _ => none
    | none => none

/-- The entry whose backoff timer runs, while the link is started (R74, R90). -/
def State.backoffRunning (s : State) (z : Nat) : Option Reservation :=
  if s.zone.link = .stopped then none
  else
    match s.entryOf z with
    | some r =>
      match r.timer with
      | .backoff _ => some r
      | _ => none
    | none => none

/-- A claim or release timer expires: the frame is sent again, or at the fourth expiry the entry
fails (R77, R80). -/
def expire (r : Reservation) (timeout : ZoneReport) (s : State) : State :=
  if r.resend < 3 then
    sendEntry r.zone
      (modEntry r.zone (fun x => { x with resend := x.resend + 1, timer := .stopped }) s)
  else
    testF10 (.zone r.zone)
      (reportZone timeout (modEntry r.zone (fun x => { x with failed := true, timer := .stopped }) s))

/-- CLAIM_TIMER_EXPIRY (R77). -/
def execClaimTimerExpiry (zone : Nat) (s : State) : Out :=
  match s.claimRunning zone with
  | some r => .next (expire r (.claimTimeout zone) s)
  | none => .next s

/-- RELEASE_TIMER_EXPIRY (R80). -/
def execReleaseTimerExpiry (zone : Nat) (s : State) : Out :=
  match s.releaseRunning zone with
  | some r => .next (expire r (.releaseTimeout zone) s)
  | none => .next s

/-- The claim is made again with a new tag, the deny count kept (R74). -/
def reclaimAfterBackoff (z : Nat) (s : State) : State :=
  let tag := s.zone.tagCtr
  sendEntry z
    (modEntry z (fun r => { r with tag := tag, resend := 0, timer := .stopped }) (nextTag s))

/-- BACKOFF_TIMER_EXPIRY (R74). -/
def execBackoffTimerExpiry (zone : Nat) (s : State) : Out :=
  match s.backoffRunning zone with
  | some _ => .next (reclaimAfterBackoff zone s)
  | none => .next s

/-! ### The transmitter (R87, R88) -/

/-- BEACON (R87). -/
def execBeacon (s : State) : Out :=
  if s.zone.link = .stopped then .next s
  else
    let s1 := putBeacon s.beaconNow s
    .next (s1.setZone { s1.zone with beaconTimer := .running Config.beaconMs })

/-- The mailbox gives its head frame, which carries the vehicle id (R72, R78, R79, R93), and the place
freed is served (R85, R88). The id is read as the frame is taken: a queued frame and the committed id
do not part, since BEGIN CONFIG empties the queues (R88) before a COMMIT can change the id. -/
def takeMail (m : Mail) (rest : List Mail) (s : State) : State :=
  serveSendDue
    (s.setZone
      { s.zone with
        mailbox := rest, sending := some ⟨s.lim.vehicleId, .mail m.frame⟩, tookMailbox := true })

/-- The long queue gives its head frame, with the vehicle id it carries (R87, R129); a SCENE CUE is told SENT (R88, R130). -/
def takeLong (f : LongFrame) (rest : List LongFrame) (s : State) : State :=
  let s1 :=
    s.setZone
      { s.zone with
        long := rest, sending := some ⟨f.source s.lim.vehicleId, .long f⟩, tookMailbox := false }
  match f with
  | .scene c => cueSent c s1
  | _ => s1

/-- The free transmitter takes a frame, turn about between queues that both hold one (R88). -/
def transmit (s : State) : State :=
  match s.zone.mailbox, s.zone.long with
  | [], [] => s
  | m :: ms, [] => takeMail m ms s
  | [], f :: fs => takeLong f fs s
  | m :: ms, f :: fs => if s.zone.tookMailbox then takeLong f fs s else takeMail m ms s

/-- WAYSIDE_TRANSMIT (R88). -/
def execWaysideTransmit (s : State) : Out :=
  if s.zone.link ≠ .stopped ∧ s.zone.sending = none then .next (transmit s) else .next s

/-- WAYSIDE_FRAME_SENT (R88): the transmitter is free again. -/
def execWaysideFrameSent (s : State) : Out := .next (s.setZone { s.zone with sending := none })

/-! ### Requests of the host -/

/-- Whether RECLAIM acts on an entry (R76). -/
def Reservation.reclaimable (r : Reservation) : Bool :=
  r.restartable || (decide (r.state = .releasing) && r.failed)

/-- A failed RELEASING entry sends its RELEASE again with the same tag (R76). -/
def resendRelease (z : Nat) (s : State) : State :=
  sendEntry z (modEntry z (fun r => { r with resend := 0, failed := false, timer := .stopped }) s)

/-- RECLAIM acts on one entry (R76). -/
def reclaimOne (s : State) (r : Reservation) : State :=
  if r.state = .releasing then resendRelease r.zone s else restartClaim r.zone s

/-- RECLAIM (R76): CONFIG is tested before RANGE (log 37), and 255 takes the entries in table order
(log 39). -/
def reclaim (z : Nat) (s : State) : State × Answer :=
  if s.isReady = false then (s, .refuse .config)
  else if 127 < z ∧ z ≠ 255 then (s, .invalid .range)
  else
    let named := s.zone.table.filter fun r => (decide (z = 255) || decide (r.zone = z)) && r.reclaimable
    if named.isEmpty then (s, ⟨.qualified, .already, .number 0⟩)
    else
      (testF10 .link (recomputeHold (named.foldl reclaimOne s)), ⟨.done, .done, .number named.length⟩)

/-- RECLAIM (R76). -/
def execReclaim (b : Body Nat) (s : State) : Out := onRequest 0x20 b s (answering reclaim)

/-- The ZONE STATUS reply (R94). -/
def State.zoneStatusBody (s : State) : ZoneStatusBody :=
  { link := s.zone.link, sinceFrame := s.zone.sinceFrame, table := s.zone.table,
    mailbox := s.zone.mailbox, long := s.zone.long.length, hold := s.zone.hold,
    tagCtr := s.zone.tagCtr, counts := s.zone.counts, zmap := s.zone.zmap }

/-- ZONE_STATUS (R94). -/
def execZoneStatus (b : Body Unit) (s : State) : Out :=
  onRequest 0x21 b s (answering fun _ s => (s, ⟨.done, .done, .zoneStatus s.zoneStatusBody⟩))

end Sys2Proof.Machine
end

