-- ==== Sys2Proof/Machine/Dispatch.lean ====
section
/-! DEFINITION. The meaning of every command: one direct call for each row of spec/opcode_table.json. -/

namespace Sys2Proof.Machine

def exec (i : Instr) (s : State) : Host.Outcome State Fault Refusal :=
  match i with
  | .powerOn fast estop => Sys2Proof.Machine.execPowerOn fast estop s
  | .hostFrameReceived bytes => Sys2Proof.Machine.execHostFrameReceived bytes s
  | .lineBreak => Sys2Proof.Machine.execLineBreak s
  | .hostSilenceTimeout => Sys2Proof.Machine.execHostSilenceTimeout s
  | .replySent => Sys2Proof.Machine.execReplySent s
  | .unknownKind => Sys2Proof.Machine.execUnknownKind s
  | .beginConfig b => Sys2Proof.Machine.execBeginConfig b s
  | .pathLoad b => Sys2Proof.Machine.execPathLoad b s
  | .markerLoad b => Sys2Proof.Machine.execMarkerLoad b s
  | .cueLoad b => Sys2Proof.Machine.execCueLoad b s
  | .seatMap b => Sys2Proof.Machine.execSeatMap b s
  | .limits b => Sys2Proof.Machine.execLimits b s
  | .setMix b => Sys2Proof.Machine.execSetMix b s
  | .setGains b => Sys2Proof.Machine.execSetGains b s
  | .commit b => Sys2Proof.Machine.execCommit b s
  | .restart b => Sys2Proof.Machine.execRestart b s
  | .enableDrive b => Sys2Proof.Machine.execEnableDrive b s
  | .disableDrive b => Sys2Proof.Machine.execDisableDrive b s
  | .dispatch b => Sys2Proof.Machine.execDispatch b s
  | .hold b => Sys2Proof.Machine.execHold b s
  | .resume b => Sys2Proof.Machine.execResume b s
  | .stop b => Sys2Proof.Machine.execStop b s
  | .clearStop b => Sys2Proof.Machine.execClearStop b s
  | .creep b => Sys2Proof.Machine.execCreep b s
  | .setPosition b order => Sys2Proof.Machine.execSetPosition b order s
  | .reclaim b => Sys2Proof.Machine.execReclaim b s
  | .zoneStatus b => Sys2Proof.Machine.execZoneStatus b s
  | .check b => Sys2Proof.Machine.execCheck b s
  | .release b => Sys2Proof.Machine.execRelease b s
  | .seatStatus b => Sys2Proof.Machine.execSeatStatus b s
  | .flagSet b => Sys2Proof.Machine.execFlagSet b s
  | .flagExchange b => Sys2Proof.Machine.execFlagExchange b s
  | .cueStatus b => Sys2Proof.Machine.execCueStatus b s
  | .clipDefine b => Sys2Proof.Machine.execClipDefine b s
  | .clipData b => Sys2Proof.Machine.execClipData b s
  | .clipSeal b => Sys2Proof.Machine.execClipSeal b s
  | .clipRead b => Sys2Proof.Machine.execClipRead b s
  | .clipErase b => Sys2Proof.Machine.execClipErase b s
  | .clipStatus b => Sys2Proof.Machine.execClipStatus b s
  | .voiceStart b => Sys2Proof.Machine.execVoiceStart b s
  | .voiceStop b => Sys2Proof.Machine.execVoiceStop b s
  | .voiceGain b => Sys2Proof.Machine.execVoiceGain b s
  | .mixStatus b => Sys2Proof.Machine.execMixStatus b s
  | .faults b => Sys2Proof.Machine.execFaults b s
  | .clearFaults b => Sys2Proof.Machine.execClearFaults b s
  | .status b => Sys2Proof.Machine.execStatus b s
  | .fetchReports b => Sys2Proof.Machine.execFetchReports b s
  | .odometerCount forward => Sys2Proof.Machine.execOdometerCount forward s
  | .guideSample g order => Sys2Proof.Machine.execGuideSample g order s
  | .guideTimeout => Sys2Proof.Machine.execGuideTimeout s
  | .feedback frame => Sys2Proof.Machine.execFeedback frame s
  | .estopAsserted => Sys2Proof.Machine.execEstopAsserted s
  | .estopReleased => Sys2Proof.Machine.execEstopReleased s
  | .waysideFrameDiscard frame => Sys2Proof.Machine.execWaysideFrameDiscard frame s
  | .waysideUnknownKind frame => Sys2Proof.Machine.execWaysideUnknownKind frame s
  | .grant dest zone tag => Sys2Proof.Machine.execGrant dest zone tag s
  | .deny dest zone tag reason => Sys2Proof.Machine.execDeny dest zone tag reason s
  | .zoneFree dest zone => Sys2Proof.Machine.execZoneFree dest zone s
  | .released dest zone tag => Sys2Proof.Machine.execReleased dest zone tag s
  | .revoke dest zone => Sys2Proof.Machine.execRevoke dest zone s
  | .linkCheck dest => Sys2Proof.Machine.execLinkCheck dest s
  | .waysideDispatch dest => Sys2Proof.Machine.execWaysideDispatch dest s
  | .rideHold dest => Sys2Proof.Machine.execRideHold dest s
  | .rideResume dest => Sys2Proof.Machine.execRideResume dest s
  | .waysideCheck dest => Sys2Proof.Machine.execWaysideCheck dest s
  | .showFlag dest index value => Sys2Proof.Machine.execShowFlag dest index value s
  | .cueAck dest cueId tag => Sys2Proof.Machine.execCueAck dest cueId tag s
  | .claimTimerExpiry zone => Sys2Proof.Machine.execClaimTimerExpiry zone s
  | .backoffTimerExpiry zone => Sys2Proof.Machine.execBackoffTimerExpiry zone s
  | .releaseTimerExpiry zone => Sys2Proof.Machine.execReleaseTimerExpiry zone s
  | .linkTimeout => Sys2Proof.Machine.execLinkTimeout s
  | .beacon => Sys2Proof.Machine.execBeacon s
  | .waysideTransmit => Sys2Proof.Machine.execWaysideTransmit s
  | .ackTimerExpiry cueId tag => Sys2Proof.Machine.execAckTimerExpiry cueId tag s
  | .pulseExpiry out => Sys2Proof.Machine.execPulseExpiry out s
  | .pollRoundStart => Sys2Proof.Machine.execPollRoundStart s
  | .seatTransaction response => Sys2Proof.Machine.execSeatTransaction response s
  | .roundEnd => Sys2Proof.Machine.execRoundEnd s
  | .seatLoopClosingRound responses => Sys2Proof.Machine.execSeatLoopClosingRound responses s
  | .releaseWindowExpiry => Sys2Proof.Machine.execReleaseWindowExpiry s
  | .stageIdleExpiry => Sys2Proof.Machine.execStageIdleExpiry s
  | .arbiterChoice => Sys2Proof.Machine.execArbiterChoice s
  | .commitBurstComplete => Sys2Proof.Machine.execCommitBurstComplete s
  | .readBackBurstComplete => Sys2Proof.Machine.execReadBackBurstComplete s
  | .verifyBlockComplete => Sys2Proof.Machine.execVerifyBlockComplete s
  | .refillComplete => Sys2Proof.Machine.execRefillComplete s
  | .sampleTick => Sys2Proof.Machine.execSampleTick s
  | .waysideFrameSent => Sys2Proof.Machine.execWaysideFrameSent s

end Sys2Proof.Machine
end

