-- ==== Sys2Proof/Safety.lean ====
section
/-! DEFINITION. What a safe run keeps: the capacities of the queues and tables, the canonical form of
sample memory, and the whole-part rules of the spec's prose. -/

namespace Sys2Proof.Machine

/-- Sample memory is in its canonical form (R142; log 4). -/
def State.MemoryCanonical (s : State) : Prop := Memory.wf s.clip.mem

/-- At most 48 reports, and no two state reports of one kind and source (R209). -/
def State.ReportsBounded (s : State) : Prop :=
  s.host.reports.length ≤ Config.reportMax ∧ (s.host.reports.filter Report.isState).Nodup

/-- At most 4 frames wait to be taken (R205). -/
def State.RxBounded (s : State) : Prop := s.host.rxQueue.length ≤ Config.rxQueueMax

/-- At most 4 entries, and never two for one zone (R70). -/
def State.TableBounded (s : State) : Prop :=
  s.zone.table.length ≤ Config.tableMax ∧ (s.zone.table.map (·.zone)).Nodup

/-- The wayside queues hold at most 4 and 16 frames (R85, R86). -/
def State.QueuesBounded (s : State) : Prop :=
  s.zone.mailbox.length ≤ Config.mailboxMax ∧ s.zone.long.length ≤ Config.longMax

/-- No two fitted seats, and no two seats of the map in force, have one address (R96, R100). -/
def State.SeatsDistinct (s : State) : Prop :=
  (s.seat.records.map (·.addr)).Nodup ∧ (s.config.committedMap.entries.map (·.addr)).Nodup

/-- The write stage holds at most 8 blocks (R148). -/
def State.StageBounded (s : State) : Prop := s.clip.stage.blocks.length ≤ Config.stageMax

/-- At most 8 scene cues await an answer (R129). -/
def State.AcksBounded (s : State) : Prop := s.cue.acks.length ≤ Config.ackMax

/-- The steering demand lies within the steering range in force (R28). -/
def State.SteerBounded (s : State) : Prop := s.guide.steer.delta.natAbs ≤ s.lim.steerRange

/-- The states in which the vehicle may be made to move (R58). -/
def MotionState.mayMove : MotionState → Bool
  | .hold | .run | .creep => true
  | .parked | .stopping | .stopped | .estop => false

/-- Motion is not HOLD, RUN or CREEP while a STOP-class fault is latched (R58). -/
def State.StopRespected (s : State) : Prop := s.mstate.mayMove = true → s.classLatched .stop = false

/-- Motion is PARKED while configuration is not READY (R195). -/
def State.ParkedUnlessReady (s : State) : Prop := s.isReady = false → s.mstate = .parked

end Sys2Proof.Machine
end

