-- ==== Sys2Proof/Certificates/Slice0/Obligations.lean ====
section
/-! DEFINITION. The statements for the provers, and the words they are written in: which request is
taken, what the host link unit holds after its reply, and what an update leaves unchanged. A frame is
written as a record update: `t = { s with host := t.host }` says that every part of the state but the
host link unit is as it was. -/

namespace Sys2Proof.Claims

open Sys2Proof.Machine

/-! ### Requests and replies (R206, R207) -/

/-- No request is in hand, and the frame at the head of the receive queue is of this kind. -/
abbrev Taken (kind : Byte) (s : State) (f : RxFrame) (rest : List RxFrame) : Prop :=
  s.host.held = none ∧ s.host.rxQueue = f :: rest ∧ f.kind = kind

/-- The reply to a frame (R206). -/
def reply (f : RxFrame) (cls : ResultClass) (detail : Detail) (body : ReplyBody) : Reply :=
  { tag := f.tag, kind := f.kind + 0x80#8, cls := cls, detail := detail, body := body }

/-- The host link unit with the frame taken and a reply handed over: sent at once when the
transmitter is free, else waiting behind those handed over before (R206, R207). -/
def replied (h : HostLink) (rest : List RxFrame) (r : Reply) : HostLink :=
  match h.sending with
  | none => { h with rxQueue := rest, sending := some r }
  | some _ => { h with rxQueue := rest, waiting := h.waiting ++ [r] }

/-- The host link unit took the frame and handed over exactly this reply; only its reports may
differ besides. -/
def Answered (s t : State) (f : RxFrame) (rest : List RxFrame) (cls : ResultClass) (detail : Detail)
    (body : ReplyBody) : Prop :=
  t.host =
    { replied s.host rest (reply f cls detail body) with
      reports := t.host.reports, dropped := t.host.dropped }

/-- The host link unit is as it was, but for its reports. -/
def OnlyReports (s t : State) : Prop :=
  t.host = { s.host with reports := t.host.reports, dropped := t.host.dropped }

/-- The request kind of a request row (the request list of 11_the_host_link.md); none for every
other row. -/
def kindOf (i : Instr) : Option Byte :=
  match i with
  | .beginConfig _ => some 0x01
  | .pathLoad _ => some 0x02
  | .markerLoad _ => some 0x03
  | .cueLoad _ => some 0x04
  | .seatMap _ => some 0x05
  | .limits _ => some 0x06
  | .setMix _ => some 0x07
  | .setGains _ => some 0x08
  | .commit _ => some 0x09
  | .enableDrive _ => some 0x10
  | .disableDrive _ => some 0x11
  | .dispatch _ => some 0x12
  | .hold _ => some 0x13
  | .resume _ => some 0x14
  | .stop _ => some 0x15
  | .clearStop _ => some 0x16
  | .creep _ => some 0x17
  | .setPosition _ _ => some 0x18
  | .reclaim _ => some 0x20
  | .zoneStatus _ => some 0x21
  | .check _ => some 0x28
  | .release _ => some 0x29
  | .seatStatus _ => some 0x2A
  | .flagSet _ => some 0x30
  | .flagExchange _ => some 0x31
  | .cueStatus _ => some 0x32
  | .clipDefine _ => some 0x40
  | .clipData _ => some 0x41
  | .clipSeal _ => some 0x42
  | .clipRead _ => some 0x43
  | .clipErase _ => some 0x44
  | .clipStatus _ => some 0x45
  | .voiceStart _ => some 0x48
  | .voiceStop _ => some 0x49
  | .voiceGain _ => some 0x4A
  | .mixStatus _ => some 0x4B
  | .status _ => some 0x60
  | .faults _ => some 0x61
  | .clearFaults _ => some 0x62
  | .fetchReports _ => some 0x63
  | .restart _ => some 0x64
  | _ => none

/-- Whether a body does not fit its kind. -/
def Misfit {α : Type} (b : Body α) : Prop := b = .misfit

/-- A table load's body does not fit also when its run is longer than the 64 records a request carries
(R2, R5, R121). -/
def LongOrMisfit {α : Type} (b : Body (Load α)) : Prop :=
  Misfit b ∨ ∃ l, b = .fit l ∧ 64 < l.run.length

/-- Whether a request row carries a body that does not fit its kind. -/
def misfit (i : Instr) : Prop :=
  match i with
  | .beginConfig b | .restart b | .enableDrive b | .disableDrive b | .dispatch b | .hold b | .resume b
  | .stop b | .clearStop b | .creep b | .zoneStatus b | .check b | .release b | .seatStatus b
  | .cueStatus b | .mixStatus b | .status b | .faults b | .clearFaults b | .fetchReports b => Misfit b
  | .pathLoad b => LongOrMisfit b
  | .markerLoad b => LongOrMisfit b
  | .cueLoad b => LongOrMisfit b
  | .seatMap b => Misfit b
  | .limits b => Misfit b
  | .setMix b => Misfit b
  | .setGains b => Misfit b
  | .commit b => Misfit b
  | .setPosition b _ | .reclaim b | .clipErase b => Misfit b
  | .flagSet b => Misfit b
  | .flagExchange b => Misfit b
  | .clipDefine b => Misfit b
  | .clipData b => Misfit b
  | .clipSeal b => Misfit b
  | .clipRead b => Misfit b
  | .clipStatus b => Misfit b
  | .voiceStart b => Misfit b
  | .voiceStop b => Misfit b
  | .voiceGain b => Misfit b
  | _ => False

/-- The requests whose owner may make the reply wait for memory work (R206). -/
def mayWait (i : Instr) : Prop :=
  match i with
  | .clipData _ | .clipSeal _ | .clipRead _ | .clipErase _ => True
  | _ => False

/-! ### Frames on the line -/

/-- The bytes of a host frame, as the Layouts section gives them. -/
def frameOnLine (tag kind : Byte) (body : List Byte) : List Byte :=
  let inner : List Byte :=
    [BitVec.ofNat 8 body.length, BitVec.ofNat 8 (body.length / 256), tag, kind] ++ body
  [0xC3] ++ inner ++
    [BitVec.ofNat 8 ((crc16 inner).toNat / 256), BitVec.ofNat 8 (crc16 inner).toNat]

/-! ### Tables -/

/-- A table with a run put at a start: truncated there by an empty run (R2). -/
def loaded {α : Type} (table : List α) (start : Nat) (run : List α) : List α :=
  match run with
  | [] => table.take start
  | _ :: _ => table.take start ++ run ++ table.drop (start + run.length)

/-! ### Reports -/

/-- An event report was posted, where the report queue had room for it (R209, R210). -/
def Posted (s t : State) (e : EventReport) : Prop :=
  s.host.reports.length ≤ 40 → Report.event e ∈ t.host.reports

/-- A step keeps a property of the state. -/
def KeptByStep (p : State → Prop) : Prop :=
  ∀ s t : State, p s → step s = .next t → p t

/-- What leaving HOLD ends: a check that runs, and the release window. From every other state the
seat unit is as it was (R112, R116). -/
def CheckAndWindowEnd (s t : State) : Prop :=
  t.seat.permit = s.seat.permit ∧ t.seat.loop = s.seat.loop ∧
    (s.mstate ≠ .hold → t.seat = s.seat) ∧
    (s.mstate = .hold → t.seat.check = none ∧ t.seat.window = .stopped) ∧
    (s.seat.check = none → s.seat.window = .stopped → t.seat = s.seat)

/-- A wayside frame is addressed to this vehicle or to all (R89). -/
def Addressed (s : State) (dest : Byte) : Prop := dest.toNat = s.lim.vehicleId ∨ dest = 255

/-- The zone unit once a valid frame was heard on a link that is UP (R90). -/
def heard (s : State) : ZoneUnit :=
  { s.zone with linkTimer := .running s.lim.linkTimeout, sinceFrame := some 0 }

/-- The entry of a zone in the reservation table, the only one for it (R70). -/
def EntryOf (s : State) (z : Nat) (r : Reservation) : Prop :=
  r ∈ s.zone.table ∧ r.zone = z ∧ ∀ x ∈ s.zone.table, x.zone = z → x = r

/-- The table with the entry of a zone replaced. -/
def withEntry (table : List Reservation) (z : Nat) (r : Reservation) : List Reservation :=
  table.map fun x => if x.zone = z then r else x

/-- The mailbox has room for a frame of the zone's entry: no frame of it waits, and fewer than 4
frames wait (R85). -/
def MailRoom (s : State) (z : Nat) : Prop :=
  s.zone.mailbox.length < 4 ∧ ∀ m ∈ s.zone.mailbox, m.owner ≠ some z

/-- Only the zone unit, its fault F10 and the reports differ; F10 may be raised, and then act on
motion, only where an entry is failed and F10 was not active, which no run reaches (R91). -/
def ZoneOnly (s t : State) : Prop :=
  t =
      { s with
        host := t.host, zone := t.zone, fault := t.fault, motion := t.motion, seat := t.seat
        voice := t.voice } ∧
    OnlyReports s t ∧
    (s.faultActive .f10 = true ∨ (∀ r ∈ s.zone.table, r.failed = false) →
      t.motion = s.motion ∧ t.seat = s.seat ∧ t.voice = s.voice ∧
        ∀ c, c ≠ .f10 → c ≠ .f15 → t.faultRec c = s.faultRec c)

/-- What the answer to a REVOKE does to the long queue, its drop count and the cue unit (R86): it joins the
queue; with 16 frames there it takes the place of the last SCENE CUE, which is NOT SENT (R130), or is
dropped and counted where there is none. -/
def AnswerPut (s t : State) (a : LongFrame) : Prop :=
  (s.zone.long.length < 16 →
      t.zone.long = s.zone.long ++ [a] ∧ t.zone.counts.longDrops = s.zone.counts.longDrops ∧
        t.cue = s.cue) ∧
    (16 ≤ s.zone.long.length → (∀ f, LongFrame.scene f ∉ s.zone.long) →
      t.zone.long = s.zone.long ∧
        t.zone.counts.longDrops = min 255 (s.zone.counts.longDrops + 1) ∧ t.cue = s.cue) ∧
    ∀ before f after, 16 ≤ s.zone.long.length → s.zone.long = before ++ .scene f :: after →
      (∀ g, LongFrame.scene g ∉ after) →
      t.zone.long = before ++ a :: after ∧
        t.zone.counts.longDrops = s.zone.counts.longDrops ∧
        t.cue =
          { s.cue with
            acks := s.cue.acks.filter fun e => !(e.cueId = f.cueId && e.tag = f.tag)
            cues :=
              s.cue.cues.map fun c =>
                if c.id = f.cueId then { c with last := some (.notSent, s.cue.lap) } else c }

/-- A REVOKE is answered, and beside the answer nothing changes but that the frame is heard. -/
def OnlyAnswers (s t : State) (a : LongFrame) : Prop :=
  t =
      { s with
        host := t.host, cue := t.cue
        zone :=
          { heard s with
            long := t.zone.long
            counts := { s.zone.counts with longDrops := t.zone.counts.longDrops } } } ∧
    OnlyReports s t ∧ AnswerPut s t a

/-- At rest in HOLD in the load zone with the position known, where CHECK and RELEASE are taken
(R108, R115). -/
def AtStation (s : State) : Prop :=
  s.config.record.state = .ready ∧ s.mstate = .hold ∧
    (s.guide.est.posState = .located ∨ s.guide.est.posState = .doubt) ∧ s.inLoadZone = true ∧
    s.motion.standstill = true

/-- A timer one millisecond later; a due timer stays at 0 until its expiry is taken (log 2). -/
def later : Timer → Timer
  | .running n => .running (n - 1)
  | .stopped => .stopped
  | .expired => .expired

/-- The position state is LOCATED or DOUBT. -/
def Known (s : State) : Prop := s.guide.est.posState = .located ∨ s.guide.est.posState = .doubt

/-- The odometric movement of the guide sample that comes next, in mm (R10). -/
def moved (s : State) : Int :=
  ((s.guide.est.front : Int) * 1024 + s.guide.est.frac + s.guide.odo * s.lim.odoK) / 1024 -
    s.guide.est.front

/-- The distance since the last accepted marker after that movement (R19). -/
def sinceNext (s : State) : Nat := min 16777215 (s.guide.est.since + (moved s).natAbs)

/-- A guide sample that changes no motion state as the guidance unit takes it: it is strong, it comes
with no movement backward and no marker, and the gap limit is kept (R12, R14, R18, R19). -/
def Calm (s : State) (g : GuideSample) : Prop :=
  g.marker = none ∧ s.lim.strengthThreshold ≤ g.strength.toNat ∧ 0 ≤ moved s ∧
    (Known s → sinceNext s ≤ s.lim.gapLimit)

/-- The zone unit acts before the motion unit on a position update; else it acts after it. The order
is the sender's (log 5). -/
def ZoneFirst (order : UnitOrder) : Prop :=
  order = .zoneMotionCue ∨ order = .zoneCueMotion ∨ order = .cueZoneMotion

/-- The acknowledgement entry of a cue and a tag, the only one for them (R129). -/
def AckOf (s : State) (id : Nat) (tag : Byte) (e : AckEntry) : Prop :=
  e ∈ s.cue.acks ∧ e.cueId = id ∧ e.tag = tag ∧
    ∀ x ∈ s.cue.acks, x.cueId = id → x.tag = tag → x = e

end Sys2Proof.Claims

open Sys2Proof Sys2Proof.Machine Sys2Proof.Claims

/-! ### The machine as a whole -/

/-- A step carries out the command at the front of the queue with the queue's rest. -/
def Obligations.StepRunsFrontCommand : Prop :=
  ∀ (c : Instr) (rest : List Instr) (s : State),
    step { s with pending := c :: rest } = exec c { s with pending := rest }

/-- On an empty queue a step is one millisecond: it never stops, each timer that runs has one less to
run, the time since the last valid wayside frame goes on, and nothing else changes; the zone unit's
timers stand still while the link is stopped (the model's choice, log 2). When the host silence timer
runs out with the host not silent yet, F18 is raised, class HOLD, with no effect on motion (R185, R187,
R213). With the host silent already the timer only expires: that the host's silence lasts through a
RESTART, which clears the fault table, is the model's reading (log 46). -/
def Obligations.IdleTimePassesAndSilenceRaisesF18 : Prop :=
  (∀ s : State, s.pending = [] →
    ∃ t, step s = .next t ∧
      t =
        { s with
          guide := { s.guide with timer := later s.guide.timer }
          zone :=
            { s.zone with
              linkTimer := t.zone.linkTimer, beaconTimer := t.zone.beaconTimer
              sinceFrame := s.zone.sinceFrame.map (· + 1), table := t.zone.table }
          seat :=
            { s.seat with
              roundTimer := later s.seat.roundTimer, window := later s.seat.window }
          cue := { s.cue with outputs := t.cue.outputs, acks := t.cue.acks }
          clip := { s.clip with stage := { s.clip.stage with idle := later s.clip.stage.idle } }
          host := { s.host with silence := later s.host.silence } } ∧
      (s.zone.link = .stopped →
        t.zone.linkTimer = s.zone.linkTimer ∧ t.zone.beaconTimer = s.zone.beaconTimer ∧
          t.zone.table = s.zone.table) ∧
      (s.zone.link ≠ .stopped →
        t.zone.linkTimer = later s.zone.linkTimer ∧
          t.zone.beaconTimer = later s.zone.beaconTimer ∧
          t.zone.table =
            s.zone.table.map fun r =>
              { r with
                timer :=
                  match r.timer with
                  | .stopped => .stopped
                  | .claim n => .claim (n - 1)
                  | .release n => .release (n - 1)
                  | .backoff n => .backoff (n - 1) }) ∧
      (∀ o : Fin 8,
        t.cue.outputs[o] =
          match s.cue.outputs[o] with
          | .off => .off
          | .on => .on
          | .pulsing n => .pulsing (n - 1)) ∧
      t.cue.acks =
        s.cue.acks.map fun e =>
          { e with
            stage :=
              match e.stage with
              | .queued => .queued
              | .waiting n => .waiting (n - 1) }) ∧
    ∀ (s : State) (n : Nat), s.host.silence = .running n →
      (s.host.silent = false → s.faultActive .f18 = false →
          ∃ t, exec .hostSilenceTimeout s = .next t ∧
            t = { s with host := t.host, fault := t.fault } ∧
            t.host =
              { s.host with
                silence := .expired, silent := true, reports := t.host.reports
                dropped := t.host.dropped } ∧
            t.faultRec .f18 =
              { active := true, latched := true, cls := .hold,
                count := min 255 ((s.faultRec .f18).count + 1), detail := .none } ∧
            (∀ c, c ≠ .f18 → t.faultRec c = s.faultRec c) ∧
            Posted s t
              (.faultRaised .f18 .hold (min 255 ((s.faultRec .f18).count + 1)) .none)) ∧
        (s.host.silent = true →
          exec .hostSilenceTimeout s =
            .next { s with host := { s.host with silence := .expired } })

/-- While a STOP-class fault is latched, motion is not HOLD, RUN or CREEP; every step keeps it
(R58). -/
def Obligations.LatchedStopKeepsVehicleStopped : Prop := KeptByStep State.StopRespected

/-- Motion is PARKED while configuration is not READY; every step keeps it (R195). -/
def Obligations.MotionParkedUnlessReady : Prop := KeptByStep State.ParkedUnlessReady

/-- Sample memory keeps its canonical form in every step: addresses strictly rising, and no entry
equal to what an unlisted address reads as (the model's form, log 4). -/
def Obligations.SampleMemoryStaysCanonical : Prop := KeptByStep State.MemoryCanonical

/-- The receive queue never holds more than 4 frames, and the report queue never more than 48
reports, nor two state reports of one kind and source (R205, R209). The write stage holds at most 8
blocks, and the acknowledgement table at most 8 entries (R129, R148). -/
def Obligations.HostQueuesStageAndAcksStayBounded : Prop :=
  (KeptByStep fun s => s.ReportsBounded ∧ s.RxBounded) ∧
    (KeptByStep fun s => s.StageBounded ∧ s.AcksBounded)

/-- The reservation table holds at most 4 entries, never two for one zone, and the wayside queues at
most 4 and 16 frames; no two seat records, and no two seats of the map in force, have one address
(R70, R85, R86, R96). -/
def Obligations.ZoneAndSeatTablesStayBounded : Prop :=
  KeptByStep fun s => s.TableBounded ∧ s.QueuesBounded ∧ s.SeatsDistinct

/-- The steering demand stays within the committed steering range in every step (R28, R23). -/
def Obligations.SteeringDemandStaysInRange : Prop := KeptByStep State.SteerBounded

/-- Every one of these invariants holds right after reset. -/
def Obligations.ResetMeetsInvariants : Prop :=
  State.StopRespected State.reset ∧ State.ParkedUnlessReady State.reset ∧
    State.MemoryCanonical State.reset ∧ State.ReportsBounded State.reset ∧
    State.RxBounded State.reset ∧ State.TableBounded State.reset ∧ State.QueuesBounded State.reset ∧
    State.SeatsDistinct State.reset ∧
    State.StageBounded State.reset ∧ State.AcksBounded State.reset ∧ State.SteerBounded State.reset

/-! ### Requests (R206) -/

/-- A request row whose frame is not the one to take, because a request is in hand, the receive
queue is empty or its head is of another kind, changes nothing (log 1). -/
def Obligations.RequestNotAtHeadChangesNothing : Prop :=
  ∀ (c : Instr) (k : Byte) (s : State), kindOf c = some k →
    (s.host.held ≠ none ∨ s.host.rxQueue = [] ∨
      ∃ f rest, s.host.rxQueue = f :: rest ∧ f.kind ≠ k) →
    exec c s = .next s

/-- A request whose body does not fit its kind is answered class 3, MALFORMED, and nothing else
changes. That a request row carries what its body says is log 3's. -/
def Obligations.MisfitBodyAnsweredMalformed : Prop :=
  ∀ (c : Instr) (k : Byte) (s : State) (f : RxFrame) (rest : List RxFrame),
    kindOf c = some k → misfit c → Taken k s f rest →
    exec c s =
      .next { s with host := replied s.host rest (reply f .invalid .malformed .empty) }

/-- Every request but the four that may wait for memory work is answered at once, with exactly one
reply, which carries its tag and its kind with 0x80 added; no other frame is touched. -/
def Obligations.EveryRequestGetsOneReply : Prop :=
  ∀ (c : Instr) (k : Byte) (s : State) (f : RxFrame) (rest : List RxFrame),
    kindOf c = some k → ¬ mayWait c → Taken k s f rest →
    ∃ t cls detail body, exec c s = .next t ∧
      t.host =
        { replied s.host rest (reply f cls detail body) with
          reports := t.host.reports, dropped := t.host.dropped, silence := t.host.silence
          silent := t.host.silent }

/-! ### The host link unit -/

/-- POWER_ON leaves every block at its power-on values; an asserted ESTOP input raises F01, whose
report follows the RESTARTED report (R65, R202). The values the rules leave open are log 11's, and that
sample memory is blank then, which R142 leaves undefined, is log 4's choice. -/
def Obligations.PowerOnRestoresResetValues : Prop :=
  ∀ (fast : Bool) (s : State),
    exec (.powerOn fast false) s =
        .next { State.reset with pending := s.pending, host := { State.reset.host with fast := fast } } ∧
      ∃ t, exec (.powerOn fast true) s = .next t ∧
        t =
          { State.reset with
            pending := s.pending
            fault := t.fault
            motion :=
              { State.reset.motion with record := { State.reset.motion.record with estopIn := true } }
            host := { State.reset.host with fast := fast, reports := t.host.reports } } ∧
        t.faultRec .f01 =
          { active := true, latched := true, cls := .stop, count := 1, detail := .none } ∧
        (∀ c, c ≠ .f01 → t.faultRec c = State.reset.faultRec c) ∧
        t.host.reports =
          [.event (.restarted .powerOn .empty 0 0), .event (.faultRaised .f01 .stop 1 .none),
            .state .faultSummary 0]

/-- A valid frame that arrives while the framer hunts, after any bytes that are no sync byte, joins
the receive queue when fewer than 4 frames wait; it starts the silence timer again and ends F18
(R204, R205, R213). A valid frame that finds 4 frames waiting is discarded and counted, and an
OVERRUN reply is made for it, unless 4 OVERRUN replies wait already (R205, R207). -/
def Obligations.ValidFrameJoinsQueueOrOverruns : Prop :=
  (∀ (skipped : List Byte) (tag kind : Byte) (body : List Byte) (s : State),
    (∀ b ∈ skipped, b ≠ 0xC3) → body.length ≤ 1100 → s.host.framer = [] →
    s.host.rxQueue.length < 4 →
    ∃ t, exec (.hostFrameReceived (skipped ++ frameOnLine tag kind body)) s = .next t ∧
      t = { s with host := t.host, fault := t.fault } ∧
      t.host =
        { s.host with
          framer := []
          rxQueue := s.host.rxQueue ++ [{ tag := tag, kind := kind, body := body }]
          silence :=
            if s.lim.hostSilence = 0 then s.host.silence else .running (1000 * s.lim.hostSilence)
          silent := false
          reports := t.host.reports, dropped := t.host.dropped } ∧
      t.faultActive .f18 = false ∧
      (∀ c, c ≠ .f18 → t.faultRec c = s.faultRec c)) ∧
    (∀ (tag kind : Byte) (body : List Byte) (s : State),
    body.length ≤ 1100 → s.host.framer = [] → s.host.rxQueue.length = 4 →
    ∃ t, exec (.hostFrameReceived (frameOnLine tag kind body)) s = .next t ∧
      t = { s with host := t.host, fault := t.fault } ∧ t.host.rxQueue = s.host.rxQueue ∧
      t.host.counts.overrun = min 65535 (s.host.counts.overrun + 1) ∧
      ((s.host.waiting.filter fun r => r.detail = .overrun).length < 4 →
        t.host.counts.unanswered = s.host.counts.unanswered ∧
          t.host.sending =
            (replied s.host s.host.rxQueue
              (reply ⟨tag, kind, body⟩ .refused .overrun .empty)).sending ∧
          t.host.waiting =
            (replied s.host s.host.rxQueue
              (reply ⟨tag, kind, body⟩ .refused .overrun .empty)).waiting) ∧
      (4 ≤ (s.host.waiting.filter fun r => r.detail = .overrun).length →
        t.host.counts.unanswered = min 255 (s.host.counts.unanswered + 1) ∧
          t.host.sending = s.host.sending ∧ t.host.waiting = s.host.waiting))

/-- A break abandons the frame being read and empties the receive queue, after which the framer
hunts; the break count, which STATUS shows, goes up by 1 and stops at 255. Nothing else changes: not
the request in hand, the replies that wait, the reports, the silence timer or any other block
(R214). -/
def Obligations.BreakDropsWaitingFrames : Prop :=
  ∀ s : State,
    exec .lineBreak s =
        .next
          { s with
            host :=
              { s.host with
                framer := [], rxQueue := []
                counts := { s.host.counts with breaks := min 255 (s.host.counts.breaks + 1) } } } ∧
      ∀ (f : RxFrame) (rest : List RxFrame), Taken 0x60 s f rest →
        ∃ b : StatusBody,
          exec (.status (.fit ())) s =
              .next { s with host := replied s.host rest (reply f .done .done (.status b)) } ∧
            b.host.breaks = s.host.counts.breaks

/-- When a reply has been sent, the frame handed over next is sent (R207). A frame whose kind no
request of the list has is answered class 3, UNKNOWN KIND (R206). -/
def Obligations.ReplySentAndUnknownKind : Prop :=
  (∀ s : State,
    (s.host.waiting = [] → exec .replySent s = .next { s with host := { s.host with sending := none } }) ∧
      ∀ r rest, s.host.waiting = r :: rest →
        exec .replySent s = .next { s with host := { s.host with sending := some r, waiting := rest } }) ∧
    (∀ (s : State) (f : RxFrame) (rest : List RxFrame),
    s.host.held = none → s.host.rxQueue = f :: rest → (∀ c, kindOf c ≠ some f.kind) →
    exec .unknownKind s =
      .next { s with host := replied s.host rest (reply f .invalid .unknownKind .empty) })

/-- STATUS, ZONE STATUS, SEAT STATUS, CUE STATUS, CLIP STATUS, for ALL or for a clip, and FAULTS are
answered class 0 and change nothing (R94, R117, R140, R161, R192, R208); a clip number above 511 is
refused with RANGE (R161). -/
def Obligations.StatusRequestsChangeNothing : Prop :=
  ∀ (s : State) (f : RxFrame) (rest : List RxFrame),
    (Taken 0x60 s f rest →
        ∃ b : StatusBody,
          exec (.status (.fit ())) s =
              .next { s with host := replied s.host rest (reply f .done .done (.status b)) } ∧
            b.config = s.config.record ∧ b.est = s.guide.est ∧ b.motion = s.motion.record ∧
            b.speed = s.motion.speed ∧ b.permit = s.seat.permit ∧ b.flags = s.cue.flags ∧
            b.outputs = s.cue.outputs ∧ b.host = s.host.counts ∧
            b.reports = s.host.reports.length ∧ b.silence = s.lim.hostSilence) ∧
      (Taken 0x21 s f rest →
        ∃ b : ZoneStatusBody,
          exec (.zoneStatus (.fit ())) s =
              .next { s with host := replied s.host rest (reply f .done .done (.zoneStatus b)) } ∧
            b.table = s.zone.table ∧ b.mailbox = s.zone.mailbox ∧ b.hold = s.zone.hold ∧
            b.zmap = s.zone.zmap ∧ b.counts = s.zone.counts) ∧
      (Taken 0x2A s f rest →
        ∃ b : SeatStatusBody,
          exec (.seatStatus (.fit ())) s =
              .next { s with host := replied s.host rest (reply f .done .done (.seatStatus b)) } ∧
            b.map = s.config.committedMap ∧ b.records = s.seat.records ∧ b.permit = s.seat.permit ∧
            b.check = s.seat.check ∧ b.window = s.seat.window ∧ b.counts = s.seat.counts) ∧
      (Taken 0x32 s f rest →
        ∃ b : CueStatusBody,
          exec (.cueStatus (.fit ())) s =
              .next { s with host := replied s.host rest (reply f .done .done (.cueStatus b)) } ∧
            b.count = s.cue.cues.length ∧ b.pointer = s.cue.pointer ∧ b.flags = s.cue.flags ∧
            b.outputs = s.cue.outputs ∧ b.acks = s.cue.acks) ∧
      (Taken 0x45 s f rest →
        ∃ b : ClipStoreBody,
          exec (.clipStatus (.fit none)) s =
              .next { s with host := replied s.host rest (reply f .done .done (.clipStore b)) } ∧
            b.queue = s.clip.verify.queue ∧ b.arb = s.clip.arb ∧ b.busy = s.clip.busy ∧
            b.buffer = s.clip.buffer) ∧
      (Taken 0x45 s f rest → ∀ n : Fin 512,
        ∃ b : ClipStatusBody,
          exec (.clipStatus (.fit (some n.val))) s =
              .next { s with host := replied s.host rest (reply f .done .done (.clipStatus b)) } ∧
            b.clip = n.val ∧ b.entry = s.clip.dir[n] ∧
            (∀ c, s.clip.dir[n] = some c → b.blocks = (c.length + 255) / 256) ∧
            (∀ before after, s.clip.verify.queue = before ++ n.val :: after → n.val ∉ before →
              b.place = some (before.length + 1)) ∧
            (n.val ∉ s.clip.verify.queue → b.place = none) ∧
            b.next =
              if s.clip.verify.queue.head? = some n.val then some s.clip.verify.next else none) ∧
      (Taken 0x45 s f rest → ∀ n : Nat, 511 < n →
        exec (.clipStatus (.fit (some n))) s =
          .next { s with host := replied s.host rest (reply f .invalid .range .empty) }) ∧
      (Taken 0x61 s f rest →
        ∃ rs,
          exec (.faults (.fit ())) s =
              .next { s with host := replied s.host rest (reply f .done .done (.faults rs s.summary)) } ∧
            rs =
              ([.f01, .f07, .f08, .f06, .f03, .f02, .f04, .f05, .f09, .f11, .f12, .f10, .f13, .f14,
                  .f18, .f15, .f19, .f20, .f16, .f17, .f21] : List FaultCode).map
                fun c => (c, s.faultRec c))

/-- FETCH REPORTS returns up to 16 reports from the head, event reports as they were posted, and
puts an OVERFLOW report with the dropped count at the tail where there is room (R211). -/
def Obligations.FetchReportsTakesTheHead : Prop :=
  ∀ (s : State) (f : RxFrame) (rest : List RxFrame), Taken 0x63 s f rest →
    ∃ t rs, exec (.fetchReports (.fit ())) s = .next t ∧ t = { s with host := t.host } ∧
      Answered s t f rest .done .done (.reports rs.length t.host.reports.length rs) ∧
      rs.length = min 16 s.host.reports.length ∧
      (∀ (i : Nat) (e : EventReport), i < 16 → s.host.reports[i]? = some (.event e) →
        rs[i]? = some (.event e)) ∧
      (if 0 < s.host.dropped ∧ (s.host.reports.drop 16).length < 48 then
        t.host.reports = s.host.reports.drop 16 ++ [.event (.overflow s.host.dropped)] ∧
          t.host.dropped = 0
      else t.host.reports = s.host.reports.drop 16 ∧ t.host.dropped = s.host.dropped)

/-- CLEAR FAULTS clears the latch of every record whose active is clear and no other, keeps counts,
classes and details, and names the codes in order of priority (R189). -/
def Obligations.ClearFaultsKeepsActiveLatches : Prop :=
  ∀ (s : State) (f : RxFrame) (rest : List RxFrame), Taken 0x62 s f rest →
    ∃ t gone still, exec (.clearFaults (.fit ())) s = .next t ∧
      t = { s with host := t.host, fault := t.fault } ∧
      (∀ c, t.faultRec c =
        { s.faultRec c with latched := (s.faultRec c).latched && (s.faultRec c).active }) ∧
      gone =
        ([.f01, .f07, .f08, .f06, .f03, .f02, .f04, .f05, .f09, .f11, .f12, .f10, .f13, .f14, .f18,
            .f15, .f19, .f20, .f16, .f17, .f21] : List FaultCode).filter
          (fun c => (s.faultRec c).latched && !(s.faultRec c).active) ∧
      still =
        ([.f01, .f07, .f08, .f06, .f03, .f02, .f04, .f05, .f09, .f11, .f12, .f10, .f13, .f14, .f18,
            .f15, .f19, .f20, .f16, .f17, .f21] : List FaultCode).filter
          (fun c => (s.faultRec c).latched && (s.faultRec c).active) ∧
      Answered s t f rest (if still = [] then .done else .qualified)
        (if still = [] then .done else .fault) (.cleared gone still t.summary) ∧
      ∀ c cause, Report.event (.faultCleared c cause) ∈ t.host.reports →
        Report.event (.faultCleared c cause) ∈ s.host.reports

/-! ### Configuration -/

/-- BEGIN CONFIG in PARKED opens a session from the values in force, and stops the blocks that
follow the path; the estimate, the reservation table, the seat records and the cue pointer stand,
and the voices play on (R81, R113, R195, R196). That the permit's last cause becomes BEGIN CONFIG also
where the permit was not held is log 12's. -/
def Obligations.BeginConfigOpensSession : Prop :=
  ∀ (s : State) (f : RxFrame) (rest : List RxFrame), Taken 0x01 s f rest →
    s.config.record.state ≠ .configuring → s.mstate = .parked →
    ∃ t, exec (.beginConfig (.fit ())) s = .next t ∧ Answered s t f rest .done .done .empty ∧
      t.pending = s.pending ∧
      t.config =
        { s.config with
          record := { s.config.record with state := .configuring }
          loaded := s.config.committed, loadedMap := s.config.committedMap } ∧
      t.guide = { s.guide with timer := .stopped } ∧ t.faultActive .f03 = false ∧
      t.motion = s.motion ∧ t.clip = s.clip ∧ t.voice = s.voice ∧
      t.zone =
        { s.zone with
          link := .stopped, linkTimer := .stopped, beaconTimer := .stopped, mailbox := [], long := []
          hold := none } ∧
      t.seat =
        { s.seat with
          permit := false, permitCause := .beginConfig
          loop := if s.seat.loop = .started then .closing else s.seat.loop
          roundTimer := if s.seat.loop = .started then .stopped else s.seat.roundTimer } ∧
      t.cue =
        { s.cue with cues := t.cue.cues, outputs := Vector.replicate 8 .off, acks := [] } ∧
      (s.zone.long = [] → t.cue.cues = s.cue.cues)

/-- PATH LOAD and MARKER LOAD put an accepted run in their table and change nothing else (R2, R5).
SEAT MAP and LIMITS change the loaded sets only; nothing in force changes (R95, R197, R198). Empty
runs truncate their table. That the reply to a MARKER LOAD carries the new marker count alone is the
model's choice (log 50). -/
def Obligations.LoadsReplaceRunsAndLoadedSets : Prop :=
  ((∀ (s : State) (f : RxFrame) (rest : List RxFrame) (start : Nat) (run : List Segment),
      Taken 0x02 s f rest → s.config.record.state = .configuring → run.length ≤ 64 →
      start ≤ s.guide.path.length → start + run.length ≤ 512 →
      (∀ g ∈ run, 100 ≤ g.len ∧ g.len ≤ 65535 ∧ -4500 ≤ g.biasIn ∧ g.biasIn ≤ 4500 ∧
        -4500 ≤ g.biasOut ∧ g.biasOut ≤ 4500 ∧ g.limit ≤ 2000 ∧ g.zone ≤ 127) →
      exec (.pathLoad (.fit { start := start, run := run })) s =
        .next
          { s with
            guide := { s.guide with path := loaded s.guide.path start run }
            host :=
              replied s.host rest
                (reply f .done .done
                  (.path (loaded s.guide.path start run).length
                    ((loaded s.guide.path start run).map (·.len)).sum)) }) ∧
    ∀ (s : State) (f : RxFrame) (rest : List RxFrame) (start : Nat) (run : List Marker),
      Taken 0x03 s f rest → s.config.record.state = .configuring → run.length ≤ 64 →
      start ≤ s.guide.markers.length → start + run.length ≤ 256 → (∀ m ∈ run, m.pos ≤ 16777214) →
      exec (.markerLoad (.fit { start := start, run := run })) s =
        .next
          { s with
            guide := { s.guide with markers := loaded s.guide.markers start run }
            host :=
              replied s.host rest
                (reply f .done .done (.number (loaded s.guide.markers start run).length)) }) ∧
    ((∀ (s : State) (f : RxFrame) (rest : List RxFrame) (m : SeatMap),
      Taken 0x05 s f rest → s.config.record.state = .configuring → m.entries.length ≤ 16 →
      (∀ e ∈ m.entries, e.addr ≤ 255) → (∀ c, m.clip = some c → c ≤ 511) →
      exec (.seatMap (.fit m)) s =
        .next
          { s with
            config := { s.config with loadedMap := m }
            host := replied s.host rest (reply f .done .done .empty) }) ∧
    ∀ (s : State) (f : RxFrame) (rest : List RxFrame) (l : List (Nat × Nat)),
      Taken 0x06 s f rest → s.config.record.state = .configuring → l ≠ [] → l.length ≤ 27 →
      (l.map (·.1)).Nodup →
      (∀ p ∈ l, ∃ i : Fin 27, p.1 = i + 1 ∧ Limits.lows[i] ≤ p.2 ∧ p.2 ≤ Limits.highs[i]) →
      ∃ new : Limits,
        exec (.limits (.fit l)) s =
            .next
              { s with
                config := { s.config with loaded := new }
                host := replied s.host rest (reply f .done .done (.number l.length)) } ∧
          (∀ p ∈ l, ∀ i : Fin 27, p.1 = i + 1 → new[i] = p.2) ∧
          ∀ i : Fin 27, (∀ p ∈ l, p.1 ≠ i + 1) → new[i] = s.config.loaded[i])

/-- CUE LOAD stores an accepted run: each cue with the fields of its record, a lead of at most 5,000 ms,
no last outcome, and stop-safe where the record says so or R120 forces it; the reply names the first
clamped index (R120, R121). Outside CONFIGURING each of the five loads whose body fits is refused with
CONFIG, and nothing changes (R197, R206). That a record's yes or no fields have no third value is the
model's choice (log 54). -/
def Obligations.CueLoadStoresRunAndLoadsNeedConfiguring : Prop :=
  (∀ (s : State) (f : RxFrame) (rest : List RxFrame) (start : Nat) (run : List CueIn),
    Taken 0x04 s f rest → s.config.record.state = .configuring → run.length ≤ 64 →
    start ≤ s.cue.cues.length → start + run.length ≤ 256 → (∀ c ∈ run, (acceptCue c).isSome) →
    ∃ stored : List Cue, exec (.cueLoad (.fit { start := start, run := run })) s =
        .next
          { s with
            cue := { s.cue with cues := loaded s.cue.cues start stored }
            host :=
              replied s.host rest
                (match run.findIdx? fun c => 5000 < c.lead with
                  | some i =>
                    reply f .qualified .clamped
                      (.cueLoad (loaded s.cue.cues start stored).length (some (start + i)))
                  | none =>
                    reply f .done .done
                      (.cueLoad (loaded s.cue.cues start stored).length none)) } ∧
      stored.length = run.length ∧
      ∀ (i : Nat) (c : CueIn) (q : Cue), run[i]? = some c → stored[i]? = some q →
        q.id = c.id ∧ q.trigger = c.trigger ∧ q.lead = min c.lead 5000 ∧
          acceptKind c.kind = some q.kind ∧ q.cond = c.cond ∧ some q.late = c.late ∧
          q.last = none ∧
          q.stopSafe =
            (c.stopSafe ||
              match q.kind with
              | .voiceStop _ _ | .flag _ _ | .output _ .clear _ => true
              | _ => false)) ∧
    ∀ (s : State) (f : RxFrame) (rest : List RxFrame), s.config.record.state ≠ .configuring →
      let refused : Out :=
        .next { s with host := replied s.host rest (reply f .refused .config .empty) }
      (∀ l, Taken 0x02 s f rest → l.run.length ≤ 64 → exec (.pathLoad (.fit l)) s = refused) ∧
        (∀ l, Taken 0x03 s f rest → l.run.length ≤ 64 →
          exec (.markerLoad (.fit l)) s = refused) ∧
        (∀ l, Taken 0x04 s f rest → l.run.length ≤ 64 → exec (.cueLoad (.fit l)) s = refused) ∧
        (∀ m, Taken 0x05 s f rest → exec (.seatMap (.fit m)) s = refused) ∧
        ∀ l, Taken 0x06 s f rest → exec (.limits (.fit l)) s = refused

/-- SET MIX and SET GAINS are taken in every state; values above their range are set to its top and
answered CLAMPED (R24, R181). -/
def Obligations.LiveSettingsClampToRange : Prop :=
  (∀ (s : State) (f : RxFrame) (rest : List RxFrame) (masters : Vector Nat 4) (duck : Nat),
      Taken 0x07 s f rest →
      ∃ m : Vector Nat 4,
        exec (.setMix (.fit { masters := masters, duck := duck })) s =
            .next
              { s with
                voice := { s.voice with masters := m, duck := min 4096 duck }
                host :=
                  replied s.host rest
                    (if (∃ o : Fin 4, 256 < masters[o]) ∨ 4096 < duck then
                      reply f .qualified .clamped .empty
                    else reply f .done .done .empty) } ∧
          ∀ o : Fin 4, m[o] = min 256 masters[o]) ∧
    ∀ (s : State) (f : RxFrame) (rest : List RxFrame) (kp kd : Nat), Taken 0x08 s f rest →
      exec (.setGains (.fit { kp := kp, kd := kd })) s =
        .next
          { s with
            guide := { s.guide with gains := { kp := min 4095 kp, kd := min 4095 kd } }
            host :=
              replied s.host rest
                (if 4095 < kp ∨ 4095 < kd then reply f .qualified .clamped .empty
                else reply f .done .done .empty) }

/-- A COMMIT that passes its checks makes configuration READY with the loaded sets in force and
hands itself to every block; the tables, the clip store and the voices stand (R200). A COMMIT that
fails a check names its table and index in the record and the reply, and changes nothing else
(R199). -/
def Obligations.CommitPutsSetsInForceOrFails : Prop :=
  (∀ (s : State) (f : RxFrame) (rest : List RxFrame) (label : Code), Taken 0x09 s f rest →
    s.config.record.state = .configuring → s.commitFailure = none →
    ∃ t b, exec (.commit (.fit label)) s = .next t ∧
      t.host =
        { replied s.host rest (reply f .done .done (.commit b)) with
          reports := t.host.reports, dropped := t.host.dropped, silence := t.host.silence
          silent := t.host.silent } ∧
      b.count = s.config.record.count + 1 ∧ b.segments = s.guide.path.length ∧
      b.lapLength = (s.guide.path.map (·.len)).sum ∧ b.markers = s.guide.markers.length ∧
      b.cues = s.cue.cues.length ∧ b.seats = s.config.loadedMap.entries.length ∧
      t.config =
        { s.config with
          record :=
            { state := .ready, label := label, count := s.config.record.count + 1, last := .pass }
          committed := s.config.loaded, committedMap := s.config.loadedMap } ∧
      t.guide =
        { s.guide with
          est := Estimate.reset, reading := GuideReading.reset, odo := 0, timer := .running 30 } ∧
      t.mstate = .parked ∧ t.motion.speed.demand = 0 ∧ t.motion.armed = none ∧
      t.motion.drive.last = none ∧ t.motion.record.dispatchCount = s.motion.record.dispatchCount ∧
      t.zone.table = [] ∧ t.zone.long = [] ∧ t.zone.mailbox = [⟨none, .vehicleReset⟩] ∧
      t.zone.link = .starting ∧ t.zone.zmap = zoneMap s.guide.path ∧
      t.seat.permit = false ∧ t.seat.check = none ∧ t.seat.loop = .started ∧
      t.seat.records.length = s.config.loadedMap.entries.length ∧
      (∀ r ∈ t.seat.records, r.state = .unknown ∧ r.occupied = .unknown) ∧
      t.cue.pointer = 0 ∧ t.cue.lap = 0 ∧ t.cue.flags = s.cue.flags ∧ t.cue.acks = [] ∧
      t.cue.cues.map (fun c => { c with last := none }) =
        s.cue.cues.map (fun c => { c with last := none }) ∧
      (s.zone.long = [] → ∀ c ∈ t.cue.cues, c.last = none) ∧
      t.clip = s.clip ∧ t.voice = { s.voice with alarm := t.voice.alarm } ∧ t.pending = s.pending) ∧
    (∀ (s : State) (f : RxFrame) (rest : List RxFrame) (label : Code) (tab : TableName) (i : Nat),
    Taken 0x09 s f rest → s.config.record.state = .configuring → s.commitFailure = some (tab, i) →
    exec (.commit (.fit label)) s =
      .next
        { s with
          config := { s.config with record := { s.config.record with last := .fail tab i } }
          host :=
            replied s.host rest
              (reply f .invalid
                (match tab with
                  | .path => .path
                  | .markers => .markers
                  | .limits => .limits
                  | .seatMap => .seatMap
                  | .cues => .cues)
                (.index (some i))) })

/-- A COMMIT that passes has a lap of 1,000 mm or more that starts in the load zone and visits two
zones or more, distinct markers and cues on the lap, cues in order of trigger, limits that agree with
each other and with the steering demand held, and distinct seats (R23, R69 and R96, and of R3, R6 and
R122 this much). -/
def Obligations.CommitPassesOnlySoundTables : Prop :=
  ∀ s : State, s.commitFailure = none →
    let P := (s.guide.path.map (·.len)).sum
    1000 ≤ P ∧ P ≤ 16777215 ∧
      (∃ g, s.guide.path.head? = some g ∧ g.load = true) ∧ (∃ g ∈ s.guide.path, g.load = false) ∧
      (∃ g ∈ s.guide.path, ∃ h ∈ s.guide.path, g.zone ≠ h.zone) ∧
      (s.guide.markers.map (·.code)).Nodup ∧ (∀ m ∈ s.guide.markers, m.pos < P) ∧
      s.config.loaded.brakeStep ≤ s.config.loaded.stopStep ∧
      s.guide.steer.delta.natAbs ≤ s.config.loaded.steerRange ∧
      s.config.loaded.vehicleLength < P / 2 ∧
      (s.config.loadedMap.entries.map (·.addr)).Nodup ∧
      (∀ e ∈ s.config.loadedMap.entries, e.addr ≤ 15) ∧
      (∀ c ∈ s.cue.cues, c.trigger < P) ∧ (s.cue.cues.map (·.trigger)).Pairwise (· ≤ ·) ∧
      (s.cue.cues.map (·.id)).Nodup

/-- RESTART, where it is taken, replies first, then starts the report queue anew with RESTARTED and
puts the estimate, motion, the reservation table, the check and the release window, the cue pointer
and outputs, the write stage, the verify queue, the voices and the latches at their RESTART values;
configuration, the dispatch count, the show flags, sample memory, the master gains and the steering
demand are kept (R201). No latch is set then but F01's, with the ESTOP input asserted, nor F10's with
the link LOST while READY (R193; no run has the link LOST while not READY). That the host link unit
keeps whether the host is silent, F18's condition, is the model's reading (log 46). That a voice's play
position, copied clip fields, source and fetch cursor, which R183 does not list, take their power-on
values again is the model's choice (log 11). The refusal in RUN, CREEP and STOPPING is not stated
here. -/
def Obligations.RestartKeepsConfiguration : Prop :=
  ∀ (s : State) (f : RxFrame) (rest : List RxFrame), Taken 0x64 s f rest →
    (s.mstate = .parked ∨ s.mstate = .hold ∨ s.mstate = .stopped ∨ s.mstate = .estop) →
    ∃ t, exec (.restart (.fit ())) s = .next t ∧
      t.host =
        { replied s.host rest (reply f .done .done .empty) with
          reports := t.host.reports, dropped := t.host.dropped, silence := t.host.silence } ∧
      t.host.reports.head? =
        some
          (.event
            (.restarted .request s.config.record.state s.config.record.label s.config.record.count)) ∧
      t.config = s.config ∧ t.pending = s.pending ∧
      t.guide =
        { s.guide with
          est := Estimate.reset, reading := GuideReading.reset, odo := 0
          timer := if s.config.record.state = .ready then .running 30 else .stopped } ∧
      t.mstate = .parked ∧ t.motion.record.resumeRun = false ∧ t.motion.record.stopRec = none ∧
      t.motion.record.paused = true ∧ t.motion.speed.demand = 0 ∧
      t.motion.record.dispatchCount = s.motion.record.dispatchCount ∧
      t.zone.table = [] ∧ t.zone.long = [] ∧ t.zone.zmap = s.zone.zmap ∧
      t.seat.permit = false ∧ t.seat.check = none ∧ t.seat.window = .stopped ∧
      t.cue.pointer = 0 ∧ t.cue.flags = s.cue.flags ∧ t.cue.acks = [] ∧
      t.cue.outputs = Vector.replicate 8 .off ∧
      t.clip.mem = s.clip.mem ∧ t.clip.stage.blocks = [] ∧ t.clip.verify.queue = [] ∧
      (∀ v : Fin 8, t.voice.voices[v] = Voice.reset) ∧ t.voice.masters = s.voice.masters ∧
      (∀ c, (c = .f10 → s.config.record.state = .ready ∨ s.zone.link ≠ .lost) →
        (t.faultRec c).latched = (decide (c = .f01) && s.motion.record.estopIn))

/-! ### Motion -/

/-- ENABLE DRIVE in PARKED, READY, with the ESTOP input released and no STOP- or HOLD-class fault
latched, enters HOLD with resume target none and no stop record (R51, R57); DISABLE DRIVE in HOLD or
STOPPED enters PARKED: the speed demand and the rollback distance are 0, and a check and a release
window that run in HOLD end (R12, R52, R112, R116). That the demand is 0 at once in PARKED is log
18's. -/
def Obligations.DriveEnableAndDisable : Prop :=
  (∀ (s : State) (f : RxFrame) (rest : List RxFrame), Taken 0x10 s f rest → s.mstate = .parked →
      s.config.record.state = .ready → s.motion.record.estopIn = false →
      (∀ c, (s.faultRec c).latched = true → (s.faultRec c).cls = .note) →
      ∃ t, exec (.enableDrive (.fit ())) s = .next t ∧ Answered s t f rest .done .done .empty ∧
        t = { s with host := t.host, motion := t.motion, voice := t.voice } ∧
        t.motion =
          { s.motion with
            record :=
              { s.motion.record with
                state := .hold, resumeRun := false, stopRec := none, paused := true } } ∧
        (s.motion.record.paused = true → t.voice = s.voice)) ∧
    ∀ (s : State) (f : RxFrame) (rest : List RxFrame), Taken 0x11 s f rest →
      (s.mstate = .hold ∨ s.mstate = .stopped) →
      ∃ t, exec (.disableDrive (.fit ())) s = .next t ∧ Answered s t f rest .done .done .empty ∧
        t =
          { s with
            host := t.host, motion := t.motion, guide := t.guide, fault := t.fault, seat := t.seat
            voice := t.voice } ∧
        t.motion =
          { s.motion with
            record := { s.motion.record with state := .parked, resumeRun := false, paused := true }
            speed := { s.motion.speed with demand := 0 } } ∧
        (s.motion.record.paused = true → t.voice = s.voice) ∧
        t.guide = { s.guide with est := { s.guide.est with rollback := 0 } } ∧
        t.faultActive .f05 = false ∧ (∀ c, c ≠ .f05 → t.faultRec c = s.faultRec c) ∧
        CheckAndWindowEnd s t

/-- A dispatch that passes its tests starts RUN with resume target none, disarms the station stop
and counts itself; the permit stands, and a check and a release window end with HOLD (R53, R54). -/
def Obligations.DispatchStartsRun : Prop :=
  ∀ s : State, s.mstate = .hold → s.guide.est.posState = .located →
    (∀ c, (s.faultRec c).latched = true → (s.faultRec c).cls ≠ .hold) →
    (s.inLoadZone = true → s.seat.permit = true) →
    let runs (t : State) : Prop :=
      t =
          { s with
            host := t.host, motion := t.motion, zone := t.zone, seat := t.seat, voice := t.voice } ∧
        t.motion =
          { s.motion with
            record :=
              { s.motion.record with
                state := .run, resumeRun := false, paused := s.motion.standstill
                dispatchCount := s.motion.record.dispatchCount + 1 }
            armed := none } ∧
        CheckAndWindowEnd s t
    (∀ (f : RxFrame) (rest : List RxFrame), Taken 0x12 s f rest →
        ∃ t, exec (.dispatch (.fit ())) s = .next t ∧ runs t ∧
          Answered s t f rest .done .done .empty ∧ t.zone = s.zone) ∧
      ∀ dest : Byte, s.zone.link = .up → Addressed s dest →
        ∃ t, exec (.waysideDispatch dest) s = .next t ∧ runs t ∧ OnlyReports s t ∧ t.zone = heard s

/-- HOLD and RIDE HOLD turn RUN into HOLD with resume target RUN, and CREEP into HOLD with none
(R55, R57); RESUME and RIDE RESUME turn HOLD with resume target RUN, outside the load zone, with the
position known and no HOLD-class fault latched, back into RUN (R56). -/
def Obligations.HoldAndResumeSwitchMotion : Prop :=
  ∀ s : State,
    (s.mstate = .run ∨ s.mstate = .creep →
        let holds (t : State) : Prop :=
          t = { s with host := t.host, motion := t.motion, zone := t.zone, voice := t.voice } ∧
            t.motion =
              { s.motion with
                record :=
                  { s.motion.record with
                    state := .hold, resumeRun := decide (s.mstate = .run), paused := true } }
        (∀ (f : RxFrame) (rest : List RxFrame), Taken 0x13 s f rest →
            ∃ t, exec (.hold (.fit ())) s = .next t ∧ holds t ∧
              Answered s t f rest .done .done .empty ∧ t.zone = s.zone) ∧
          ∀ dest : Byte, s.zone.link = .up → Addressed s dest →
            ∃ t, exec (.rideHold dest) s = .next t ∧ holds t ∧ OnlyReports s t ∧ t.zone = heard s) ∧
      (s.mstate = .hold → s.motion.record.resumeRun = true → s.inLoadZone = false →
        (s.guide.est.posState = .located ∨ s.guide.est.posState = .doubt) →
        (∀ c, (s.faultRec c).latched = true → (s.faultRec c).cls ≠ .hold) →
        let runs (t : State) : Prop :=
          t =
              { s with
                host := t.host, motion := t.motion, zone := t.zone, seat := t.seat
                voice := t.voice } ∧
            t.motion =
              { s.motion with
                record :=
                  { s.motion.record with
                    state := .run, resumeRun := false, paused := s.motion.standstill } } ∧
            CheckAndWindowEnd s t
        (∀ (f : RxFrame) (rest : List RxFrame), Taken 0x14 s f rest →
            ∃ t, exec (.resume (.fit ())) s = .next t ∧ runs t ∧
              Answered s t f rest .done .done .empty ∧ t.zone = s.zone) ∧
          ∀ dest : Byte, s.zone.link = .up → Addressed s dest →
            ∃ t, exec (.rideResume dest) s = .next t ∧ runs t ∧ OnlyReports s t ∧ t.zone = heard s)

/-- STOP in HOLD, RUN or CREEP enters STOPPING and makes the stop record; in STOPPING, STOPPED and
ESTOP it is answered ALREADY and counted as a further cause; in PARKED it is refused with STATE
(R58, R59). CLEAR STOP in STOPPED with no STOP-class fault latched enters HOLD, keeps the resume
target and clears the stop record (R61); CREEP in HOLD at standstill with the position unknown
enters CREEP with creep distance 0 (R62). -/
def Obligations.StopClearStopAndCreep : Prop :=
  (∀ (s : State) (f : RxFrame) (rest : List RxFrame), Taken 0x15 s f rest →
    (s.mstate = .hold ∨ s.mstate = .run ∨ s.mstate = .creep →
        ∃ t, exec (.stop (.fit ())) s = .next t ∧ Answered s t f rest .done .done .empty ∧
          t = { s with host := t.host, motion := t.motion, seat := t.seat, voice := t.voice } ∧
          t.motion =
            { s.motion with
              record :=
                { s.motion.record with
                  state := .stopping, paused := true
                  resumeRun :=
                    s.mstate = .run || (s.mstate = .hold && s.motion.record.resumeRun)
                  stopRec :=
                    some
                      { first := .request, left := s.mstate, front := s.guide.est.front
                        lap := s.guide.est.lap, speed := s.motion.speed.demand, further := 0 } } } ∧
          CheckAndWindowEnd s t) ∧
      (s.mstate = .stopping ∨ s.mstate = .stopped ∨ s.mstate = .estop →
        exec (.stop (.fit ())) s =
          .next
            { s with
              host := replied s.host rest (reply f .qualified .already .empty)
              motion :=
                { s.motion with
                  record :=
                    { s.motion.record with
                      stopRec :=
                        s.motion.record.stopRec.map fun r =>
                          { r with further := min 255 (r.further + 1) } } } }) ∧
      (s.mstate = .parked →
        exec (.stop (.fit ())) s =
          .next { s with host := replied s.host rest (reply f .refused .state .empty) })) ∧
    ((∀ (s : State) (f : RxFrame) (rest : List RxFrame), Taken 0x16 s f rest → s.mstate = .stopped →
      (∀ c, (s.faultRec c).latched = true → (s.faultRec c).cls ≠ .stop) →
      ∃ t, exec (.clearStop (.fit ())) s = .next t ∧ Answered s t f rest .done .done .empty ∧
        t = { s with host := t.host, motion := t.motion, voice := t.voice } ∧
        t.motion =
          { s.motion with
            record := { s.motion.record with state := .hold, stopRec := none, paused := true } } ∧
        (s.motion.record.paused = true → t.voice = s.voice)) ∧
    ∀ (s : State) (f : RxFrame) (rest : List RxFrame), Taken 0x17 s f rest → s.mstate = .hold →
      (s.guide.est.posState = .unlocated ∨ s.guide.est.posState = .lost) →
      s.motion.standstill = true →
      ∃ t, exec (.creep (.fit ())) s = .next t ∧ Answered s t f rest .done .done .empty ∧
        t = { s with host := t.host, motion := t.motion, seat := t.seat, voice := t.voice } ∧
        t.motion =
          { s.motion with
            record := { s.motion.record with state := .creep, creepDist := 0, paused := true } } ∧
        (s.motion.record.paused = true → t.voice = s.voice) ∧ CheckAndWindowEnd s t)

/-- The ESTOP input raises F01 when it is asserted: a vehicle in HOLD, RUN or CREEP is in ESTOP at
once, with speed demand 0 and every effect output OFF, and one in PARKED stays there. When it is
released F01's condition ends, its latch stays, and ESTOP becomes STOPPED (R58, R64, R65). -/
def Obligations.EstopInputStopsAtOnce : Prop :=
  ∀ s : State,
    (s.motion.record.estopIn = false →
        ∃ t, exec .estopAsserted s = .next t ∧ t.motion.record.estopIn = true ∧
          (t.faultRec .f01).active = true ∧ (t.faultRec .f01).latched = true ∧
          (t.faultRec .f01).cls = .stop ∧
          (t.faultRec .f01).count = min 255 ((s.faultRec .f01).count + 1) ∧
          (∀ c, c ≠ .f01 → c ≠ .f05 → t.faultRec c = s.faultRec c) ∧ OnlyReports s t ∧
          t =
            { s with
              host := t.host, fault := t.fault, motion := t.motion, guide := t.guide, seat := t.seat
              cue := t.cue, voice := t.voice } ∧
          (s.mstate = .parked →
            t.motion =
                { s.motion with record := { s.motion.record with estopIn := true } } ∧
              t.guide = s.guide ∧ t.cue = s.cue ∧ t.seat = s.seat ∧ t.voice = s.voice) ∧
          (s.mstate ≠ .parked → t.mstate = .estop) ∧
          (s.mstate ≠ .parked → s.mstate ≠ .estop →
            t.motion.speed.demand = 0 ∧ t.motion.drive = s.motion.drive ∧
              t.guide = { s.guide with est := { s.guide.est with rollback := 0 } } ∧
              t.cue = { s.cue with outputs := Vector.replicate 8 .off } ∧ CheckAndWindowEnd s t) ∧
          (s.mstate = .hold ∨ s.mstate = .run ∨ s.mstate = .creep →
            t.motion.record.stopRec =
              some
                { first := .fault .f01, left := s.mstate, front := s.guide.est.front
                  lap := s.guide.est.lap, speed := s.motion.speed.demand, further := 0 })) ∧
      (s.motion.record.estopIn = true →
        exec .estopAsserted s = .next s ∧
          ∃ t, exec .estopReleased s = .next t ∧
            t =
              { s with
                host := t.host, fault := t.fault, motion := t.motion, guide := t.guide
                voice := t.voice } ∧
            OnlyReports s t ∧ t.faultRec .f01 = { s.faultRec .f01 with active := false } ∧
            t.motion.record.estopIn = false ∧
            t.mstate = (if s.mstate = .estop then .stopped else s.mstate) ∧
            t.motion.record.stopRec = s.motion.record.stopRec ∧
            t.motion.speed = s.motion.speed) ∧
      (s.motion.record.estopIn = false → exec .estopReleased s = .next s)

/-- While a latched fault forbids it, ENABLE DRIVE, DISPATCH, RESUME and CLEAR STOP are refused with
FAULT and the fault summary, and nothing changes (R51, R53, R56, R61). -/
def Obligations.LatchedFaultsRefuseMotion : Prop :=
  ∀ (s : State) (f : RxFrame) (rest : List RxFrame),
    let refused : Out :=
      .next { s with host := replied s.host rest (reply f .refused .fault (.summary s.summary)) }
    (Taken 0x10 s f rest → s.mstate = .parked → s.config.record.state = .ready →
        s.motion.record.estopIn = false →
        (∃ c, (s.faultRec c).latched = true ∧ (s.faultRec c).cls ≠ .note) →
        exec (.enableDrive (.fit ())) s = refused) ∧
      (Taken 0x12 s f rest → s.mstate = .hold → s.guide.est.posState = .located →
        (∃ c, (s.faultRec c).latched = true ∧ (s.faultRec c).cls = .hold) →
        exec (.dispatch (.fit ())) s = refused) ∧
      (Taken 0x14 s f rest → s.mstate = .hold → s.motion.record.resumeRun = true →
        s.inLoadZone = false →
        (s.guide.est.posState = .located ∨ s.guide.est.posState = .doubt) →
        (∃ c, (s.faultRec c).latched = true ∧ (s.faultRec c).cls = .hold) →
        exec (.resume (.fit ())) s = refused) ∧
      (Taken 0x16 s f rest → s.mstate = .stopped →
        (∃ c, (s.faultRec c).latched = true ∧ (s.faultRec c).cls = .stop) →
        exec (.clearStop (.fit ())) s = refused)

/-- A FEEDBACK frame of good form that answers the last DEMAND gives the drive's fields, sets the
miss count to 0 and ends F08; F07 is active as long as its fault code is not 0, and the tracking
count follows the difference of the actual angle from the demand it answers, and raises F06 as it
reaches 10. Every other frame is counted as discarded and changes nothing else (R40 to R43). That the
frames are taken in every configuration state is log 34's, and that F07's condition is the recorded
fault code not being 0 is log 46's. -/
def Obligations.FeedbackAnswersDemand : Prop :=
  (∀ (s : State) (seq lo hi flags fault : Byte) (d : SentDemand),
      s.motion.drive.last = some d → d.answered = false → seq = d.seq →
      let frame : List Byte :=
        [0xA5, seq, lo, hi, flags, fault, crc8 [seq, lo, hi, flags, fault]]
      let actual : Int := (hi ++ lo : BitVec 16).toInt
      ∃ t, exec (.feedback frame) s = .next t ∧
        t =
          { s with
            host := t.host, fault := t.fault, motion := t.motion, seat := t.seat
            voice := t.voice } ∧
        t.motion.drive =
          { s.motion.drive with
            last := some { d with answered := true }, miss := 0, actual := actual
            ready := flags.getLsbD 0, fault := fault
            track :=
              if d.enable = true ∧ flags.getLsbD 0 = true ∧
                  s.lim.trackingLimit < (actual - d.delta).natAbs then
                min 10 (s.motion.drive.track + 1)
              else 0 } ∧
        t.faultActive .f08 = false ∧
        (fault = 0 → t.faultActive .f07 = false) ∧
        (fault ≠ 0 → s.motion.drive.fault = 0 →
          t.faultRec .f07 =
            { active := true, latched := true, cls := .stop
              count := min 255 ((s.faultRec .f07).count + 1), detail := .driveCode fault }) ∧
        (fault ≠ 0 → s.motion.drive.fault ≠ 0 → t.faultRec .f07 = s.faultRec .f07) ∧
        (t.motion.drive.track = 0 → t.faultActive .f06 = false) ∧
        (t.motion.drive.track = 10 → s.motion.drive.track = 9 →
          t.faultRec .f06 =
            { active := true, latched := true, cls := .stop
              count := min 255 ((s.faultRec .f06).count + 1)
              detail := .tracking actual d.delta }) ∧
        (0 < t.motion.drive.track → t.motion.drive.track < 10 ∨ s.motion.drive.track = 10 →
          t.faultRec .f06 = s.faultRec .f06) ∧
        (fault = 0 → t.motion.drive.track < 10 →
          t.motion = { s.motion with drive := t.motion.drive } ∧ t.seat = s.seat ∧
            t.voice = s.voice)) ∧
    ∀ (s : State) (frame : List Byte),
      (∀ d seq lo hi flags fault, s.motion.drive.last = some d → d.answered = false → seq = d.seq →
        frame ≠ [0xA5, seq, lo, hi, flags, fault, crc8 [seq, lo, hi, flags, fault]]) →
      exec (.feedback frame) s =
        .next
          { s with
            motion :=
              { s.motion with
                drive :=
                  { s.motion.drive with discards := min 65535 (s.motion.drive.discards + 1) } } }

/-! ### Guidance -/

/-- Each encoder step moves the odometer count by 1, saturating at ±32,767, and nothing else (R9).
The guide timer running out raises F03, and a vehicle in HOLD, RUN or CREEP stops (R15, R58). -/
def Obligations.OdometerAndGuideTimer : Prop :=
  (∀ (s : State) (forward : Bool),
      exec (.odometerCount forward) s =
        .next
          { s with
            guide :=
              { s.guide with
                odo :=
                  if forward = true then min 32767 (max (-32767) (s.guide.odo + 1))
                  else max (-32767) (min 32767 (s.guide.odo - 1)) } }) ∧
    ∀ (s : State) (n : Nat), s.guide.timer = .running n →
      ∃ t, exec .guideTimeout s = .next t ∧
        t =
          { s with
            host := t.host, fault := t.fault, guide := { s.guide with timer := .expired }
            motion := t.motion, seat := t.seat, voice := t.voice } ∧
        t.faultRec .f03 =
          { active := true, latched := true, cls := .stop
            count := min 255 ((s.faultRec .f03).count + 1), detail := .none } ∧
        (∀ c, c ≠ .f03 → t.faultRec c = s.faultRec c) ∧ OnlyReports s t ∧
        t.mstate =
          (match s.mstate with
          | .hold | .run | .creep => .stopping
          | .parked => .parked
          | .stopping => .stopping
          | .stopped => .stopped
          | .estop => .estop) ∧
        t.motion.speed = s.motion.speed

/-- A guide sample taken while READY moves the estimate by the odometer count: the front and its
fraction by the accumulator of R10, the lap by the whole laps, the measured speed by R11; it starts
the guide timer again. A marker of the table that is met with the position known and an error within
the capture window removes that error (R18). Not READY, the sample gives the reading only (R8). The
order of the units is the sender's (log 5). -/
def Obligations.GuideSampleMovesEstimate : Prop :=
  (∀ (s : State) (g : GuideSample) (order : UnitOrder), s.config.record.state = .ready →
      let P : Int := lapLength s.guide.path
      let acc : Int :=
        (s.guide.est.front : Int) * 1024 + s.guide.est.frac + s.guide.odo * s.lim.odoK
      let front : Nat := (acc / 1024 % P).toNat
      let lap : Half := s.guide.est.lap + BitVec.ofInt 16 (acc / 1024 / P)
      ∃ t, exec (.guideSample g order) s = .next t ∧
        t.pending = s.pending ∧ t.config = s.config ∧ t.clip.mem = s.clip.mem ∧
        t.guide =
          { s.guide with
            est := t.guide.est, reading := t.guide.reading, odo := 0, timer := .running 30
            steer := t.guide.steer } ∧
        t.faultActive .f03 = false ∧
        t.guide.est.speed =
          max (-32768) (min 32767 ((s.guide.odo * s.lim.odoK * 100).tdiv 1024)) ∧
        (g.marker = none →
          t.guide.est.front = front ∧ t.guide.est.frac = (acc % 1024).toNat ∧ t.guide.est.lap = lap ∧
            t.guide.est.lastMarker = s.guide.est.lastMarker ∧
            t.guide.est.mismatch = s.guide.est.mismatch) ∧
        ∀ (code : Code) (m : Marker), g.marker = some code → m ∈ s.guide.markers → m.code = code →
          (∀ x ∈ s.guide.markers, x.code = code → x = m) →
          (s.guide.est.posState = .located ∨ s.guide.est.posState = .doubt) →
          let reader : Nat := (((front : Int) - s.lim.readerOffset) % P).toNat
          let d : Int := ((reader : Int) - m.pos) % P
          let eps : Int := if d ≥ P / 2 then d - P else d
          eps.natAbs ≤ s.lim.captureWindow →
          t.guide.est.front = (((front : Int) - eps) % P).toNat ∧ t.guide.est.frac = 0 ∧
            t.guide.est.lap = lap + BitVec.ofInt 16 (((front : Int) - eps) / P) ∧
            t.guide.est.lastMarker = some code ∧ t.guide.est.lastCorrection = -eps ∧
            t.guide.est.mismatch = 0 ∧ t.guide.est.since = 0 ∧ t.guide.est.posState = .located ∧
            t.faultActive .f04 = false) ∧
    ∀ (s : State) (g : GuideSample) (order : UnitOrder), s.config.record.state ≠ .ready →
      ∃ t, exec (.guideSample g order) s = .next t ∧
        t =
          { s with
            host := t.host, fault := t.fault, motion := t.motion, seat := t.seat, voice := t.voice
            guide := { s.guide with reading := t.guide.reading, odo := 0 } } ∧
        t.guide.reading.e =
          (if s.lim.strengthThreshold ≤ g.strength.toNat then max (-250) (min 250 g.offset)
          else s.guide.reading.e) ∧
        t.guide.reading.ePrev = s.guide.reading.e

/-- Steering while READY in HOLD, RUN, CREEP or STOPPING: the feedback from the offset and its
change, the raw demand set to the steering range, and the demand moved toward it by at most the
slew; saturated where the range cut the raw demand. In PARKED, STOPPED and ESTOP the demand is held
(R25 to R28). -/
def Obligations.SteeringFollowsRangeAndSlew : Prop :=
  ∀ (s : State) (g : GuideSample) (order : UnitOrder), s.config.record.state = .ready →
    ∃ t, exec (.guideSample g order) s = .next t ∧
      (s.mstate = .parked ∨ s.mstate = .stopped ∨ s.mstate = .estop →
        t.guide.steer = s.guide.steer) ∧
      (s.mstate = .hold ∨ s.mstate = .run ∨ s.mstate = .creep ∨ s.mstate = .stopping →
        let e := t.guide.reading.e
        let range : Int := s.lim.steerRange
        let slew : Int := s.lim.steerSlew
        let raw := t.guide.steer.ff + t.guide.steer.fb
        let cut := max (-range) (min range raw)
        t.guide.steer.fb =
            0 - (s.guide.gains.kp * e + s.guide.gains.kd * (e - t.guide.reading.ePrev)).tdiv 256 ∧
          t.guide.steer.raw = raw ∧ t.guide.steer.saturated = decide (cut ≠ raw) ∧
          t.guide.steer.delta =
            s.guide.steer.delta + max (-slew) (min slew (cut - s.guide.steer.delta)) ∧
          (s.mstate ≠ .creep → ∀ x : SegAt, segmentAt s.guide.path t.guide.est.front = some x →
            t.guide.steer.ff =
              x.seg.biasIn +
                ((x.seg.biasOut - x.seg.biasIn) *
                  ((t.guide.est.front - x.start : Nat) : Int)).tdiv x.seg.len) ∧
          (s.mstate = .creep → t.mstate = .creep ∨ t.mstate = .hold → t.guide.steer.ff = 0))

/-- Every guide sample taken while READY sends one DEMAND frame of the Layouts section: the next
sequence number, the speed demand, the steering demand, and the enable bit of the motion state. The
speed demand is 0 in PARKED and ESTOP, and never more than the limit of the segment under the front
(R31, R35, R39, R47). -/
def Obligations.SampleSendsDemandFrame : Prop :=
  ∀ (s : State) (g : GuideSample) (order : UnitOrder), s.config.record.state = .ready →
    ∃ t, exec (.guideSample g order) s = .next t ∧
      let enable : Bool := !(s.mstate = .parked || s.mstate = .estop)
      let v : BitVec 16 := BitVec.ofNat 16 t.motion.speed.demand
      let w : BitVec 16 := BitVec.ofInt 16 t.guide.steer.delta
      let inner : List Byte :=
        [s.motion.drive.seq, v.setWidth 8, (v >>> 8).setWidth 8, w.setWidth 8, (w >>> 8).setWidth 8,
          if enable then 1 else 0]
      t.motion.drive.seq = s.motion.drive.seq + 1 ∧
        t.motion.drive.last =
          some
            { seq := s.motion.drive.seq, delta := t.guide.steer.delta, enable := enable
              answered := false } ∧
        t.motion.drive.frame = some ([0x5A] ++ inner ++ [crc8 inner]) ∧
        (enable = false → t.motion.speed.demand = 0) ∧
        ∀ x : SegAt, segmentAt s.guide.path t.guide.est.front = some x →
          t.motion.speed.demand ≤ x.seg.limit

/-- What a guide sample taken while READY is tested for. The rollback distance grows with movement
backward and falls with movement forward, and F05 is raised as it first goes above the rollback limit;
in PARKED, STOPPED and ESTOP it is 0 (R12). A distance since the last marker above the gap limit loses
the position, with F04 (R19). A known marker read with the position known and an error above the capture
window leaves the front and raises F19: DOUBT the first time, LOST with F04 the second (R18).
What it does to motion. The still count follows the measured speed and the standstill flag is set at 50
(R13); STOPPING becomes STOPPED at standstill (R60), and the speed demand falls there by the stop step
(R35). For a sample that stops nothing, with the motion unit before the zone unit (the sender's order,
log 5): the creep distance grows, and the creep ends in HOLD at an accepted marker or at 5,000 mm (R63);
in RUN the station stop is armed outside the load zone, and armed and at standstill in the arrival
window the vehicle arrives, in HOLD with no resume target, unless the zone unit then raises F09 (R36,
R38); the armed stop gives its distance (R37); and the speed demand moves one step toward the target,
which is 0 in HOLD and with the drive not ready (R34, R35). That an F04 of a second mismatch carries the
code just read is the model's choice (log 47). -/
def Obligations.GuideSampleTestsConditionsAndMovesDrive : Prop :=
  (∀ (s : State) (g : GuideSample) (order : UnitOrder), s.config.record.state = .ready →
    let P : Int := lapLength s.guide.path
    let old := s.guide.est.rollback
    let new : Nat :=
      if moved s < 0 then min 65535 (old + (moved s).natAbs) else old - (moved s).toNat
    ∃ t, exec (.guideSample g order) s = .next t ∧
      let lost (cause : LostCause) (marker : Option Code) : Prop :=
        t.guide.est.posState = .lost ∧
          t.faultRec .f04 =
            { active := true, latched := true, cls := .stop
              count := min 255 ((s.faultRec .f04).count + 1)
              detail := .positionLost cause marker } ∧
          t.mstate ≠ .hold ∧ t.mstate ≠ .run ∧ t.mstate ≠ .creep
      (s.mstate = .parked ∨ s.mstate = .stopped ∨ s.mstate = .estop →
        t.guide.est.rollback = 0 ∧ t.faultActive .f05 = false) ∧
      (s.mstate = .hold ∨ s.mstate = .run ∨ s.mstate = .creep ∨ s.mstate = .stopping →
        t.guide.est.rollback = (if t.mstate = .stopped then 0 else new) ∧
          (new ≤ s.lim.rollbackLimit →
            t.faultRec .f05 = { s.faultRec .f05 with active := false }) ∧
          (old ≤ s.lim.rollbackLimit → s.lim.rollbackLimit < new →
            t.faultRec .f05 =
                { active := decide (t.mstate ≠ .stopped), latched := true, cls := .stop
                  count := min 255 ((s.faultRec .f05).count + 1), detail := .rollback new } ∧
              (t.mstate = .stopping ∨ t.mstate = .stopped)) ∧
          (s.lim.rollbackLimit < old → s.lim.rollbackLimit < new → t.mstate ≠ .stopped →
            t.faultRec .f05 = s.faultRec .f05)) ∧
      (g.marker = none →
        t.guide.est.since = sinceNext s ∧
          (Known s → s.lim.gapLimit < sinceNext s → lost .gap s.guide.est.lastMarker) ∧
          (¬ Known s ∨ sinceNext s ≤ s.lim.gapLimit →
            t.guide.est.posState = s.guide.est.posState ∧ t.faultRec .f04 = s.faultRec .f04)) ∧
      ∀ (code : Code) (m : Marker), g.marker = some code → m ∈ s.guide.markers → m.code = code →
        (∀ x ∈ s.guide.markers, x.code = code → x = m) → Known s →
        let acc : Int :=
          (s.guide.est.front : Int) * 1024 + s.guide.est.frac + s.guide.odo * s.lim.odoK
        let front : Nat := (acc / 1024 % P).toNat
        let reader : Nat := (((front : Int) - s.lim.readerOffset) % P).toNat
        let d : Int := ((reader : Int) - m.pos) % P
        let eps : Int := if d ≥ P / 2 then d - P else d
        s.lim.captureWindow < eps.natAbs →
        t.guide.est.front = front ∧ t.guide.est.frac = (acc % 1024).toNat ∧
          t.guide.est.lap = s.guide.est.lap + BitVec.ofInt 16 (acc / 1024 / P) ∧
          t.guide.est.lastMarker = some code ∧
          t.guide.est.lastCorrection = s.guide.est.lastCorrection ∧
          t.guide.est.mismatch = min 2 (s.guide.est.mismatch + 1) ∧
          t.guide.est.since = sinceNext s ∧
          t.faultRec .f19 =
            { active := false, latched := true, cls := .note
              count := min 255 ((s.faultRec .f19).count + 1), detail := .marker code } ∧
          (1 ≤ s.guide.est.mismatch → lost .mismatch (some code)) ∧
          (s.guide.est.mismatch = 0 → s.lim.gapLimit < sinceNext s → lost .gap (some code)) ∧
          (s.guide.est.mismatch = 0 → sinceNext s ≤ s.lim.gapLimit →
            t.guide.est.posState = .doubt ∧ t.faultRec .f04 = s.faultRec .f04)) ∧
  ∀ (s : State) (g : GuideSample) (order : UnitOrder), s.config.record.state = .ready →
    ∃ t, exec (.guideSample g order) s = .next t ∧
      let P := lapLength s.guide.path
      let front := t.guide.est.front
      let v := s.motion.speed.demand
      let w := t.motion.speed.demand
      let target := t.motion.speed.target
      let dist := min 5000 (s.motion.record.creepDist + (moved s).natAbs)
      t.motion.still =
          (if t.guide.est.speed.natAbs < 5 then min 50 (s.motion.still + 1) else 0) ∧
        t.motion.standstill = decide (t.motion.still = 50) ∧
        (s.mstate = .stopping →
          t.mstate = if t.motion.standstill = true then .stopped else .stopping) ∧
        (s.mstate = .parked ∨ s.mstate = .stopped ∨ s.mstate = .estop → t.mstate = s.mstate) ∧
        (s.mstate = .stopping ∨ s.mstate = .stopped →
          ∀ x : SegAt, segmentAt s.guide.path front = some x →
            target = 0 ∧ w = min (v - min s.lim.stopStep v) x.seg.limit) ∧
        (¬ ZoneFirst order → ¬ Known s → s.mstate = .creep → s.motion.drive.miss < 4 →
          (Calm s g →
            t.motion.record.creepDist = dist ∧ (dist < 5000 → t.mstate = .creep) ∧
              (dist = 5000 →
                t.mstate = .hold ∧ t.motion.record.resumeRun = false ∧
                  Posted s t (.creepEnd (.limit dist)))) ∧
            ∀ (code : Code) (m : Marker), g.marker = some code → m ∈ s.guide.markers →
              m.code = code → (∀ x ∈ s.guide.markers, x.code = code → x = m) →
              s.lim.strengthThreshold ≤ g.strength.toNat → 0 ≤ moved s →
              t.motion.record.creepDist = dist ∧ t.mstate = .hold ∧
                t.motion.record.resumeRun = false ∧
                Posted s t (.creepEnd (.found code t.guide.est.lastCorrection))) ∧
        (¬ ZoneFirst order → Calm s g → ∀ x : SegAt, segmentAt s.guide.path front = some x →
          (s.mstate = .hold ∨ s.mstate = .run ∨ s.mstate = .creep →
            w =
                min
                  (if v < target then v + min s.lim.accelStep (target - v)
                  else v - min s.lim.brakeStep (v - target))
                  x.seg.limit ∧
              (s.mstate = .hold ∨ s.motion.drive.ready = false → target = 0)) ∧
            (s.mstate = .run →
              let armed : Option Half :=
                match s.motion.armed with
                | some a => some a
                | none => if x.seg.load = true then none else some t.guide.est.lap
              let arrives : Prop :=
                armed.isSome = true ∧ t.motion.standstill = true ∧ (P ≤ front + 250 ∨ front ≤ 250)
              (arrives →
                  t.motion.armed = none ∧ t.motion.record.resumeRun = false ∧
                    (s.motion.drive.miss < 4 →
                      t.mstate = .hold ∨
                        t.mstate = .stopping ∧ (t.faultRec .f09).latched = true)) ∧
                (¬ arrives →
                  t.motion.armed = armed ∧
                    (s.motion.drive.miss < 4 →
                      t.mstate = .run ∨
                        t.mstate = .stopping ∧
                          ((t.faultRec .f09).latched = true ∨ (t.faultRec .f10).latched = true)) ∧
                    ∀ a, armed = some a →
                      let station : Int :=
                        if t.guide.est.lap = a then (P : Int) - front
                        else if t.guide.est.lap = a + 1 then -(front : Int)
                        else 0
                      let hold : Int :=
                        match s.zone.hold with
                        | none => station
                        | some h => min (Machine.signedDist P front h.pos) station
                      t.motion.speed.holdDist = some hold ∧ (hold ≤ 0 → target = 0))))

/-- SET POSITION while READY, in HOLD or PARKED at standstill, places the front: the position is
LOCATED, the lap stands, F04 and F05 end; the motion unit, the voices and the clips are left alone
(R21). The order of the units is the sender's (log 5). -/
def Obligations.SetPositionPlacesFront : Prop :=
  ∀ (s : State) (f : RxFrame) (rest : List RxFrame) (front : Nat) (order : UnitOrder),
    Taken 0x18 s f rest → s.config.record.state = .ready →
    front < (s.guide.path.map (·.len)).sum → (s.mstate = .hold ∨ s.mstate = .parked) →
    s.motion.standstill = true →
    ∃ t, exec (.setPosition (.fit front) order) s = .next t ∧
      Answered s t f rest .done .done .empty ∧
      t =
        { s with
          host := t.host, guide := t.guide, fault := t.fault, zone := t.zone, cue := t.cue } ∧
      t.guide =
        { s.guide with
          est :=
            { s.guide.est with
              front := front, frac := 0, mismatch := 0, rollback := 0, since := 0
              lastMarker := none, lastCorrection := 0, posState := .located } } ∧
      t.faultActive .f04 = false ∧ t.faultActive .f05 = false ∧
      t.cue = { s.cue with cues := t.cue.cues, pointer := t.cue.pointer, lap := t.cue.lap } ∧
      (∀ c, c ≠ .f04 → c ≠ .f05 → c ≠ .f10 → t.faultRec c = s.faultRec c)

/-! ### Zones -/

/-- A wayside frame does nothing while the link is stopped or when it is addressed to another
vehicle; any other is heard first, as LINK CHECK is, which makes the link UP and starts its timer
again, and then acts (R89, R90). -/
def Obligations.WaysideFrameIsHeardFirst : Prop :=
  ∀ (s : State) (c : Instr) (dest zone tag : Byte) (reason : DenyReason) (value : Bool)
      (cueId : Half),
    c ∈
        ([.grant dest zone tag, .deny dest zone tag reason, .zoneFree dest zone,
            .released dest zone tag, .revoke dest zone, .linkCheck dest, .waysideDispatch dest,
            .rideHold dest, .rideResume dest, .waysideCheck dest, .showFlag dest zone value,
            .cueAck dest cueId tag] : List Instr) →
      (s.zone.link = .stopped ∨ ¬ Addressed s dest → exec c s = .next s) ∧
        (s.zone.link ≠ .stopped → Addressed s dest →
          ∃ t, exec (.linkCheck dest) s = .next t ∧ exec c s = exec c t ∧
            t.zone =
              { s.zone with
                link := .up, linkTimer := .running s.lim.linkTimeout, sinceFrame := some 0 } ∧
            (s.zone.link = .up → t = { s with zone := heard s }) ∧
            ZoneOnly s t ∧
            (s.zone.link ≠ .up → (∀ r ∈ s.zone.table, r.failed = false) →
              t.faultActive .f10 = false))

/-- The link timer running out makes the link LOST and F10 active. A frame that fails the frame
check is counted and restarts no timer; a valid frame of a kind that is not routed is heard and
counted (R89 to R91). -/
def Obligations.LinkTimeoutAndBadFrames : Prop :=
  (∀ (s : State) (n : Nat), s.zone.link ≠ .stopped → s.zone.linkTimer = .running n →
      ∃ t, exec .linkTimeout s = .next t ∧
        t.zone = { s.zone with link := .lost, linkTimer := .expired } ∧ t.faultActive .f10 = true ∧
        t =
          { s with
            host := t.host, zone := t.zone, fault := t.fault, motion := t.motion, seat := t.seat
            voice := t.voice } ∧
        OnlyReports s t ∧ (∀ c, c ≠ .f10 → t.faultRec c = s.faultRec c) ∧
        (s.mstate = .hold ∨ s.mstate = .stopped ∨ s.mstate = .parked ∨ s.mstate = .estop →
          t.motion = s.motion) ∧
        (s.faultActive .f10 = false → s.mstate = .run ∨ s.mstate = .creep →
          t.mstate = .stopping ∧ (t.faultRec .f10).cls = .stop)) ∧
    (∀ (s : State) (frame : List Byte), s.zone.link ≠ .stopped → waysideCheck frame = none →
      exec (.waysideFrameDiscard frame) s =
        .next
          { s with
            zone :=
              { s.zone with
                counts :=
                  { s.zone.counts with discards := min 65535 (s.zone.counts.discards + 1) } } }) ∧
    ∀ (s : State) (dest src kind : Byte) (body : List Byte), s.zone.link = .up → Addressed s dest →
      body.length ≤ 48 →
      kind ∉
        ([0x01, 0x02, 0x03, 0x04, 0x05, 0x06, 0x08, 0x09, 0x0A, 0x0B, 0x0C, 0x0D, 0x21, 0x22, 0x23,
            0x24, 0x25, 0x26, 0x27] : List Byte) →
      exec (.waysideUnknownKind (waysideBytes dest src kind body)) s =
        .next
          { s with
            zone :=
              { heard s with
                counts :=
                  { s.zone.counts with discards := min 65535 (s.zone.counts.discards + 1) } } }

/-- A GRANT with the tag of the zone's outstanding claim makes the entry HELD (R73). One for a zone
with no entry, a WAITING or CLOSED one, or a claim of another tag or not outstanding is given back by a
RELEASE with its tag; one for a RELEASING zone is ignored, and so is one for a HELD zone (R73, R78). A
DENY BUSY with the tag of the outstanding claim counts: below the deny limit the claim waits for its
backoff, 2 to the power of one less than the count times the base, at most 32 times; at the limit
the entry is WAITING (R74). A DENY CLOSED makes it CLOSED and raises F15 (R75). Any other DENY is
stale. That a matching DENY ends the failed mark is log 33's, and that an answer ends the send-due mark
is log 13's. -/
def Obligations.GrantAndDenyAnswerClaims : Prop :=
  (∀ (s : State) (dest zone tag : Byte), s.zone.link = .up → Addressed s dest →
    (∀ r, EntryOf s zone.toNat r → r.state = .requested → r.outstanding = true → r.tag = tag →
        ∃ t, exec (.grant dest zone tag) s = .next t ∧ ZoneOnly s t ∧
          t.zone =
            { heard s with
              hold := t.zone.hold
              table :=
                withEntry s.zone.table zone.toNat
                  { r with
                    state := .held, timer := .stopped, outstanding := false, failed := false
                    sendDue := false } }) ∧
      (∀ r, EntryOf s zone.toNat r → r.state = .held →
        exec (.grant dest zone tag) s = .next { s with zone := heard s }) ∧
      (∀ r, EntryOf s zone.toNat r → r.state = .releasing →
        ∃ t, exec (.grant dest zone tag) s = .next t ∧ t = { s with host := t.host, zone := heard s } ∧
          OnlyReports s t) ∧
      ((∀ r ∈ s.zone.table, r.zone = zone.toNat →
          r.state = .waiting ∨ r.state = .closed ∨
            r.state = .requested ∧ (r.outstanding = false ∨ r.tag ≠ tag)) →
        s.zone.mailbox.length < 4 →
        ∃ t, exec (.grant dest zone tag) s = .next t ∧
          t =
            { s with
              host := t.host
              zone :=
                { heard s with
                  mailbox := s.zone.mailbox ++ [⟨none, .returnRelease zone.toNat tag⟩] } } ∧
          OnlyReports s t)) ∧
    (∀ (s : State) (dest zone tag : Byte), s.zone.link = .up → Addressed s dest →
    (∀ r, EntryOf s zone.toNat r → r.state = .requested → r.outstanding = true → r.tag = tag →
        let k := min 31 (r.deny + 1)
        let answered : Reservation :=
          { r with outstanding := false, failed := false, sendDue := false, timer := .stopped }
        (∃ t, exec (.deny dest zone tag .busy) s = .next t ∧ ZoneOnly s t ∧
            t.zone =
              { heard s with
                hold := t.zone.hold
                table :=
                  withEntry s.zone.table zone.toNat
                    (if k < s.lim.denyLimit then
                      { answered with
                        deny := k, timer := .backoff (s.lim.backoffBase * 2 ^ min (k - 1) 5) }
                    else { answered with deny := k, state := .waiting }) }) ∧
          ∃ t, exec (.deny dest zone tag .closed) s = .next t ∧ ZoneOnly s t ∧
            t.zone =
              { heard s with
                hold := t.zone.hold
                table := withEntry s.zone.table zone.toNat { answered with state := .closed } } ∧
            (t.faultRec .f15).latched = true ∧
            (t.faultRec .f15).count = min 255 ((s.faultRec .f15).count + 1)) ∧
      ∀ reason : DenyReason,
        (∀ r ∈ s.zone.table,
          r.zone = zone.toNat → ¬(r.state = .requested ∧ r.outstanding = true ∧ r.tag = tag)) →
        exec (.deny dest zone tag reason) s =
          .next
            { s with
              zone :=
                { heard s with
                  counts := { s.zone.counts with stale := min 65535 (s.zone.counts.stale + 1) } } })

/-- ZONE FREE from the wayside and RECLAIM from the host make a WAITING, a CLOSED or a failed
REQUESTED entry claim afresh: a new tag, no denials, no resends, and its CLAIM in the mailbox with
the claim timer running (R76). -/
def Obligations.ZoneFreeAndReclaimClaimAfresh : Prop :=
  ∀ (s : State) (z : Nat) (r : Reservation), EntryOf s z r → MailRoom s z →
    (r.state = .waiting ∨ r.state = .closed ∨ r.state = .requested ∧ r.failed = true) →
    let tag := s.zone.tagCtr
    let fresh (u : ZoneUnit) : ZoneUnit :=
      { u with
        tagCtr := tag + 1
        mailbox := s.zone.mailbox ++ [⟨some z, .claim z tag⟩]
        table :=
          withEntry s.zone.table z
            { zone := z, state := .requested, tag := tag, deny := 0, resend := 0
              timer := .claim s.lim.claimTimer, outstanding := true, failed := false
              sendDue := false } }
    (∀ dest zone : Byte, s.zone.link = .up → Addressed s dest → zone.toNat = z →
        ∃ t, exec (.zoneFree dest zone) s = .next t ∧ ZoneOnly s t ∧
          t.zone = { fresh (heard s) with hold := t.zone.hold }) ∧
      ∀ (f : RxFrame) (rest : List RxFrame), Taken 0x20 s f rest →
        s.config.record.state = .ready → s.zone.link ≠ .stopped → z ≤ 127 →
        s.zone.table.Nodup →
        ∃ t, exec (.reclaim (.fit z)) s = .next t ∧
          Answered s t f rest .done .done (.number 1) ∧
          t =
            { s with
              host := t.host, zone := t.zone, fault := t.fault, motion := t.motion, seat := t.seat
              voice := t.voice } ∧
          t.zone = { fresh s.zone with hold := t.zone.hold }

/-- A RELEASED with the tag of a RELEASING entry removes it; any other is stale (R80). A REVOKE of a
zone with no entry is refused as unknown; of a RELEASING one accepted; of the front's zone, or of one
nearer than the stopping distance, refused as committed; else it is accepted, and the zone leaves the
table with every HELD zone beyond it (R82, R83). Each answer joins the long queue; with the queue full
it takes the place of the last SCENE CUE, or is dropped and counted where there is none (R86). The
order of a revoke's parts and that place are log 14's, that a frame of a removed entry stays in the
mailbox is log 13's, and the lap of the NOT SENT outcome is log 42's, all the model's choice. -/
def Obligations.ReleasedAndRevokeRemoveEntries : Prop :=
  ∀ (s : State) (dest zone tag : Byte), s.zone.link = .up → Addressed s dest →
    (∀ r, EntryOf s zone.toNat r → r.state = .releasing → r.tag = tag →
        ∃ t, exec (.released dest zone tag) s = .next t ∧ ZoneOnly s t ∧
          t.zone =
            { heard s with
              hold := t.zone.hold, mailbox := t.zone.mailbox
              table := s.zone.table.filter fun x => x.zone ≠ zone.toNat } ∧
          t.zone.mailbox.map (·.frame) = s.zone.mailbox.map (·.frame)) ∧
      ((∀ r ∈ s.zone.table, r.zone = zone.toNat → ¬(r.state = .releasing ∧ r.tag = tag)) →
        exec (.released dest zone tag) s =
          .next
            { s with
              zone :=
                { heard s with
                  counts :=
                    { s.zone.counts with stale := min 65535 (s.zone.counts.stale + 1) } } }) ∧
      ((∀ r ∈ s.zone.table, r.zone ≠ zone.toNat) →
        ∃ t, exec (.revoke dest zone) s = .next t ∧
          OnlyAnswers s t (.revokeRefuse zone.toNat .unknown)) ∧
      (∀ r, EntryOf s zone.toNat r → r.state = .releasing →
        ∃ t, exec (.revoke dest zone) s = .next t ∧ OnlyAnswers s t (.revokeAccept zone.toNat)) ∧
      ∀ r, EntryOf s zone.toNat r → r.state ≠ .releasing →
        let v := s.motion.speed.demand
        (s.frontZone = some zone.toNat ∨
            s.revokeDist zone.toNat < max 1 (ceilDiv (v * v) (2 * s.lim.deceleration)) →
          ∃ t, exec (.revoke dest zone) s = .next t ∧
            OnlyAnswers s t (.revokeRefuse zone.toNat .committed)) ∧
          ((s.zone.table.map (·.zone)).Nodup → s.frontZone ≠ some zone.toNat →
            max 1 (ceilDiv (v * v) (2 * s.lim.deceleration)) ≤ s.revokeDist zone.toNat →
            ∃ t, exec (.revoke dest zone) s = .next t ∧ ZoneOnly s { t with cue := s.cue } ∧
              AnswerPut s t (.revokeAccept zone.toNat) ∧
              t.zone.table.map (·.zone) =
                (s.zone.table.filter fun x =>
                  !(x.zone = zone.toNat ||
                    x.state = .held && s.entryDist zone.toNat < s.entryDist x.zone)).map (·.zone))

/-- What a guide sample taken while READY does to zones. The table is in path order (R70). The hold point
is the front where the front's zone is not HELD, else the stop margin short of the entry of the first
zone ahead that is not HELD, and none where all are (R81). A front that has come forward over the entry
of a zone not HELD raises F09 and stops the vehicle (R84). In HOLD, RUN and STOPPING with the position
known, every entry whose zone the rear has left is given back: a HELD or outstanding one becomes
RELEASING with its RELEASE in the mailbox, any other is removed (R79); and the front's zone and the
first zone ahead without an entry and within the claim distance are claimed, with their CLAIM in the
mailbox, while the table has room (R71, R72). For these two the zone unit acts before the motion unit
(the sender's order, log 5), and the sample stops nothing; that they come before the test for zone
violation is the model's choice (log 48). -/
def Obligations.GuideSampleClaimsAndReleasesZones : Prop :=
  ∀ (s : State) (g : GuideSample) (order : UnitOrder), s.config.record.state = .ready →
    ∃ t, exec (.guideSample g order) s = .next t ∧
      let P := lapLength s.guide.path
      let front := t.guide.est.front
      let ahead (z : ZoneInfo) : Int := Machine.signedDist P front z.entry
      let entered (z : ZoneInfo) : Prop :=
        0 < Machine.signedDist P s.guide.est.front z.entry ∧ ahead z ≤ 0 ∧ t.zoneHeld z.zone = false
      (t.zone.table.map fun r => t.entryDist r.zone).Pairwise (· ≤ ·) ∧
        (∀ x : SegAt, segmentAt s.guide.path front = some x →
          t.zone.hold =
            if t.zoneHeld x.seg.zone = true then
              ((zonesAhead s.zone.zmap x.seg.zone).find? fun z => !t.zoneHeld z.zone).map fun z =>
                { pos := (((z.entry : Int) - s.lim.stopMargin) % P).toNat, zone := z.zone }
            else some { pos := front, zone := x.seg.zone }) ∧
        (g.marker = none → moved s ≤ 0 → t.faultRec .f09 = s.faultRec .f09) ∧
        (g.marker = none → 0 < moved s → Known s → Known t →
          (segmentAt s.guide.path s.guide.est.front).isSome = true →
          ((∃ z ∈ s.zone.zmap, entered z) →
              (∃ z ∈ s.zone.zmap, entered z ∧
                t.faultRec .f09 =
                  { active := false, latched := true, cls := .stop
                    count := min 255 ((s.faultRec .f09).count + 1), detail := .zone z.zone }) ∧
                t.mstate ≠ .hold ∧ t.mstate ≠ .run ∧ t.mstate ≠ .creep) ∧
            ((∀ z ∈ s.zone.zmap, ¬ entered z) → t.faultRec .f09 = s.faultRec .f09)) ∧
        (ZoneFirst order → Calm s g → Known s →
          (s.mstate = .hold ∨ s.mstate = .run ∨ s.mstate = .stopping) →
          (s.faultActive .f10 = true ∨ s.zone.link ≠ .lost ∧ ∀ r ∈ s.zone.table, r.failed = false) →
          (s.zone.table.map (·.zone)).Nodup → s.zone.table.length ≤ 4 → s.zone.link ≠ .stopped →
          s.zone.mailbox = [] → (s.zone.zmap.map (·.zone)).Nodup →
          ∀ x : SegAt, segmentAt s.guide.path front = some x →
            let here := x.seg.zone
            let rear : Int := ((front : Int) - s.lim.vehicleLength) % P
            let gone (r : Reservation) : Prop :=
              r.zone ≠ here ∧
                ∃ z ∈ s.zone.zmap, z.zone = r.zone ∧ 0 < Machine.signedDist P z.exit rear
            (∀ r ∈ s.zone.table,
                (¬ gone r ∨ r.state = .releasing → r ∈ t.zone.table) ∧
                  (gone r → r.state = .held ∨ r.state = .requested ∧ r.outstanding = true →
                    ∃ y ∈ t.zone.table,
                      y =
                          { zone := r.zone, state := .releasing, tag := y.tag, deny := r.deny
                            resend := 0, timer := .release s.lim.claimTimer, outstanding := true
                            failed := false, sendDue := false } ∧
                        ⟨some y.zone, .release y.zone y.tag⟩ ∈ t.zone.mailbox) ∧
                  (gone r →
                    r.state = .waiting ∨ r.state = .closed ∨
                      r.state = .requested ∧ r.outstanding = false →
                    ∀ y ∈ t.zone.table, y.zone = r.zone →
                      y.state = .requested ∧ y.outstanding = true ∧ y.deny = 0)) ∧
              ((∀ r ∈ s.zone.table, ¬ gone r) →
                let first : List Nat :=
                  if s.mstate ≠ .stopping ∧ (s.entryOf here).isNone = true ∧
                      s.zone.table.length < 4 then
                    [here]
                  else []
                let second : List Nat :=
                  match (zonesAhead s.zone.zmap here).find? fun z => (s.entryOf z.zone).isNone with
                  | some z =>
                    if ahead z ≤ s.lim.claimDistance ∧ s.zone.table.length + first.length < 4 then
                      [z.zone]
                    else []
                  | none => []
                (t.zone.table.map (·.zone)).Perm
                    (s.zone.table.map (·.zone) ++ first ++ second) ∧
                  ∀ y ∈ t.zone.table, y.zone ∈ first ++ second →
                    y =
                        { zone := y.zone, state := .requested
                          tag :=
                            if y.zone ∈ first then s.zone.tagCtr
                            else s.zone.tagCtr + BitVec.ofNat 8 first.length
                          deny := 0, resend := 0, timer := .claim s.lim.claimTimer
                          outstanding := true, failed := false, sendDue := false } ∧
                      ⟨some y.zone, .claim y.zone y.tag⟩ ∈ t.zone.mailbox))

/-- A claim or release timer that runs out sends the frame again, three times; the fourth time the
entry is failed and F10 is active (R77, R80). A backoff that runs out claims again with a new tag
and the deny count kept (R74). -/
def Obligations.EntryTimersResendThenFail : Prop :=
  ∀ (s : State) (z : Nat) (r : Reservation) (n : Nat), EntryOf s z r → s.zone.link ≠ .stopped →
    let again (c : Instr) (frame : MailFrame) (timer : ResTimer) : Prop :=
      (r.resend < 3 → MailRoom s z →
          exec c s =
            .next
              { s with
                zone :=
                  { s.zone with
                    mailbox := s.zone.mailbox ++ [⟨some z, frame⟩]
                    table :=
                      withEntry s.zone.table z
                        { r with
                          resend := r.resend + 1, timer := timer, outstanding := true
                          sendDue := false } } }) ∧
        (3 ≤ r.resend →
          ∃ t, exec c s = .next t ∧
            t =
              { s with
                host := t.host, zone := t.zone, fault := t.fault, motion := t.motion
                seat := t.seat, voice := t.voice } ∧
            OnlyReports s t ∧ t.faultActive .f10 = true ∧
            t.zone =
              { s.zone with
                table :=
                  withEntry s.zone.table z { r with failed := true, timer := .stopped } } ∧
            (∀ c, c ≠ .f10 → t.faultRec c = s.faultRec c))
    (r.state = .requested → r.timer = .claim n →
        again (.claimTimerExpiry z) (.claim z r.tag) (.claim s.lim.claimTimer)) ∧
      (r.state = .releasing → r.timer = .release n →
        again (.releaseTimerExpiry z) (.release z r.tag) (.release s.lim.claimTimer)) ∧
      (r.state = .requested → r.timer = .backoff n → MailRoom s z →
        exec (.backoffTimerExpiry z) s =
          .next
            { s with
              zone :=
                { s.zone with
                  tagCtr := s.zone.tagCtr + 1
                  mailbox := s.zone.mailbox ++ [⟨some z, .claim z s.zone.tagCtr⟩]
                  table :=
                    withEntry s.zone.table z
                      { r with
                        tag := s.zone.tagCtr, resend := 0, timer := .claim s.lim.claimTimer
                        outstanding := true, sendDue := false } } })

/-- The transmitter takes turns between the mailbox and the long queue while both hold a frame, and
a SCENE CUE that leaves starts its acknowledgement timer; a frame sent frees it (R88, R130). A frame
leaves with the vehicle id as its source (R216), a BEACON with the id it was built with (R87). A
BEACON takes the place of one that waits, or joins the long queue while it holds fewer than 16
frames, or is skipped and counted (R87). -/
def Obligations.TransmitterTakesTurns : Prop :=
  ∀ s : State,
    exec .waysideFrameSent s = .next { s with zone := { s.zone with sending := none } } ∧
      (s.zone.link ≠ .stopped → s.zone.sending = none →
        (s.zone.mailbox = [] → s.zone.long = [] → exec .waysideTransmit s = .next s) ∧
          (∀ m ms, s.zone.mailbox = m :: ms → s.zone.long = [] ∨ s.zone.tookMailbox = false →
            (∀ r ∈ s.zone.table, r.sendDue = false) →
            exec .waysideTransmit s =
              .next
                { s with
                  zone :=
                    { s.zone with
                      mailbox := ms, sending := some ⟨s.lim.vehicleId, .mail m.frame⟩
                      tookMailbox := true } }) ∧
          ∀ x xs, s.zone.long = x :: xs → s.zone.mailbox = [] ∨ s.zone.tookMailbox = true →
            exec .waysideTransmit s =
              .next
                { s with
                  zone :=
                    { s.zone with
                      long := xs
                      sending :=
                        some
                          { source :=
                              match x with
                              | .beacon b => b.vehicle
                              | _ => s.lim.vehicleId
                            frame := .long x }
                      tookMailbox := false }
                  cue :=
                    { s.cue with
                      acks :=
                        match x with
                        | .scene f =>
                          s.cue.acks.map fun e =>
                            if e.cueId = f.cueId ∧ e.tag = f.tag ∧ e.stage = .queued then
                              { e with stage := .waiting 300 }
                            else e
                        | _ => s.cue.acks } }) ∧
      (s.zone.link ≠ .stopped →
        let now : LongFrame :=
          .beacon
            { vehicle := s.lim.vehicleId, front := s.guide.est.front, lap := s.guide.est.lap
              speed := s.guide.est.speed, demand := s.motion.speed.demand, motion := s.mstate, posState := s.guide.est.posState
              held := (s.zone.table.filter fun r => r.state = .held).map (·.zone) }
        ((∀ b, LongFrame.beacon b ∉ s.zone.long) →
            exec .beacon s =
              .next
                { s with
                  zone :=
                    if s.zone.long.length < 16 then
                      { s.zone with long := s.zone.long ++ [now], beaconTimer := .running 100 }
                    else
                      { s.zone with
                        beaconTimer := .running 100
                        counts :=
                          { s.zone.counts with
                            beaconSkips := min 65535 (s.zone.counts.beaconSkips + 1) } } }) ∧
          ∀ before b after, s.zone.long = before ++ [.beacon b] ++ after →
            (∀ x, LongFrame.beacon x ∉ before ++ after) →
            exec .beacon s =
              .next
                { s with
                  zone :=
                    { s.zone with
                      long := before ++ [now] ++ after, beaconTimer := .running 100 } })

/-! ### Seats -/

/-- CHECK, from the host or the wayside, at rest in HOLD in the load zone, clears the permit. When
every seat can be checked the check starts: its set is the seats that must be locked, and each of
them is CHECKING with its lamp off, and no other seat is CHECKED (R101, R108, R109). When a seat is
UNKNOWN, or one of the set is in FAULT or ALARM, the check fails at once with F14 (R109, R111). That the
permit's last cause becomes CHECK STARTED also where the permit was not held is the model's reading (log
12). -/
def Obligations.CheckStartsOrFailsAtOnce : Prop :=
  ∀ s : State, AtStation s → s.seat.check = none → s.seat.window = .stopped → s.SeatsDistinct →
    let set : List Nat :=
      (s.seat.records.filter fun r =>
        r.occupied = .yes || (r.occupied = .no && s.config.committedMap.mustLock)).map (·.addr)
    let starts (source : CommandSource) (t : State) : Prop :=
      t = { s with host := t.host, zone := t.zone, seat := t.seat } ∧
        t.seat =
          { s.seat with
            records := t.seat.records, round := t.seat.round, permit := false
            permitCause := .checkStarted
            check := some { source := source, set := set, rejected := [], rounds := 0 } } ∧
        t.seat.records.map (·.addr) = s.seat.records.map (·.addr) ∧
        ∀ r ∈ t.seat.records,
          if r.addr ∈ set then r.state = .checking ∧ r.lamp = false ∧ r.lampPending = true
          else r.state ≠ .checked
    let fails (t : State) : Prop :=
      t = { s with host := t.host, zone := t.zone, seat := t.seat, fault := t.fault } ∧
        t.seat.check = none ∧ t.seat.permit = false ∧ t.seat.permitCause = .checkStarted ∧
        (t.faultRec .f14).latched = true ∧
        (t.faultRec .f14).count = min 255 ((s.faultRec .f14).count + 1) ∧
        ∀ c, c ≠ .f14 → t.faultRec c = s.faultRec c
    let blocked : Prop :=
      ∃ r ∈ s.seat.records,
        r.state = .unknown ∨ r.addr ∈ set ∧ (r.state = .fault ∨ r.state = .alarm)
    (∀ (f : RxFrame) (rest : List RxFrame), Taken 0x28 s f rest →
        ∃ t, exec (.check (.fit ())) s = .next t ∧ t.zone = s.zone ∧
          (¬ blocked → starts .host t ∧ Answered s t f rest .done .started .empty) ∧
          (blocked → fails t ∧ Answered s t f rest .done .failed .empty)) ∧
      ∀ dest : Byte, s.zone.link = .up → Addressed s dest →
        ∃ t, exec (.waysideCheck dest) s = .next t ∧ t.zone = heard s ∧ OnlyReports s t ∧
          (¬ blocked → starts .wayside t) ∧ (blocked → fails t)

/-- RELEASE at rest in HOLD in the load zone ends a check, clears the permit and starts the release
window of 3,000 ms with every lamp off and no seat CHECKED; while the window is active it only
starts its timer again, and is answered ALREADY (R115). The window's end latches every module and
changes no other field (R116). That the permit's last cause becomes RELEASE also
where the permit was not held is the model's reading (log 12). -/
def Obligations.ReleaseWindowOpensAndEnds : Prop :=
  (∀ (s : State) (f : RxFrame) (rest : List RxFrame), Taken 0x29 s f rest → AtStation s →
      (s.seat.window = .stopped →
          ∃ t, exec (.release (.fit ())) s = .next t ∧ Answered s t f rest .done .done .empty ∧
            t = { s with host := t.host, seat := t.seat } ∧
            t.seat =
              { s.seat with
                records := t.seat.records, check := none, permit := false, permitCause := .release
                window := .running 3000 } ∧
            t.seat.records.map (·.addr) = s.seat.records.map (·.addr) ∧
            ∀ r ∈ t.seat.records,
              r.state ≠ .checked ∧ r.lamp = false ∧ r.lampPending = true) ∧
        (s.seat.window ≠ .stopped →
          exec (.release (.fit ())) s =
            .next
              { s with
                host := replied s.host rest (reply f .qualified .already .empty)
                seat := { s.seat with window := .running 3000 } })) ∧
    ∀ (s : State) (n : Nat), s.seat.window = .running n →
      ∃ t, exec .releaseWindowExpiry s = .next t ∧ OnlyReports s t ∧
        Posted s t (.releaseEnd .time) ∧
        t =
          { s with
            host := t.host
            seat :=
              { s.seat with
                window := .stopped
                records := s.seat.records.map fun r => { r with latchPending := true } } }

/-- A round is begun with every fitted address in order, and is a confirm round while a check runs
(R97). A confirm round that ends counts; the last one passes the check when no seat was rejected:
every seat that was CHECKING is CHECKED, and the permit is held, provided that every seat that must be
locked is CHECKED, which a seat that became known while the check ran may not be; else it fails with F14 and no seat
is left CHECKING (R110, R111). The closing round ends with a LATCH to the last seat, and the loop
stops (R97, R98). That proviso on the permit (R113) is log 12's;
the end of a round and the closing round as commands of their own are log 10's. -/
def Obligations.SeatRoundsCarryTheCheck : Prop :=
  ∀ s : State,
    (∀ n, s.seat.loop = .started → s.seat.roundTimer = .running n → s.seat.round = none →
        exec .pollRoundStart s =
          .next
            { s with
              seat :=
                { s.seat with
                  roundTimer := .running s.lim.roundPeriod
                  round :=
                    some
                      { remaining := s.seat.records.map (·.addr)
                        confirm := s.seat.check ≠ none } } }) ∧
      (s.seat.round = some { remaining := [], confirm := false } →
        exec .roundEnd s = .next { s with seat := { s.seat with round := none } }) ∧
      (∀ k : Check, s.seat.round = some { remaining := [], confirm := true } →
        s.seat.check = some k →
        (k.rounds + 1 < s.lim.confirmRounds →
            exec .roundEnd s =
              .next
                { s with
                  seat :=
                    { s.seat with
                      round := none, check := some { k with rounds := k.rounds + 1 } } }) ∧
          (s.lim.confirmRounds ≤ k.rounds + 1 → k.rejected = [] → s.SeatsDistinct →
            ∃ t, exec .roundEnd s = .next t ∧ OnlyReports s t ∧
              t =
                { s with
                  host := t.host
                  seat :=
                    { s.seat with
                      round := none, check := none
                      permit :=
                        s.seat.records.all fun r =>
                          r.state = .checking || r.state = .checked ||
                            !(r.occupied = .yes ||
                              (r.occupied = .no && s.config.committedMap.mustLock))
                      records :=
                        s.seat.records.map fun r =>
                          if r.state = .checking then
                            { r with state := .checked, alarm := 0, recovery := 0 }
                          else r } }) ∧
          (s.lim.confirmRounds ≤ k.rounds + 1 → k.rejected ≠ [] → s.SeatsDistinct →
            ∃ t, exec .roundEnd s = .next t ∧
              t =
                { s with
                  host := t.host, fault := t.fault, voice := t.voice, clip := t.clip
                  seat :=
                    { s.seat with
                      round := none, check := none
                      records :=
                        s.seat.records.map fun r =>
                          if r.state = .checking then { r with state := .locked } else r } } ∧
              (t.faultRec .f14).latched = true ∧
              (s.config.committedMap.clip = none → t.voice = s.voice ∧ t.clip = s.clip))) ∧
      ∀ responses : List (BitVec 24), s.seat.loop = .closing →
        ∃ t, exec (.seatLoopClosingRound responses) s = .next t ∧
          t.seat.loop = .stopped ∧ t.seat.roundTimer = .stopped ∧ t.seat.round = none ∧
          t.config = s.config ∧ t.zone = s.zone ∧ t.pending = s.pending ∧
          t.seat.records.map (·.addr) = s.seat.records.map (·.addr) ∧
          (s.SeatsDistinct → ∀ r, s.seat.records.getLast? = some r →
            t.seat.command = some (BitVec.ofNat 8 (r.addr * 16 + 2)))

/-- Each transaction takes the round's next address, sends it its operation (RELEASE in the window,
else LATCH, a lamp change or STATUS) and counts (R98, R99). While the vehicle runs, a CHECKED seat
whose lock switch reads open in two good responses on end enters ALARM: the permit is cleared, F11
is raised, the alarm ducks the voices and the vehicle stops (R104, R105, R113). The transaction as
one step, and the order of its rules, are log 8's and log 9's. -/
def Obligations.SeatTransactionWatchesLocks : Prop :=
  ∀ (s : State) (w : BitVec 24) (a : Nat) (rest : List Nat) (confirm : Bool) (r : SeatRecord),
    s.seat.loop ≠ .stopped → s.seat.round = some { remaining := a :: rest, confirm := confirm } →
    r ∈ s.seat.records → r.addr = a → s.SeatsDistinct →
    let x := SeatResponse.ofBits w
    let op : Nat :=
      if s.seat.window ≠ .stopped then 1
      else if r.latchPending then 2
      else if r.lampPending then (if r.lamp then 3 else 4)
      else 0
    ∃ t, exec (.seatTransaction w) s = .next t ∧
      t =
        { s with
          host := t.host, fault := t.fault, motion := t.motion, seat := t.seat
          voice := t.voice } ∧
      OnlyReports s t ∧ t.seat.round = some { remaining := rest, confirm := confirm } ∧
      t.seat.command = some (BitVec.ofNat 8 (a * 16 + op)) ∧
      t.seat.counts.transactions = min 65535 (s.seat.counts.transactions + 1) ∧
      t.seat.records.map (·.addr) = s.seat.records.map (·.addr) ∧
      (∀ r' ∈ s.seat.records, r'.addr ≠ a → s.seat.check = none → s.seat.window = .stopped →
        r' ∈ t.seat.records) ∧
      (s.mstate = .run → r.state = .checked → r.alarm = 1 → x.crcOk = true →
        r.lastCounter ≠ some x.counter → (x.lockA = false ∨ x.lockB = false) →
        (∀ y ∈ s.seat.records, y.state ≠ .alarm) →
        t.seat.permit = false ∧ t.faultActive .f11 = true ∧ (t.faultRec .f11).latched = true ∧
          (t.faultRec .f11).detail = .seat a ∧ t.voice.alarm = true ∧ t.mstate = .stopping ∧
          ∃ y ∈ t.seat.records, y.addr = a ∧ y.state = .alarm)

/-! ### Cues -/

/-- FLAG SET and FLAG EXCHANGE are taken in every state. FLAG SET writes the flag and answers its
value before; FLAG EXCHANGE writes it only where it has the expected value, and answers DIFFERENT
with the flag's value where it has not. An index above 31 or a value that is neither true nor false
is refused with RANGE, and nothing changes (R138, R139). SHOW FLAG writes a flag of index 0 to 31; for
an index past 31 it writes nothing and is reported. A write that changes the flag posts a FLAGS report
(R136, R137). The numbers 1 and 0 for true and false are the model's (log 29). -/
def Obligations.FlagCommandsWriteOneFlag : Prop :=
  (∀ (s : State) (i : Fin 32) (v e : Bool),
    let written : CueUnit := { s.cue with flags := s.cue.flags.set i v }
    let num (b : Bool) : Nat := if b then 1 else 0
    let told (t : State) : Prop :=
      s.cue.flags[i] ≠ v → s.host.reports.length ≤ 40 → Report.state .flags 0 ∈ t.host.reports
    (∀ (f : RxFrame) (rest : List RxFrame), Taken 0x30 s f rest →
        ∃ t, exec (.flagSet (.fit { index := i, value := num v })) s = .next t ∧
          t = { s with host := t.host, cue := written } ∧ told t ∧
          Answered s t f rest .done .done (.flag s.cue.flags[i])) ∧
      (∀ (f : RxFrame) (rest : List RxFrame), Taken 0x31 s f rest →
        (s.cue.flags[i] = e →
            ∃ t, exec
                (.flagExchange (.fit { index := i, expected := num e, value := num v })) s =
                .next t ∧
              t = { s with host := t.host, cue := written } ∧ told t ∧
              Answered s t f rest .done .done (.flag v)) ∧
          (s.cue.flags[i] ≠ e →
            exec (.flagExchange (.fit { index := i, expected := num e, value := num v })) s =
              .next
                { s with
                  host :=
                    replied s.host rest
                      (reply f .qualified .different (.flag s.cue.flags[i])) })) ∧
      ∀ dest index : Byte, s.zone.link = .up → Addressed s dest →
        (index.toNat = i →
            ∃ t, exec (.showFlag dest index v) s = .next t ∧
              t = { s with host := t.host, zone := heard s, cue := written } ∧ told t ∧
              OnlyReports s t) ∧
          (31 < index.toNat →
            ∃ t, exec (.showFlag dest index v) s = .next t ∧
              t = { s with host := t.host, zone := heard s } ∧ OnlyReports s t ∧
              Posted s t (.flagRejected index.toNat v))) ∧
    ∀ (s : State) (f : RxFrame) (rest : List RxFrame) (index expected value : Nat),
      let refused : Out :=
        .next { s with host := replied s.host rest (reply f .invalid .range .empty) }
      (Taken 0x30 s f rest → 31 < index ∨ 1 < value →
          exec (.flagSet (.fit { index := index, value := value })) s = refused) ∧
        (Taken 0x31 s f rest → 31 < index ∨ 1 < expected ∨ 1 < value →
          exec (.flagExchange (.fit { index := index, expected := expected, value := value })) s =
            refused)

/-- A CUE ACK closes the entry of its cue and tag, in either stage; the cue's last outcome stands,
but for a resend, when it becomes ACKED ON RESEND and is reported. A CUE ACK for no entry is counted
as stale and changes nothing else (R131). An acknowledgement timer that runs out sends the frame
once more, and the second time closes the entry with F21 (R130, R132). A pulse that has no time left
turns its output OFF, and one that has runs on (R135; log 2). That the lap stored with ACKED ON RESEND
and UNACKNOWLEDGED is the cue lap as it stands then is the model's choice (log 42), and so is that the
ACKED ON RESEND report carries the cue id and the outcome only (log 49). -/
def Obligations.AcksAndPulsesEnd : Prop :=
  (∀ (s : State) (dest : Byte) (cueId : Half) (tag : Byte), s.zone.link = .up →
      Addressed s dest →
      ((∀ e ∈ s.cue.acks, ¬(e.cueId = cueId.toNat ∧ e.tag = tag)) →
          exec (.cueAck dest cueId tag) s =
            .next
              { s with
                zone := heard s
                cue := { s.cue with staleAcks := min 65535 (s.cue.staleAcks + 1) } }) ∧
        ∀ e, AckOf s cueId.toNat tag e →
          ∃ t, exec (.cueAck dest cueId tag) s = .next t ∧
            t = { s with host := t.host, zone := heard s, cue := t.cue } ∧ OnlyReports s t ∧
            t.cue =
              { s.cue with
                acks := s.cue.acks.filter fun x => !(x.cueId = cueId.toNat && x.tag = tag)
                cues :=
                  if e.sends = 2 then
                    s.cue.cues.map fun c =>
                      if c.id = cueId.toNat then { c with last := some (.ackedOnResend, s.cue.lap) }
                      else c
                  else s.cue.cues } ∧
            (e.sends = 2 → Posted s t (.cue cueId.toNat .ackedOnResend .bare))) ∧
    (∀ (s : State) (id : Nat) (tag : Byte) (e : AckEntry) (n : Nat), AckOf s id tag e →
      e.stage = .waiting n →
      (e.sends = 1 → s.zone.link ≠ .stopped → s.zone.long.length < 16 →
          exec (.ackTimerExpiry id tag) s =
            .next
              { s with
                zone :=
                  { s.zone with
                    long :=
                      s.zone.long ++
                        [.scene
                          { controller := e.controller, number := e.number, cueId := id
                            tag := tag, late := e.late, ack := true, sends := 2 }] }
                cue :=
                  { s.cue with
                    acks :=
                      s.cue.acks.map fun x =>
                        if x.cueId = id ∧ x.tag = tag then { x with sends := 2, stage := .queued }
                        else x } }) ∧
        (e.sends = 2 →
          ∃ t, exec (.ackTimerExpiry id tag) s = .next t ∧
            t = { s with host := t.host, fault := t.fault, cue := t.cue } ∧ OnlyReports s t ∧
            (t.faultRec .f21).latched = true ∧ (t.faultRec .f21).detail = .cue id ∧
            (∀ c, c ≠ .f21 → t.faultRec c = s.faultRec c) ∧
            t.cue =
              { s.cue with
                acks := s.cue.acks.filter fun x => !(x.cueId = id && x.tag = tag)
                cues :=
                  s.cue.cues.map fun c =>
                    if c.id = id then { c with last := some (.unacknowledged, s.cue.lap) }
                    else c })) ∧
    ∀ (s : State) (o : Fin 8),
      (s.cue.outputs[o] = .pulsing 0 →
          exec (.pulseExpiry o) s =
            .next { s with cue := { s.cue with outputs := s.cue.outputs.set o .off } }) ∧
        (s.cue.outputs[o] ≠ .pulsing 0 → exec (.pulseExpiry o) s = .next s)

/-- On a guide sample in HOLD, RUN, CREEP or STOPPING that stays on the cue lap, with the position
known and the cue unit the first to act, every cue from the pointer on whose effective trigger the
front has reached is taken, up to the first not reached; the pointer moves past them and each has an
outcome of this lap (R124, R126, R127). That the cue unit may act first is the sender's choice (log
5). -/
def Obligations.CuesReachedAreTaken : Prop :=
  ∀ (s : State) (g : GuideSample) (order : UnitOrder), s.config.record.state = .ready →
    (order = .cueMotionZone ∨ order = .cueZoneMotion) → g.marker = none →
    (s.mstate = .hold ∨ s.mstate = .run ∨ s.mstate = .creep ∨ s.mstate = .stopping) →
    ∃ t, exec (.guideSample g order) s = .next t ∧
      ((s.guide.est.posState = .located ∨ s.guide.est.posState = .doubt) →
        (t.guide.est.posState = .located ∨ t.guide.est.posState = .doubt) →
        t.guide.est.lap = s.cue.lap →
        let v := s.motion.speed.demand
        let reached :=
          (s.cue.cues.drop s.cue.pointer).takeWhile fun c =>
            c.trigger - (v * c.lead + 500) / 1000 ≤ t.guide.est.front
        t.cue.pointer = s.cue.pointer + reached.length ∧ t.cue.lap = s.cue.lap ∧
          t.cue.cues.map (·.id) = s.cue.cues.map (·.id) ∧
          ∀ i, s.cue.pointer ≤ i → i < s.cue.pointer + reached.length →
            ∃ c o, t.cue.cues[i]? = some c ∧ c.last = some (o, s.cue.lap))

/-! ### Clips -/

/-- CLIP DEFINE makes an EMPTY or BAD entry LOADING where its range lies in sample memory and
overlaps no other clip's (R143, R145); CLIP ERASE makes one EMPTY that no voice plays and that is
not being verified (R146). CLIP DATA that continues the run stages its block, filled with zeros, and
answers the staged blocks and the next offset (R149, R150). The stage idle timer running out commits
the waiting blocks; while it has time left, as after a CLIP DATA that was taken before the expiry, or
stands still, nothing happens (R152; log 2). CLIP SEAL with an empty stage puts the clip in the verify queue, the
first of which is read at once (R154, R155). -/
def Obligations.ClipsAreDefinedStagedAndSealed : Prop :=
  ((∀ (s : State) (f : RxFrame) (rest : List RxFrame) (n : Fin 512) (start length : Nat)
      (loopStart : Option Nat), Taken 0x40 s f rest →
      1 ≤ length → length ≤ 33554432 → start < 131072 →
      start + (length + 255) / 256 ≤ 131072 → (∀ l, loopStart = some l → l < length) →
      (∀ c, s.clip.dir[n] = some c → c.state = .bad) →
      (∀ (m : Fin 512) (c : Clip), m ≠ n → s.clip.dir[m] = some c →
        start + (length + 255) / 256 ≤ c.start ∨ c.start + (c.length + 255) / 256 ≤ start) →
      (∀ o k, s.clip.buffer ≠ .fetching n o k) → (∀ o d, s.clip.buffer ≠ .full n o d) →
      exec
          (.clipDefine
            (.fit { clip := n, start := start, length := length, loopStart := loopStart })) s =
        .next
          { s with
            host := replied s.host rest (reply f .done .done (.number ((length + 255) / 256)))
            clip :=
              { s.clip with
                dir :=
                  s.clip.dir.set n
                    (some
                      { state := .loading, start := start, length := length
                        loopStart := loopStart, crc := none, plays := 0 }) } }) ∧
    ∀ (s : State) (f : RxFrame) (rest : List RxFrame) (n : Fin 512), Taken 0x44 s f rest →
      (s.clip.dir[n] = none →
          exec (.clipErase (.fit n)) s =
            .next { s with host := replied s.host rest (reply f .qualified .already .empty) }) ∧
        ∀ c, s.clip.dir[n] = some c → c.plays = 0 → c.state ≠ .verifying →
          (∀ b ∈ s.clip.stage.blocks, b.clip ≠ n) →
          (∀ o k, s.clip.buffer ≠ .fetching n o k) → (∀ o d, s.clip.buffer ≠ .full n o d) →
          exec (.clipErase (.fit n)) s =
            .next
              { s with
                host := replied s.host rest (reply f .done .done .empty)
                clip :=
                  { s.clip with
                    dir := s.clip.dir.set n none
                    stage :=
                      { s.clip.stage with
                        runClip :=
                          if s.clip.stage.runClip = some n.val then none
                          else s.clip.stage.runClip } } }) ∧
    ((∀ (s : State) (f : RxFrame) (rest : List RxFrame) (n : Fin 512) (c : Clip) (offset : Nat)
      (data : List Byte), Taken 0x41 s f rest →
      s.clip.dir[n] = some c → c.state = .loading → offset < (c.length + 255) / 256 →
      1 ≤ data.length → data.length ≤ 512 →
      (offset + 1 < (c.length + 255) / 256 → data.length = 512) →
      s.clip.stage.runClip = some n.val → s.clip.stage.next = offset →
      s.clip.stage.blocks.length < 8 →
      (s.clip.stage.blocks.filter fun b => !b.committing).length < 3 →
      (∀ o k, s.clip.buffer ≠ .fetching n o k) → (∀ o d, s.clip.buffer ≠ .full n o d) →
      exec (.clipData (.fit { clip := n, offset := offset, data := data })) s =
        .next
          { s with
            host :=
              replied s.host rest
                (reply f .done .done (.staged (s.clip.stage.blocks.length + 1) (offset + 1)))
            clip :=
              { s.clip with
                stage :=
                  { blocks :=
                      s.clip.stage.blocks ++
                        [{ clip := n, offset := offset
                           data := data ++ List.replicate (512 - data.length) 0
                           committing := false }]
                    runClip := some n.val, next := offset + 1
                    idle := .running s.lim.stageIdle } } }) ∧
    (∀ s : State, s.clip.stage.idle ≠ .running 0 → exec .stageIdleExpiry s = .next s) ∧
    (∀ (s : State) (b : StagedBlock) (more : List StagedBlock) (c : Clip) (n : Fin 512),
      s.clip.stage.idle = .running 0 →
      (s.clip.stage.blocks.filter fun x => !x.committing) = b :: more → more.length ≤ 2 →
      b.clip = n → s.clip.dir[n] = some c →
      exec .stageIdleExpiry s =
        .next
          { s with
            clip :=
              { s.clip with
                stage :=
                  { s.clip.stage with
                    blocks := s.clip.stage.blocks.map fun x => { x with committing := true }
                    idle := .stopped }
                arb :=
                  { s.clip.arb with
                    commits :=
                      s.clip.arb.commits ++
                        [{ clip := n, offset := b.offset, mem := c.start + b.offset
                           data := b.data :: more.map (·.data) }] } } }) ∧
    ∀ (s : State) (f : RxFrame) (rest : List RxFrame) (n : Fin 512) (c : Clip) (crc : Code),
      Taken 0x42 s f rest → s.clip.dir[n] = some c → c.state = .loading →
      s.clip.verify.queue.length < 4 → s.clip.stage.blocks = [] →
      ∃ t, exec (.clipSeal (.fit { clip := n, crc := crc })) s = .next t ∧
        t = { s with host := t.host, clip := t.clip } ∧
        Answered s t f rest .done .done (.number (s.clip.verify.queue.length + 1)) ∧
        t.clip.dir = s.clip.dir.set n (some { c with state := .verifying, crc := some crc }) ∧
        t.clip.verify.queue = s.clip.verify.queue ++ [n.val] ∧ t.clip.mem = s.clip.mem ∧
        t.clip.stage.runClip =
          (if s.clip.stage.runClip = some n.val then none else s.clip.stage.runClip) ∧
        (s.clip.verify.queue = [] →
          t.clip.verify.next = 0 ∧ t.clip.verify.crc = 0xFFFFFFFF ∧
            t.clip.arb.verify = some (n.val, c.start)))

/-- CLIP READ is answered from the read-back buffer when that holds its blocks; with the buffer
empty its blocks are asked of memory, and the reply waits for their burst, which carries the bytes
of sample memory (R157, R158). A burst reads at its completion (log 27), and one past the last block
of sample memory stops the run (log 23). -/
def Obligations.ClipReadIsAnswered : Prop :=
  (∀ (s : State) (f : RxFrame) (rest : List RxFrame) (n : Fin 512) (c : Clip)
      (offset count o : Nat) (data : List (List Byte)), Taken 0x43 s f rest →
      s.clip.dir[n] = some c → 1 ≤ count → count ≤ 2 → offset + count ≤ (c.length + 255) / 256 →
      (∀ b ∈ s.clip.stage.blocks, b.clip ≠ n) →
      (s.clip.buffer = .full n o data → o ≤ offset → offset + count ≤ o + data.length →
          ∃ t, exec (.clipRead (.fit { clip := n, offset := offset, count := count })) s =
              .next t ∧
            t = { s with host := t.host, clip := t.clip } ∧ t.clip.mem = s.clip.mem ∧
            t.clip.dir = s.clip.dir ∧ t.clip.stage = s.clip.stage ∧
            Answered s t f rest .done .done
              (.read n (some c.state) offset count true ((data.drop (offset - o)).take count))) ∧
        (s.clip.buffer = .empty →
          ∃ t, exec (.clipRead (.fit { clip := n, offset := offset, count := count })) s =
              .next t ∧
            t =
              { s with
                host :=
                  { s.host with rxQueue := rest, held := some (.read f n offset count false) }
                clip := t.clip } ∧
            t.clip.mem = s.clip.mem ∧ t.clip.dir = s.clip.dir ∧ t.clip.stage = s.clip.stage ∧
            t.clip.arb.readBack =
              some
                { clip := n, offset := offset, mem := c.start + offset, count := count
                  prefetch := false })) ∧
    ∀ (s : State) (f : RxFrame) (n : Fin 512) (c : Clip) (offset count : Nat) (r : ReadReq),
      s.clip.arb.port = some { burst := .readBack r, dropped := false } → r.prefetch = false →
      s.host.held = some (.read f n offset count false) → s.clip.dir[n] = some c →
      (131072 < r.mem + r.count → exec .readBackBurstComplete s = .fault .memoryAddress) ∧
        (r.mem + r.count ≤ 131072 →
          ∃ t, exec .readBackBurstComplete s = .next t ∧
            t = { s with host := t.host, clip := t.clip } ∧ t.clip.mem = s.clip.mem ∧
            t.clip.arb.port = none ∧
            t.host =
              { replied s.host s.host.rxQueue
                  (reply f .done .done
                    (.read n (some c.state) offset count false
                      ((List.range r.count).map fun i =>
                        (List.range 512).map fun j =>
                          Memory.read s.clip.mem ((r.mem + i) * 512 + j)))) with
                held := none })

/-- The memory port serves one burst at a time: refills first, the voice after the last one served
first, then commits, read-backs and verify reads (R159). -/
def Obligations.ArbiterServesInOrder : Prop :=
  ∀ s : State,
    (s.clip.arb.port ≠ none → exec .arbiterChoice s = .next s) ∧
      (s.clip.arb.port = none →
        let chosen (a : Arbiter) : Out := .next { s with clip := { s.clip with arb := a } }
        let rank (v : Fin 8) : Nat := (v.val + 7 - s.clip.arb.lastVoice.val) % 8
        (∀ (v : Fin 8) (r : RefillReq), s.clip.arb.refills[v] = some r →
            (∀ u : Fin 8, s.clip.arb.refills[u] ≠ none → rank v ≤ rank u) →
            exec .arbiterChoice s =
              chosen
                { s.clip.arb with
                  refills := s.clip.arb.refills.set v none, lastVoice := v
                  port := some { burst := .refill v r, dropped := false } }) ∧
          ((∀ v : Fin 8, s.clip.arb.refills[v] = none) →
            (∀ c rest, s.clip.arb.commits = c :: rest →
                exec .arbiterChoice s =
                  chosen
                    { s.clip.arb with
                      commits := rest, port := some { burst := .commit c, dropped := false } }) ∧
              (s.clip.arb.commits = [] →
                (∀ r, s.clip.arb.readBack = some r →
                    exec .arbiterChoice s =
                      chosen
                        { s.clip.arb with
                          readBack := none
                          port := some { burst := .readBack r, dropped := false } }) ∧
                  (s.clip.arb.readBack = none →
                    (∀ n m, s.clip.arb.verify = some (n, m) →
                        exec .arbiterChoice s =
                          chosen
                            { s.clip.arb with
                              verify := none
                              port := some { burst := .verify n m, dropped := false } }) ∧
                      (s.clip.arb.verify = none → exec .arbiterChoice s = .next s)))))

/-- A commit burst writes its blocks to sample memory and nothing else of it, and its blocks leave
the stage; a burst that names a block past 131,071 stops (R142, R153, R160). A verified block feeds
the CRC-32; after the last block the clip is READY when the CRC is the sealed one, else BAD with
F17, and the next clip of the queue is verified from its start (R155, R156). That a burst acts at its completion is
log 27's, and the stop past the last block log 23's. -/
def Obligations.CommitAndVerifyBurstsComplete : Prop :=
  (∀ (s : State) (r : CommitReq) (dropped : Bool), s.MemoryCanonical →
    s.clip.arb.port = some { burst := .commit r, dropped := dropped } →
    (131072 < r.mem + r.data.length → exec .commitBurstComplete s = .fault .memoryAddress) ∧
      (r.mem + r.data.length ≤ 131072 → (∀ b ∈ r.data, b.length = 512) →
        ∃ t, exec .commitBurstComplete s = .next t ∧ t = { s with host := t.host, clip := t.clip } ∧
          t.clip.arb.port = none ∧ t.clip.busy = s.clip.busy ∧
          (∀ (i j : Nat) (b : List Byte) (x : Byte), r.data[i]? = some b → b[j]? = some x →
            Memory.read t.clip.mem ((r.mem + i) * 512 + j) = x) ∧
          (∀ a, a < r.mem * 512 ∨ (r.mem + r.data.length) * 512 ≤ a →
            Memory.read t.clip.mem a = Memory.read s.clip.mem a) ∧
          (dropped = false → s.host.held = none →
            t.host = s.host ∧ t.clip.dir = s.clip.dir ∧
              t.clip.stage.blocks =
                s.clip.stage.blocks.filter fun b =>
                  !(b.committing && b.clip = r.clip && r.offset ≤ b.offset &&
                    b.offset < r.offset + r.data.length)))) ∧
    (∀ (s : State) (n : Fin 512) (m : Nat) (c : Clip) (queue : List Nat),
    s.clip.arb.port = some { burst := .verify n m, dropped := false } →
    s.clip.dir[n] = some c → s.clip.verify.queue = n.val :: queue →
    let block := (List.range 512).map fun j => Memory.read s.clip.mem (m * 512 + j)
    (131071 < m → exec .verifyBlockComplete s = .fault .memoryAddress) ∧
      (m ≤ 131071 → s.clip.verify.next + 1 < (c.length + 255) / 256 →
        exec .verifyBlockComplete s =
          .next
            { s with
              clip :=
                { s.clip with
                  verify :=
                    { s.clip.verify with
                      next := s.clip.verify.next + 1
                      crc := crc32Feed s.clip.verify.crc block }
                  arb :=
                    { s.clip.arb with
                      port := none, verify := some (n.val, c.start + (s.clip.verify.next + 1)) } } }) ∧
      (m ≤ 131071 → 1 ≤ c.length → s.clip.verify.next + 1 = (c.length + 255) / 256 →
        let computed : Code :=
          crc32Feed s.clip.verify.crc (block.take (2 * (c.length - 256 * s.clip.verify.next))) ^^^
            0xFFFFFFFF
        ∃ t, exec .verifyBlockComplete s = .next t ∧
          t = { s with host := t.host, clip := t.clip, fault := t.fault } ∧ OnlyReports s t ∧
          t.clip.mem = s.clip.mem ∧ t.clip.verify.queue = queue ∧ t.clip.arb.port = none ∧
          t.clip.dir =
            s.clip.dir.set n
              (some { c with state := if c.crc = some computed then .ready else .bad }) ∧
          (queue = [] → t.clip.arb.verify = none) ∧
          (∀ (n' : Fin 512) (c' : Clip) (rest : List Nat), queue = n'.val :: rest →
            s.clip.dir[n'] = some c' →
            t.clip.verify.next = 0 ∧ t.clip.verify.crc = 0xFFFFFFFF ∧
              t.clip.arb.verify = some (n'.val, c'.start)) ∧
          (c.crc = some computed → t.fault = s.fault) ∧
          (c.crc ≠ some computed →
            (t.faultRec .f17).latched = true ∧
              (t.faultRec .f17).detail = .clipCrc n computed (c.crc.getD 0))))

/-! ### Voices -/

/-- VOICE START on an IDLE voice with a READY clip makes the voice PRIMING with the start's fields,
counts the play and asks for its first blocks; on a PLAYING voice it fades that voice out and waits
(R165 to R167, R169). VOICE STOP fades a PLAYING voice out, or ends one that sounds nothing at once
(R168, R173). VOICE GAIN sets the target and the step (R174). MIX STATUS sets the clip counters to 0
(R181). A refill joins the ring of its voice, and one that names a block past 131,071 stops (R142,
R160, R169). That a refill reads sample memory as it completes is log 27's, that stop is log 23's, and
the step kept with a ramp of 0 or the target reached is log 44's. -/
def Obligations.VoiceRequestsAndRefills : Prop :=
  (∀ (s : State) (f : RxFrame) (rest : List RxFrame) (v : Fin 8) (n : Fin 512) (c : Clip)
      (gain : Nat) (routes : Routes) (hold : HoldPolicy) (loop duckable : Bool),
      Taken 0x48 s f rest → gain ≤ 4096 → (∀ o : Fin 4, routes[o] ≤ 256) →
      (v = 7 → s.config.committedMap.clip = none) → s.clip.dir[n] = some c → c.state = .ready →
      let w := s.voice.voices[v]
      let start : StartRec :=
        { clip := n, gain := gain, routes := routes, hold := hold, loop := loop
          duckable := duckable, announce := false, source := .host }
      let request : Instr :=
        .voiceStart
          (.fit
            { voice := v, clip := n, gain := gain, routes := routes, hold := some hold
              loop := loop, duckable := duckable })
      (w.state = .idle →
          ∃ t, exec request s = .next t ∧ Answered s t f rest .done .started .empty ∧
            t = { s with host := t.host, voice := t.voice, clip := t.clip } ∧
            t.voice = { s.voice with voices := s.voice.voices.set v t.voice.voices[v] } ∧
            t.voice.voices[v] =
              { w with
                state := .priming, clip := some n.val, start := c.start, length := c.length
                blocks := (c.length + 255) / 256, loopStart := c.loopStart, pos := 0
                gain := gain * 256, target := gain * 256, step := 0, routes := routes
                hold := hold, loop := loop, duckable := duckable, announce := false
                source := some .host, pausePending := hold = .pause && s.voice.paused
                sounding := false, ring := [], cursor := t.voice.voices[v].cursor
                refill := true, pend := none, underrun := false, underruns := 0 } ∧
            t.clip =
              { s.clip with
                dir := s.clip.dir.set n (some { c with plays := c.plays + 1 })
                arb :=
                  { s.clip.arb with
                    refills :=
                      s.clip.arb.refills.set v
                        (some
                          { offset := 0, mem := c.start
                            count := min 2 ((c.length + 255) / 256) }) } }) ∧
        (w.state = .playing → 0 < w.gain →
          ∃ t, exec request s = .next t ∧ Answered s t f rest .done .pending .empty ∧
            t = { s with host := t.host, voice := t.voice } ∧
            t.voice =
              { s.voice with
                voices :=
                  s.voice.voices.set v
                    { w with
                      state := .releasing, target := 0, step := max 1 ((w.gain + 63) / 64)
                      sounding := true, pend := some start } })) ∧
    (∀ (s : State) (f : RxFrame) (rest : List RxFrame) (v : Fin 8) (fade : Nat),
      Taken 0x49 s f rest → fade ≤ 10000 →
      let w := s.voice.voices[v]
      (w.state = .idle →
          exec (.voiceStop (.fit { voice := v, fade := fade })) s =
            .next { s with host := replied s.host rest (reply f .qualified .already .empty) }) ∧
        (w.state = .playing → 0 < w.gain → 0 < fade →
          ∃ t, exec (.voiceStop (.fit { voice := v, fade := fade })) s = .next t ∧
            Answered s t f rest .done .done .empty ∧
            t = { s with host := t.host, voice := t.voice } ∧
            t.voice =
              { s.voice with
                voices :=
                  s.voice.voices.set v
                    { w with
                      state := .releasing, sounding := true, target := 0
                      step := max 1 ((w.gain + fade * 48 - 1) / (fade * 48)) } }) ∧
        (w.state = .priming ∨ w.state = .paused ∨ w.state = .playing ∧ fade = 0 → w.pend = none →
          ∃ t, exec (.voiceStop (.fit { voice := v, fade := fade })) s = .next t ∧
            Answered s t f rest .done .done .empty ∧
            t = { s with host := t.host, voice := t.voice, clip := t.clip } ∧
            t.voice = { s.voice with voices := s.voice.voices.set v t.voice.voices[v] } ∧
            t.voice.voices[v].state = .idle ∧ t.voice.voices[v].clip = none ∧
            t.voice.voices[v].ring = [] ∧ t.voice.voices[v].gain = 0 ∧
            t.clip.arb.refills[v] = none ∧ t.clip.mem = s.clip.mem ∧
            ∀ (n : Fin 512) (c : Clip), w.clip = some n.val → s.clip.dir[n] = some c →
              t.clip.dir = s.clip.dir.set n (some { c with plays := c.plays - 1 }))) ∧
    (∀ (s : State) (f : RxFrame) (rest : List RxFrame) (v : Fin 8) (target ramp : Nat),
      Taken 0x4A s f rest → target ≤ 4096 → ramp ≤ 10000 →
      let w := s.voice.voices[v]
      (w.state = .priming ∨ w.state = .playing ∨ w.state = .paused →
          ∃ w' : Voice, exec (.voiceGain (.fit { voice := v, target := target, ramp := ramp })) s =
              .next
                { s with
                  voice := { s.voice with voices := s.voice.voices.set v w' }
                  host := replied s.host rest (reply f .done .done .empty) } ∧
            w' =
              if ramp = 0 ∨ w.gain = target * 256 then
                { w with target := target * 256, gain := target * 256 }
              else
                { w with
                  target := target * 256
                  step :=
                    max 1
                      ((max w.gain (target * 256) - min w.gain (target * 256) + ramp * 48 - 1) /
                        (ramp * 48)) }) ∧
        (w.state = .idle ∨ w.state = .releasing →
          exec (.voiceGain (.fit { voice := v, target := target, ramp := ramp })) s =
            .next { s with host := replied s.host rest (reply f .refused .state .empty) })) ∧
    (∀ (s : State) (f : RxFrame) (rest : List RxFrame), Taken 0x4B s f rest →
      ∃ b : MixStatusBody, exec (.mixStatus (.fit ())) s =
          .next
            { s with
              voice := { s.voice with clips := Vector.replicate 4 0 }
              host := replied s.host rest (reply f .done .done (.mixStatus b)) } ∧
        b.voices = s.voice.voices ∧ b.clips = s.voice.clips ∧ b.masters = s.voice.masters ∧
        b.duck = s.voice.duck ∧ b.paused = s.voice.paused) ∧
    ∀ (s : State) (v : Fin 8) (r : RefillReq),
      s.clip.arb.port = some { burst := .refill v r, dropped := false } →
      let w := s.voice.voices[v]
      (131072 < r.mem + r.count → exec .refillComplete s = .fault .memoryAddress) ∧
        (r.mem + r.count ≤ 131072 →
          ∃ t, exec .refillComplete s = .next t ∧
            t = { s with voice := t.voice, clip := { s.clip with arb := t.clip.arb } } ∧
            t.voice = { s.voice with voices := s.voice.voices.set v t.voice.voices[v] } ∧
            t.clip.arb.port = none ∧
            t.voice.voices[v].ring =
              w.ring ++
                ((List.range r.count).map fun i =>
                  (List.range 512).map fun j =>
                    Memory.read s.clip.mem ((r.mem + i) * 512 + j)) ∧
            (w.state = .priming → 2 ≤ w.ring.length + r.count →
              t.voice.voices[v].state = (if w.pausePending then .paused else .playing)) ∧
            (w.state ≠ .priming → t.voice.voices[v].state = w.state))

/-- A sample tick mixes one sample for each output: over the voices that draw one, the sum of
sample, effective gain and route gain, set to 16 bits after each of the two stages; each setting
counts (R171, R175, R177 to R180). A voice that goes on within a block moves one sample on, and its
gain one step (R171, R174); an IDLE voice is as it was. -/
def Obligations.SampleTickMixesDrawnSamples : Prop :=
  ∀ s : State,
    let ducked : Bool :=
      (s.voice.voices[7].state ≠ .idle && s.voice.voices[7].announce) || s.voice.alarm ||
        (s.voice.paused && s.voice.voices.toList.any fun w => w.state ≠ .idle && w.hold = .duck)
    let draws (w : Voice) : Bool :=
      (w.state = .playing && !(w.pausePending && w.pos % 256 = 0 && w.ring ≠ [])) ||
        (w.state = .releasing && w.sounding)
    let sample (w : Voice) : Int :=
      match w.ring with
      | [] => 0
      | b :: _ =>
        (b.getD (2 * (w.pos % 256) + 1) 0 ++ b.getD (2 * (w.pos % 256)) 0 : BitVec 16).toInt
    let gain (w : Voice) : Nat :=
      if ducked && w.duckable then (w.gain / 256 * s.voice.duck + 2048) / 4096 else w.gain / 256
    let sum (o : Fin 4) : Int :=
      (s.voice.voices.toList.map fun w =>
        if draws w then sample w * gain w * w.routes[o] else 0).sum
    let cut (x : Int) : Int := max (-32768) (min 32767 x)
    let one (o : Fin 4) : Int := (sum o + 2 ^ 19) / 2 ^ 20
    let two (o : Fin 4) : Int := (cut (one o) * s.voice.masters[o] + 128) / 256
    ∃ t, exec .sampleTick s = .next t ∧
      t =
        { s with
          host := t.host, fault := t.fault, voice := t.voice, clip := t.clip, cue := t.cue } ∧
      OnlyReports s t ∧ t.clip.mem = s.clip.mem ∧ t.voice.masters = s.voice.masters ∧
      (∀ o : Fin 4,
        t.voice.frame[o] = BitVec.ofInt 16 (cut (two o)) ∧
          t.voice.clips[o] =
            min 65535
              (s.voice.clips[o] + (if cut (one o) = one o then 0 else 1) +
                if cut (two o) = two o then 0 else 1)) ∧
      ∀ v : Fin 8,
        let w := s.voice.voices[v]
        (w.state = .idle → t.voice.voices[v] = w) ∧
          (w.state = .playing → draws w = true → w.ring ≠ [] → (w.pos + 1) % 256 ≠ 0 →
            w.pos + 1 ≠ w.length →
            t.voice.voices[v] =
              { w with
                pos := w.pos + 1
                gain :=
                  if w.gain < w.target then min (w.gain + w.step) w.target
                  else max (w.gain - w.step) w.target })
end

