-- ==== Sys2Proof/Laws/State.lean ====
section
/-! SUPPORT. The update lemmas of State: what each setter of one block's record leaves and sets, and
what the derived views read after it. -/

namespace Sys2Proof.Machine

variable (s : State)

@[simp] theorem State.setPending_pending (x : List Instr) : (s.setPending x).pending = x := rfl
@[simp] theorem State.setPending_config (x : List Instr) : (s.setPending x).config = s.config := rfl
@[simp] theorem State.setPending_guide (x : List Instr) : (s.setPending x).guide = s.guide := rfl
@[simp] theorem State.setPending_motion (x : List Instr) : (s.setPending x).motion = s.motion := rfl
@[simp] theorem State.setPending_zone (x : List Instr) : (s.setPending x).zone = s.zone := rfl
@[simp] theorem State.setPending_seat (x : List Instr) : (s.setPending x).seat = s.seat := rfl
@[simp] theorem State.setPending_cue (x : List Instr) : (s.setPending x).cue = s.cue := rfl
@[simp] theorem State.setPending_clip (x : List Instr) : (s.setPending x).clip = s.clip := rfl
@[simp] theorem State.setPending_voice (x : List Instr) : (s.setPending x).voice = s.voice := rfl
@[simp] theorem State.setPending_fault (x : List Instr) : (s.setPending x).fault = s.fault := rfl
@[simp] theorem State.setPending_host (x : List Instr) : (s.setPending x).host = s.host := rfl
@[simp] theorem State.setPending_lim (x : List Instr) : (s.setPending x).lim = s.lim := rfl
@[simp] theorem State.setPending_isReady (x : List Instr) : (s.setPending x).isReady = s.isReady := rfl
@[simp] theorem State.setPending_setPending (x y : List Instr) : (s.setPending x).setPending y = s.setPending y := rfl

@[simp] theorem State.setConfig_pending (x : ConfigUnit) : (s.setConfig x).pending = s.pending := rfl
@[simp] theorem State.setConfig_config (x : ConfigUnit) : (s.setConfig x).config = x := rfl
@[simp] theorem State.setConfig_guide (x : ConfigUnit) : (s.setConfig x).guide = s.guide := rfl
@[simp] theorem State.setConfig_motion (x : ConfigUnit) : (s.setConfig x).motion = s.motion := rfl
@[simp] theorem State.setConfig_zone (x : ConfigUnit) : (s.setConfig x).zone = s.zone := rfl
@[simp] theorem State.setConfig_seat (x : ConfigUnit) : (s.setConfig x).seat = s.seat := rfl
@[simp] theorem State.setConfig_cue (x : ConfigUnit) : (s.setConfig x).cue = s.cue := rfl
@[simp] theorem State.setConfig_clip (x : ConfigUnit) : (s.setConfig x).clip = s.clip := rfl
@[simp] theorem State.setConfig_voice (x : ConfigUnit) : (s.setConfig x).voice = s.voice := rfl
@[simp] theorem State.setConfig_fault (x : ConfigUnit) : (s.setConfig x).fault = s.fault := rfl
@[simp] theorem State.setConfig_host (x : ConfigUnit) : (s.setConfig x).host = s.host := rfl
@[simp] theorem State.setConfig_setConfig (x y : ConfigUnit) : (s.setConfig x).setConfig y = s.setConfig y := rfl

@[simp] theorem State.setGuide_pending (x : Guidance) : (s.setGuide x).pending = s.pending := rfl
@[simp] theorem State.setGuide_config (x : Guidance) : (s.setGuide x).config = s.config := rfl
@[simp] theorem State.setGuide_guide (x : Guidance) : (s.setGuide x).guide = x := rfl
@[simp] theorem State.setGuide_motion (x : Guidance) : (s.setGuide x).motion = s.motion := rfl
@[simp] theorem State.setGuide_zone (x : Guidance) : (s.setGuide x).zone = s.zone := rfl
@[simp] theorem State.setGuide_seat (x : Guidance) : (s.setGuide x).seat = s.seat := rfl
@[simp] theorem State.setGuide_cue (x : Guidance) : (s.setGuide x).cue = s.cue := rfl
@[simp] theorem State.setGuide_clip (x : Guidance) : (s.setGuide x).clip = s.clip := rfl
@[simp] theorem State.setGuide_voice (x : Guidance) : (s.setGuide x).voice = s.voice := rfl
@[simp] theorem State.setGuide_fault (x : Guidance) : (s.setGuide x).fault = s.fault := rfl
@[simp] theorem State.setGuide_host (x : Guidance) : (s.setGuide x).host = s.host := rfl
@[simp] theorem State.setGuide_lim (x : Guidance) : (s.setGuide x).lim = s.lim := rfl
@[simp] theorem State.setGuide_isReady (x : Guidance) : (s.setGuide x).isReady = s.isReady := rfl
@[simp] theorem State.setGuide_setGuide (x y : Guidance) : (s.setGuide x).setGuide y = s.setGuide y := rfl

@[simp] theorem State.setMotion_pending (x : Motion) : (s.setMotion x).pending = s.pending := rfl
@[simp] theorem State.setMotion_config (x : Motion) : (s.setMotion x).config = s.config := rfl
@[simp] theorem State.setMotion_guide (x : Motion) : (s.setMotion x).guide = s.guide := rfl
@[simp] theorem State.setMotion_motion (x : Motion) : (s.setMotion x).motion = x := rfl
@[simp] theorem State.setMotion_zone (x : Motion) : (s.setMotion x).zone = s.zone := rfl
@[simp] theorem State.setMotion_seat (x : Motion) : (s.setMotion x).seat = s.seat := rfl
@[simp] theorem State.setMotion_cue (x : Motion) : (s.setMotion x).cue = s.cue := rfl
@[simp] theorem State.setMotion_clip (x : Motion) : (s.setMotion x).clip = s.clip := rfl
@[simp] theorem State.setMotion_voice (x : Motion) : (s.setMotion x).voice = s.voice := rfl
@[simp] theorem State.setMotion_fault (x : Motion) : (s.setMotion x).fault = s.fault := rfl
@[simp] theorem State.setMotion_host (x : Motion) : (s.setMotion x).host = s.host := rfl
@[simp] theorem State.setMotion_lim (x : Motion) : (s.setMotion x).lim = s.lim := rfl
@[simp] theorem State.setMotion_isReady (x : Motion) : (s.setMotion x).isReady = s.isReady := rfl
@[simp] theorem State.setMotion_setMotion (x y : Motion) : (s.setMotion x).setMotion y = s.setMotion y := rfl

@[simp] theorem State.setZone_pending (x : ZoneUnit) : (s.setZone x).pending = s.pending := rfl
@[simp] theorem State.setZone_config (x : ZoneUnit) : (s.setZone x).config = s.config := rfl
@[simp] theorem State.setZone_guide (x : ZoneUnit) : (s.setZone x).guide = s.guide := rfl
@[simp] theorem State.setZone_motion (x : ZoneUnit) : (s.setZone x).motion = s.motion := rfl
@[simp] theorem State.setZone_zone (x : ZoneUnit) : (s.setZone x).zone = x := rfl
@[simp] theorem State.setZone_seat (x : ZoneUnit) : (s.setZone x).seat = s.seat := rfl
@[simp] theorem State.setZone_cue (x : ZoneUnit) : (s.setZone x).cue = s.cue := rfl
@[simp] theorem State.setZone_clip (x : ZoneUnit) : (s.setZone x).clip = s.clip := rfl
@[simp] theorem State.setZone_voice (x : ZoneUnit) : (s.setZone x).voice = s.voice := rfl
@[simp] theorem State.setZone_fault (x : ZoneUnit) : (s.setZone x).fault = s.fault := rfl
@[simp] theorem State.setZone_host (x : ZoneUnit) : (s.setZone x).host = s.host := rfl
@[simp] theorem State.setZone_lim (x : ZoneUnit) : (s.setZone x).lim = s.lim := rfl
@[simp] theorem State.setZone_isReady (x : ZoneUnit) : (s.setZone x).isReady = s.isReady := rfl
@[simp] theorem State.setZone_setZone (x y : ZoneUnit) : (s.setZone x).setZone y = s.setZone y := rfl

@[simp] theorem State.setSeat_pending (x : SeatUnit) : (s.setSeat x).pending = s.pending := rfl
@[simp] theorem State.setSeat_config (x : SeatUnit) : (s.setSeat x).config = s.config := rfl
@[simp] theorem State.setSeat_guide (x : SeatUnit) : (s.setSeat x).guide = s.guide := rfl
@[simp] theorem State.setSeat_motion (x : SeatUnit) : (s.setSeat x).motion = s.motion := rfl
@[simp] theorem State.setSeat_zone (x : SeatUnit) : (s.setSeat x).zone = s.zone := rfl
@[simp] theorem State.setSeat_seat (x : SeatUnit) : (s.setSeat x).seat = x := rfl
@[simp] theorem State.setSeat_cue (x : SeatUnit) : (s.setSeat x).cue = s.cue := rfl
@[simp] theorem State.setSeat_clip (x : SeatUnit) : (s.setSeat x).clip = s.clip := rfl
@[simp] theorem State.setSeat_voice (x : SeatUnit) : (s.setSeat x).voice = s.voice := rfl
@[simp] theorem State.setSeat_fault (x : SeatUnit) : (s.setSeat x).fault = s.fault := rfl
@[simp] theorem State.setSeat_host (x : SeatUnit) : (s.setSeat x).host = s.host := rfl
@[simp] theorem State.setSeat_lim (x : SeatUnit) : (s.setSeat x).lim = s.lim := rfl
@[simp] theorem State.setSeat_isReady (x : SeatUnit) : (s.setSeat x).isReady = s.isReady := rfl
@[simp] theorem State.setSeat_setSeat (x y : SeatUnit) : (s.setSeat x).setSeat y = s.setSeat y := rfl

@[simp] theorem State.setCue_pending (x : CueUnit) : (s.setCue x).pending = s.pending := rfl
@[simp] theorem State.setCue_config (x : CueUnit) : (s.setCue x).config = s.config := rfl
@[simp] theorem State.setCue_guide (x : CueUnit) : (s.setCue x).guide = s.guide := rfl
@[simp] theorem State.setCue_motion (x : CueUnit) : (s.setCue x).motion = s.motion := rfl
@[simp] theorem State.setCue_zone (x : CueUnit) : (s.setCue x).zone = s.zone := rfl
@[simp] theorem State.setCue_seat (x : CueUnit) : (s.setCue x).seat = s.seat := rfl
@[simp] theorem State.setCue_cue (x : CueUnit) : (s.setCue x).cue = x := rfl
@[simp] theorem State.setCue_clip (x : CueUnit) : (s.setCue x).clip = s.clip := rfl
@[simp] theorem State.setCue_voice (x : CueUnit) : (s.setCue x).voice = s.voice := rfl
@[simp] theorem State.setCue_fault (x : CueUnit) : (s.setCue x).fault = s.fault := rfl
@[simp] theorem State.setCue_host (x : CueUnit) : (s.setCue x).host = s.host := rfl
@[simp] theorem State.setCue_lim (x : CueUnit) : (s.setCue x).lim = s.lim := rfl
@[simp] theorem State.setCue_isReady (x : CueUnit) : (s.setCue x).isReady = s.isReady := rfl
@[simp] theorem State.setCue_setCue (x y : CueUnit) : (s.setCue x).setCue y = s.setCue y := rfl

@[simp] theorem State.setClip_pending (x : ClipStore) : (s.setClip x).pending = s.pending := rfl
@[simp] theorem State.setClip_config (x : ClipStore) : (s.setClip x).config = s.config := rfl
@[simp] theorem State.setClip_guide (x : ClipStore) : (s.setClip x).guide = s.guide := rfl
@[simp] theorem State.setClip_motion (x : ClipStore) : (s.setClip x).motion = s.motion := rfl
@[simp] theorem State.setClip_zone (x : ClipStore) : (s.setClip x).zone = s.zone := rfl
@[simp] theorem State.setClip_seat (x : ClipStore) : (s.setClip x).seat = s.seat := rfl
@[simp] theorem State.setClip_cue (x : ClipStore) : (s.setClip x).cue = s.cue := rfl
@[simp] theorem State.setClip_clip (x : ClipStore) : (s.setClip x).clip = x := rfl
@[simp] theorem State.setClip_voice (x : ClipStore) : (s.setClip x).voice = s.voice := rfl
@[simp] theorem State.setClip_fault (x : ClipStore) : (s.setClip x).fault = s.fault := rfl
@[simp] theorem State.setClip_host (x : ClipStore) : (s.setClip x).host = s.host := rfl
@[simp] theorem State.setClip_lim (x : ClipStore) : (s.setClip x).lim = s.lim := rfl
@[simp] theorem State.setClip_isReady (x : ClipStore) : (s.setClip x).isReady = s.isReady := rfl
@[simp] theorem State.setClip_setClip (x y : ClipStore) : (s.setClip x).setClip y = s.setClip y := rfl

@[simp] theorem State.setVoice_pending (x : VoiceEngine) : (s.setVoice x).pending = s.pending := rfl
@[simp] theorem State.setVoice_config (x : VoiceEngine) : (s.setVoice x).config = s.config := rfl
@[simp] theorem State.setVoice_guide (x : VoiceEngine) : (s.setVoice x).guide = s.guide := rfl
@[simp] theorem State.setVoice_motion (x : VoiceEngine) : (s.setVoice x).motion = s.motion := rfl
@[simp] theorem State.setVoice_zone (x : VoiceEngine) : (s.setVoice x).zone = s.zone := rfl
@[simp] theorem State.setVoice_seat (x : VoiceEngine) : (s.setVoice x).seat = s.seat := rfl
@[simp] theorem State.setVoice_cue (x : VoiceEngine) : (s.setVoice x).cue = s.cue := rfl
@[simp] theorem State.setVoice_clip (x : VoiceEngine) : (s.setVoice x).clip = s.clip := rfl
@[simp] theorem State.setVoice_voice (x : VoiceEngine) : (s.setVoice x).voice = x := rfl
@[simp] theorem State.setVoice_fault (x : VoiceEngine) : (s.setVoice x).fault = s.fault := rfl
@[simp] theorem State.setVoice_host (x : VoiceEngine) : (s.setVoice x).host = s.host := rfl
@[simp] theorem State.setVoice_lim (x : VoiceEngine) : (s.setVoice x).lim = s.lim := rfl
@[simp] theorem State.setVoice_isReady (x : VoiceEngine) : (s.setVoice x).isReady = s.isReady := rfl
@[simp] theorem State.setVoice_setVoice (x y : VoiceEngine) : (s.setVoice x).setVoice y = s.setVoice y := rfl

@[simp] theorem State.setFault_pending (x : FaultUnit) : (s.setFault x).pending = s.pending := rfl
@[simp] theorem State.setFault_config (x : FaultUnit) : (s.setFault x).config = s.config := rfl
@[simp] theorem State.setFault_guide (x : FaultUnit) : (s.setFault x).guide = s.guide := rfl
@[simp] theorem State.setFault_motion (x : FaultUnit) : (s.setFault x).motion = s.motion := rfl
@[simp] theorem State.setFault_zone (x : FaultUnit) : (s.setFault x).zone = s.zone := rfl
@[simp] theorem State.setFault_seat (x : FaultUnit) : (s.setFault x).seat = s.seat := rfl
@[simp] theorem State.setFault_cue (x : FaultUnit) : (s.setFault x).cue = s.cue := rfl
@[simp] theorem State.setFault_clip (x : FaultUnit) : (s.setFault x).clip = s.clip := rfl
@[simp] theorem State.setFault_voice (x : FaultUnit) : (s.setFault x).voice = s.voice := rfl
@[simp] theorem State.setFault_fault (x : FaultUnit) : (s.setFault x).fault = x := rfl
@[simp] theorem State.setFault_host (x : FaultUnit) : (s.setFault x).host = s.host := rfl
@[simp] theorem State.setFault_lim (x : FaultUnit) : (s.setFault x).lim = s.lim := rfl
@[simp] theorem State.setFault_isReady (x : FaultUnit) : (s.setFault x).isReady = s.isReady := rfl
@[simp] theorem State.setFault_setFault (x y : FaultUnit) : (s.setFault x).setFault y = s.setFault y := rfl

@[simp] theorem State.setHost_pending (x : HostLink) : (s.setHost x).pending = s.pending := rfl
@[simp] theorem State.setHost_config (x : HostLink) : (s.setHost x).config = s.config := rfl
@[simp] theorem State.setHost_guide (x : HostLink) : (s.setHost x).guide = s.guide := rfl
@[simp] theorem State.setHost_motion (x : HostLink) : (s.setHost x).motion = s.motion := rfl
@[simp] theorem State.setHost_zone (x : HostLink) : (s.setHost x).zone = s.zone := rfl
@[simp] theorem State.setHost_seat (x : HostLink) : (s.setHost x).seat = s.seat := rfl
@[simp] theorem State.setHost_cue (x : HostLink) : (s.setHost x).cue = s.cue := rfl
@[simp] theorem State.setHost_clip (x : HostLink) : (s.setHost x).clip = s.clip := rfl
@[simp] theorem State.setHost_voice (x : HostLink) : (s.setHost x).voice = s.voice := rfl
@[simp] theorem State.setHost_fault (x : HostLink) : (s.setHost x).fault = s.fault := rfl
@[simp] theorem State.setHost_host (x : HostLink) : (s.setHost x).host = x := rfl
@[simp] theorem State.setHost_lim (x : HostLink) : (s.setHost x).lim = s.lim := rfl
@[simp] theorem State.setHost_isReady (x : HostLink) : (s.setHost x).isReady = s.isReady := rfl
@[simp] theorem State.setHost_setHost (x y : HostLink) : (s.setHost x).setHost y = s.setHost y := rfl

/-- Two states with equal fields are equal. -/
theorem State.ext_fields {s t : State} (h1 : s.pending = t.pending) (h2 : s.config = t.config)
    (h3 : s.guide = t.guide) (h4 : s.motion = t.motion) (h5 : s.zone = t.zone) (h6 : s.seat = t.seat)
    (h7 : s.cue = t.cue) (h8 : s.clip = t.clip) (h9 : s.voice = t.voice) (h10 : s.fault = t.fault)
    (h11 : s.host = t.host) : s = t := by
  cases s; cases t; simp_all

end Sys2Proof.Machine
end

