-- ==== Sys2Proof/Laws/Frame.lean ====
section
/-! SUPPORT. What the frame lemmas are built from: the motion state after an update, folds, the part of
the host link unit that reports leave alone, and the raisings that have no effect on motion. -/

namespace Sys2Proof.Machine

/-- The host link unit but for its reports: all but the report queue and its dropped count. -/
def HostLink.port (h : HostLink) : HostLink := { h with reports := [], dropped := 0 }

/-- The host link unit but for its silence timer and whether the host is silent. -/
def HostLink.still (h : HostLink) : HostLink := { h with silence := .stopped, silent := false }

@[simp] theorem State.setPending_mstate (s : State) (x : List Instr) : (s.setPending x).mstate = s.mstate := rfl
@[simp] theorem State.setConfig_mstate (s : State) (x : ConfigUnit) : (s.setConfig x).mstate = s.mstate := rfl
@[simp] theorem State.setGuide_mstate (s : State) (x : Guidance) : (s.setGuide x).mstate = s.mstate := rfl
@[simp] theorem State.setMotion_mstate (s : State) (x : Motion) : (s.setMotion x).mstate = x.record.state := rfl
@[simp] theorem State.setZone_mstate (s : State) (x : ZoneUnit) : (s.setZone x).mstate = s.mstate := rfl
@[simp] theorem State.setSeat_mstate (s : State) (x : SeatUnit) : (s.setSeat x).mstate = s.mstate := rfl
@[simp] theorem State.setCue_mstate (s : State) (x : CueUnit) : (s.setCue x).mstate = s.mstate := rfl
@[simp] theorem State.setClip_mstate (s : State) (x : ClipStore) : (s.setClip x).mstate = s.mstate := rfl
@[simp] theorem State.setVoice_mstate (s : State) (x : VoiceEngine) : (s.setVoice x).mstate = s.mstate := rfl
@[simp] theorem State.setFault_mstate (s : State) (x : FaultUnit) : (s.setFault x).mstate = s.mstate := rfl
@[simp] theorem State.setHost_mstate (s : State) (x : HostLink) : (s.setHost x).mstate = s.mstate := rfl
@[simp] theorem State.record_state (s : State) : s.motion.record.state = s.mstate := rfl

/-- A fold of operations that each leave a part alone leaves it alone. -/
theorem foldl_keep {α β : Type} (g : State → β) (f : State → α → State) (h : ∀ s a, g (f s a) = g s)
    (l : List α) (s : State) : g (l.foldl f s) = g s := by
  induction l generalizing s with
  | nil => rfl
  | cons a l ih => rw [List.foldl_cons, ih, h]

@[simp] theorem HostLink.joinTail_port (h : HostLink) (r : Report) : (h.joinTail r).port = h.port := by
  unfold HostLink.joinTail HostLink.port
  split
  · rfl
  · split <;> rfl

@[simp] theorem foldl_pending {α : Type} (f : State → α → State) (h : ∀ s a, (f s a).pending = s.pending)
    (l : List α) (s : State) : (l.foldl f s).pending = s.pending := foldl_keep (fun s => s.pending) f h l s

@[simp] theorem foldl_config {α : Type} (f : State → α → State) (h : ∀ s a, (f s a).config = s.config)
    (l : List α) (s : State) : (l.foldl f s).config = s.config := foldl_keep (fun s => s.config) f h l s

@[simp] theorem foldl_guide {α : Type} (f : State → α → State) (h : ∀ s a, (f s a).guide = s.guide)
    (l : List α) (s : State) : (l.foldl f s).guide = s.guide := foldl_keep (fun s => s.guide) f h l s

@[simp] theorem foldl_motion {α : Type} (f : State → α → State) (h : ∀ s a, (f s a).motion = s.motion)
    (l : List α) (s : State) : (l.foldl f s).motion = s.motion := foldl_keep (fun s => s.motion) f h l s

@[simp] theorem foldl_zone {α : Type} (f : State → α → State) (h : ∀ s a, (f s a).zone = s.zone)
    (l : List α) (s : State) : (l.foldl f s).zone = s.zone := foldl_keep (fun s => s.zone) f h l s

@[simp] theorem foldl_seat {α : Type} (f : State → α → State) (h : ∀ s a, (f s a).seat = s.seat)
    (l : List α) (s : State) : (l.foldl f s).seat = s.seat := foldl_keep (fun s => s.seat) f h l s

@[simp] theorem foldl_cue {α : Type} (f : State → α → State) (h : ∀ s a, (f s a).cue = s.cue)
    (l : List α) (s : State) : (l.foldl f s).cue = s.cue := foldl_keep (fun s => s.cue) f h l s

@[simp] theorem foldl_clip {α : Type} (f : State → α → State) (h : ∀ s a, (f s a).clip = s.clip)
    (l : List α) (s : State) : (l.foldl f s).clip = s.clip := foldl_keep (fun s => s.clip) f h l s

@[simp] theorem foldl_voice {α : Type} (f : State → α → State) (h : ∀ s a, (f s a).voice = s.voice)
    (l : List α) (s : State) : (l.foldl f s).voice = s.voice := foldl_keep (fun s => s.voice) f h l s

@[simp] theorem foldl_fault {α : Type} (f : State → α → State) (h : ∀ s a, (f s a).fault = s.fault)
    (l : List α) (s : State) : (l.foldl f s).fault = s.fault := foldl_keep (fun s => s.fault) f h l s

@[simp] theorem foldl_host {α : Type} (f : State → α → State) (h : ∀ s a, (f s a).host = s.host)
    (l : List α) (s : State) : (l.foldl f s).host = s.host := foldl_keep (fun s => s.host) f h l s

@[simp] theorem foldl_port {α : Type} (f : State → α → State) (h : ∀ s a, (f s a).host.port = s.host.port)
    (l : List α) (s : State) : (l.foldl f s).host.port = s.host.port := foldl_keep (fun s => s.host.port) f h l s

@[simp] theorem foldl_mem {α : Type} (f : State → α → State) (h : ∀ s a, (f s a).clip.mem = s.clip.mem)
    (l : List α) (s : State) : (l.foldl f s).clip.mem = s.clip.mem := foldl_keep (fun s => s.clip.mem) f h l s

@[simp] theorem foldl_mstate {α : Type} (f : State → α → State) (h : ∀ s a, (f s a).mstate = s.mstate)
    (l : List α) (s : State) : (l.foldl f s).mstate = s.mstate := foldl_keep (fun s => s.mstate) f h l s

@[simp] theorem foldl_committed {α : Type} (f : State → α → State) (h : ∀ s a, (f s a).config.committed = s.config.committed)
    (l : List α) (s : State) : (l.foldl f s).config.committed = s.config.committed := foldl_keep (fun s => s.config.committed) f h l s

/-- Raising a HOLD- or NOTE-class fault has no effect on motion (R187). -/
theorem raiseFault_quiet (c : FaultCode) (d : FaultDetail) (s : State) (h : c.cls ≠ .stop) :
    raiseFault c d s = raiseQuiet c c.cls d s := by
  unfold raiseFault raiseAs raiseQuiet
  cases c <;> first | rfl | exact absurd rfl h

@[simp] theorem raiseFault_f13 (d : FaultDetail) (s : State) :
    raiseFault .f13 d s = raiseQuiet .f13 .hold d s := rfl

@[simp] theorem raiseFault_f14 (d : FaultDetail) (s : State) :
    raiseFault .f14 d s = raiseQuiet .f14 .hold d s := rfl

@[simp] theorem raiseFault_f18 (d : FaultDetail) (s : State) :
    raiseFault .f18 d s = raiseQuiet .f18 .hold d s := rfl

@[simp] theorem raiseFault_f15 (d : FaultDetail) (s : State) :
    raiseFault .f15 d s = raiseQuiet .f15 .note d s := rfl

@[simp] theorem raiseFault_f16 (d : FaultDetail) (s : State) :
    raiseFault .f16 d s = raiseQuiet .f16 .note d s := rfl

@[simp] theorem raiseFault_f17 (d : FaultDetail) (s : State) :
    raiseFault .f17 d s = raiseQuiet .f17 .note d s := rfl

@[simp] theorem raiseFault_f19 (d : FaultDetail) (s : State) :
    raiseFault .f19 d s = raiseQuiet .f19 .note d s := rfl

@[simp] theorem raiseFault_f20 (d : FaultDetail) (s : State) :
    raiseFault .f20 d s = raiseQuiet .f20 .note d s := rfl

@[simp] theorem raiseFault_f21 (d : FaultDetail) (s : State) :
    raiseFault .f21 d s = raiseQuiet .f21 .note d s := rfl

@[simp] theorem HostLink.afterFetch_port (h : HostLink) : h.afterFetch.port = h.port := by
  unfold HostLink.afterFetch HostLink.port
  dsimp only
  split <;> rfl

@[simp] theorem HostLink.port_reports (h : HostLink) (r : List Report) (d : Nat) :
    HostLink.port { h with reports := r, dropped := d } = h.port := rfl

@[simp] theorem HostLink.port_still (h : HostLink) (t : Timer) :
    (HostLink.port { h with silence := t }).still = h.port.still := rfl

@[simp] theorem HostLink.port_still_silent (h : HostLink) (x : Bool) :
    (HostLink.port { h with silent := x }).still = h.port.still := rfl

end Sys2Proof.Machine
end

