-- ==== Sys2Proof/Laws/FrameOps.lean ====
section
/-! SUPPORT. What each shared operation of the reports, faults, voices, seats and motion leaves unchanged. -/

namespace Sys2Proof.Machine

@[simp] theorem postState_frame (k : StateKind) (src : Nat) (s : State) :
    (postState k src s).pending = s.pending ∧
    (postState k src s).config = s.config ∧
    (postState k src s).guide = s.guide ∧
    (postState k src s).motion = s.motion ∧
    (postState k src s).zone = s.zone ∧
    (postState k src s).seat = s.seat ∧
    (postState k src s).cue = s.cue ∧
    (postState k src s).clip = s.clip ∧
    (postState k src s).voice = s.voice ∧
    (postState k src s).fault = s.fault ∧
    (postState k src s).host.port = s.host.port ∧
    (postState k src s).mstate = s.mstate := by
  unfold postState
  (repeat' split) <;> simp

@[simp] theorem postEvent_frame (e : EventReport) (s : State) :
    (postEvent e s).pending = s.pending ∧
    (postEvent e s).config = s.config ∧
    (postEvent e s).guide = s.guide ∧
    (postEvent e s).motion = s.motion ∧
    (postEvent e s).zone = s.zone ∧
    (postEvent e s).seat = s.seat ∧
    (postEvent e s).cue = s.cue ∧
    (postEvent e s).clip = s.clip ∧
    (postEvent e s).voice = s.voice ∧
    (postEvent e s).fault = s.fault ∧
    (postEvent e s).host.port = s.host.port ∧
    (postEvent e s).mstate = s.mstate := by
  unfold postEvent
  simp

@[simp] theorem handReply_frame (r : Reply) (s : State) :
    (handReply r s).pending = s.pending ∧
    (handReply r s).config = s.config ∧
    (handReply r s).guide = s.guide ∧
    (handReply r s).motion = s.motion ∧
    (handReply r s).zone = s.zone ∧
    (handReply r s).seat = s.seat ∧
    (handReply r s).cue = s.cue ∧
    (handReply r s).clip = s.clip ∧
    (handReply r s).voice = s.voice ∧
    (handReply r s).fault = s.fault ∧
    (handReply r s).mstate = s.mstate := by
  unfold handReply
  dsimp only
  (repeat' split) <;> simp

@[simp] theorem sendReply_frame (f : RxFrame) (a : Answer) (s : State) :
    (sendReply f a s).pending = s.pending ∧
    (sendReply f a s).config = s.config ∧
    (sendReply f a s).guide = s.guide ∧
    (sendReply f a s).motion = s.motion ∧
    (sendReply f a s).zone = s.zone ∧
    (sendReply f a s).seat = s.seat ∧
    (sendReply f a s).cue = s.cue ∧
    (sendReply f a s).clip = s.clip ∧
    (sendReply f a s).voice = s.voice ∧
    (sendReply f a s).fault = s.fault ∧
    (sendReply f a s).mstate = s.mstate := by
  unfold sendReply
  simp

@[simp] theorem State.setFaultRec_frame (s : State) (c : FaultCode) (r : FaultRecord) :
    (State.setFaultRec s c r).pending = s.pending ∧
    (State.setFaultRec s c r).config = s.config ∧
    (State.setFaultRec s c r).guide = s.guide ∧
    (State.setFaultRec s c r).motion = s.motion ∧
    (State.setFaultRec s c r).zone = s.zone ∧
    (State.setFaultRec s c r).seat = s.seat ∧
    (State.setFaultRec s c r).cue = s.cue ∧
    (State.setFaultRec s c r).clip = s.clip ∧
    (State.setFaultRec s c r).voice = s.voice ∧
    (State.setFaultRec s c r).host = s.host ∧
    (State.setFaultRec s c r).mstate = s.mstate := by
  unfold State.setFaultRec
  simp

@[simp] theorem noteSummary_frame (before : FaultSummary) (s : State) :
    (noteSummary before s).pending = s.pending ∧
    (noteSummary before s).config = s.config ∧
    (noteSummary before s).guide = s.guide ∧
    (noteSummary before s).motion = s.motion ∧
    (noteSummary before s).zone = s.zone ∧
    (noteSummary before s).seat = s.seat ∧
    (noteSummary before s).cue = s.cue ∧
    (noteSummary before s).clip = s.clip ∧
    (noteSummary before s).voice = s.voice ∧
    (noteSummary before s).fault = s.fault ∧
    (noteSummary before s).host.port = s.host.port ∧
    (noteSummary before s).mstate = s.mstate := by
  unfold noteSummary
  (repeat' split) <;> simp

@[simp] theorem recordRaise_frame (c : FaultCode) (cls : FaultClass) (d : FaultDetail) (s : State) :
    (recordRaise c cls d s).pending = s.pending ∧
    (recordRaise c cls d s).config = s.config ∧
    (recordRaise c cls d s).guide = s.guide ∧
    (recordRaise c cls d s).motion = s.motion ∧
    (recordRaise c cls d s).zone = s.zone ∧
    (recordRaise c cls d s).seat = s.seat ∧
    (recordRaise c cls d s).cue = s.cue ∧
    (recordRaise c cls d s).clip = s.clip ∧
    (recordRaise c cls d s).voice = s.voice ∧
    (recordRaise c cls d s).host.port = s.host.port ∧
    (recordRaise c cls d s).mstate = s.mstate := by
  unfold recordRaise
  dsimp only
  simp

@[simp] theorem endMomentary_frame (c : FaultCode) (s : State) :
    (endMomentary c s).pending = s.pending ∧
    (endMomentary c s).config = s.config ∧
    (endMomentary c s).guide = s.guide ∧
    (endMomentary c s).motion = s.motion ∧
    (endMomentary c s).zone = s.zone ∧
    (endMomentary c s).seat = s.seat ∧
    (endMomentary c s).cue = s.cue ∧
    (endMomentary c s).clip = s.clip ∧
    (endMomentary c s).voice = s.voice ∧
    (endMomentary c s).host = s.host ∧
    (endMomentary c s).mstate = s.mstate := by
  unfold endMomentary
  dsimp only
  (repeat' split) <;> simp

@[simp] theorem raiseQuiet_frame (c : FaultCode) (cls : FaultClass) (d : FaultDetail) (s : State) :
    (raiseQuiet c cls d s).pending = s.pending ∧
    (raiseQuiet c cls d s).config = s.config ∧
    (raiseQuiet c cls d s).guide = s.guide ∧
    (raiseQuiet c cls d s).motion = s.motion ∧
    (raiseQuiet c cls d s).zone = s.zone ∧
    (raiseQuiet c cls d s).seat = s.seat ∧
    (raiseQuiet c cls d s).cue = s.cue ∧
    (raiseQuiet c cls d s).clip = s.clip ∧
    (raiseQuiet c cls d s).voice = s.voice ∧
    (raiseQuiet c cls d s).host.port = s.host.port ∧
    (raiseQuiet c cls d s).mstate = s.mstate := by
  unfold raiseQuiet
  simp

@[simp] theorem endCond_frame (c : FaultCode) (s : State) :
    (endCond c s).pending = s.pending ∧
    (endCond c s).config = s.config ∧
    (endCond c s).guide = s.guide ∧
    (endCond c s).motion = s.motion ∧
    (endCond c s).zone = s.zone ∧
    (endCond c s).seat = s.seat ∧
    (endCond c s).cue = s.cue ∧
    (endCond c s).clip = s.clip ∧
    (endCond c s).voice = s.voice ∧
    (endCond c s).host.port = s.host.port ∧
    (endCond c s).mstate = s.mstate := by
  unfold endCond
  dsimp only
  (repeat' split) <;> simp

@[simp] theorem endConds_frame (cs : List FaultCode) (s : State) :
    (endConds cs s).pending = s.pending ∧
    (endConds cs s).config = s.config ∧
    (endConds cs s).guide = s.guide ∧
    (endConds cs s).motion = s.motion ∧
    (endConds cs s).zone = s.zone ∧
    (endConds cs s).seat = s.seat ∧
    (endConds cs s).cue = s.cue ∧
    (endConds cs s).clip = s.clip ∧
    (endConds cs s).voice = s.voice ∧
    (endConds cs s).host.port = s.host.port ∧
    (endConds cs s).mstate = s.mstate := by
  simp [endConds]

@[simp] theorem clearFaultTable_frame (s : State) :
    (clearFaultTable s).pending = s.pending ∧
    (clearFaultTable s).config = s.config ∧
    (clearFaultTable s).guide = s.guide ∧
    (clearFaultTable s).motion = s.motion ∧
    (clearFaultTable s).zone = s.zone ∧
    (clearFaultTable s).seat = s.seat ∧
    (clearFaultTable s).cue = s.cue ∧
    (clearFaultTable s).clip = s.clip ∧
    (clearFaultTable s).voice = s.voice ∧
    (clearFaultTable s).host.port = s.host.port ∧
    (clearFaultTable s).mstate = s.mstate := by
  unfold clearFaultTable
  simp

@[simp] theorem tellCue_frame (id : Nat) (o : CueOutcome) (r : CueReport) (s : State) :
    (tellCue id o r s).pending = s.pending ∧
    (tellCue id o r s).config = s.config ∧
    (tellCue id o r s).guide = s.guide ∧
    (tellCue id o r s).motion = s.motion ∧
    (tellCue id o r s).zone = s.zone ∧
    (tellCue id o r s).seat = s.seat ∧
    (tellCue id o r s).clip = s.clip ∧
    (tellCue id o r s).voice = s.voice ∧
    (tellCue id o r s).fault = s.fault ∧
    (tellCue id o r s).host.port = s.host.port ∧
    (tellCue id o r s).mstate = s.mstate := by
  unfold tellCue
  dsimp only
  simp

@[simp] theorem State.putVoice_frame (s : State) (v : Fin 8) (w : Voice) :
    (State.putVoice s v w).pending = s.pending ∧
    (State.putVoice s v w).config = s.config ∧
    (State.putVoice s v w).guide = s.guide ∧
    (State.putVoice s v w).motion = s.motion ∧
    (State.putVoice s v w).zone = s.zone ∧
    (State.putVoice s v w).seat = s.seat ∧
    (State.putVoice s v w).cue = s.cue ∧
    (State.putVoice s v w).clip = s.clip ∧
    (State.putVoice s v w).fault = s.fault ∧
    (State.putVoice s v w).host = s.host ∧
    (State.putVoice s v w).mstate = s.mstate := by
  unfold State.putVoice
  dsimp only
  simp

@[simp] theorem State.putClip_frame (s : State) (n : Nat) (c : Option Clip) :
    (State.putClip s n c).pending = s.pending ∧
    (State.putClip s n c).config = s.config ∧
    (State.putClip s n c).guide = s.guide ∧
    (State.putClip s n c).motion = s.motion ∧
    (State.putClip s n c).zone = s.zone ∧
    (State.putClip s n c).seat = s.seat ∧
    (State.putClip s n c).cue = s.cue ∧
    (State.putClip s n c).voice = s.voice ∧
    (State.putClip s n c).fault = s.fault ∧
    (State.putClip s n c).host = s.host ∧
    (State.putClip s n c).clip.mem = s.clip.mem ∧
    (State.putClip s n c).mstate = s.mstate := by
  unfold State.putClip
  dsimp only
  (repeat' split) <;> simp

@[simp] theorem releasePlay_frame (n : Nat) (s : State) :
    (releasePlay n s).pending = s.pending ∧
    (releasePlay n s).config = s.config ∧
    (releasePlay n s).guide = s.guide ∧
    (releasePlay n s).motion = s.motion ∧
    (releasePlay n s).zone = s.zone ∧
    (releasePlay n s).seat = s.seat ∧
    (releasePlay n s).cue = s.cue ∧
    (releasePlay n s).voice = s.voice ∧
    (releasePlay n s).fault = s.fault ∧
    (releasePlay n s).host = s.host ∧
    (releasePlay n s).clip.mem = s.clip.mem ∧
    (releasePlay n s).mstate = s.mstate := by
  unfold releasePlay
  (repeat' split) <;> simp

@[simp] theorem releasePlayOf_frame (clip : Option Nat) (s : State) :
    (releasePlayOf clip s).pending = s.pending ∧
    (releasePlayOf clip s).config = s.config ∧
    (releasePlayOf clip s).guide = s.guide ∧
    (releasePlayOf clip s).motion = s.motion ∧
    (releasePlayOf clip s).zone = s.zone ∧
    (releasePlayOf clip s).seat = s.seat ∧
    (releasePlayOf clip s).cue = s.cue ∧
    (releasePlayOf clip s).voice = s.voice ∧
    (releasePlayOf clip s).fault = s.fault ∧
    (releasePlayOf clip s).host = s.host ∧
    (releasePlayOf clip s).clip.mem = s.clip.mem ∧
    (releasePlayOf clip s).mstate = s.mstate := by
  unfold releasePlayOf
  (repeat' split) <;> simp

@[simp] theorem withdrawRefill_frame (v : Fin 8) (s : State) :
    (withdrawRefill v s).pending = s.pending ∧
    (withdrawRefill v s).config = s.config ∧
    (withdrawRefill v s).guide = s.guide ∧
    (withdrawRefill v s).motion = s.motion ∧
    (withdrawRefill v s).zone = s.zone ∧
    (withdrawRefill v s).seat = s.seat ∧
    (withdrawRefill v s).cue = s.cue ∧
    (withdrawRefill v s).fault = s.fault ∧
    (withdrawRefill v s).host = s.host ∧
    (withdrawRefill v s).clip.mem = s.clip.mem ∧
    (withdrawRefill v s).mstate = s.mstate := by
  unfold withdrawRefill
  dsimp only
  (repeat' split) <;> simp

@[simp] theorem refillTest_frame (v : Fin 8) (s : State) :
    (refillTest v s).pending = s.pending ∧
    (refillTest v s).config = s.config ∧
    (refillTest v s).guide = s.guide ∧
    (refillTest v s).motion = s.motion ∧
    (refillTest v s).zone = s.zone ∧
    (refillTest v s).seat = s.seat ∧
    (refillTest v s).cue = s.cue ∧
    (refillTest v s).fault = s.fault ∧
    (refillTest v s).host = s.host ∧
    (refillTest v s).clip.mem = s.clip.mem ∧
    (refillTest v s).mstate = s.mstate := by
  unfold refillTest
  dsimp only
  (repeat' split) <;> simp

@[simp] theorem startIdle_frame (v : Fin 8) (r : StartRec) (s : State) :
    (startIdle v r s).pending = s.pending ∧
    (startIdle v r s).config = s.config ∧
    (startIdle v r s).guide = s.guide ∧
    (startIdle v r s).motion = s.motion ∧
    (startIdle v r s).zone = s.zone ∧
    (startIdle v r s).seat = s.seat ∧
    (startIdle v r s).cue = s.cue ∧
    (startIdle v r s).fault = s.fault ∧
    (startIdle v r s).host = s.host ∧
    (startIdle v r s).clip.mem = s.clip.mem ∧
    (startIdle v r s).mstate = s.mstate := by
  unfold startIdle
  (repeat' split) <;> simp

@[simp] theorem reportFailed_frame (v : Fin 8) (r : StartRec) (found : Option ClipState) (s : State) :
    (reportFailed v r found s).pending = s.pending ∧
    (reportFailed v r found s).config = s.config ∧
    (reportFailed v r found s).guide = s.guide ∧
    (reportFailed v r found s).motion = s.motion ∧
    (reportFailed v r found s).zone = s.zone ∧
    (reportFailed v r found s).seat = s.seat ∧
    (reportFailed v r found s).clip = s.clip ∧
    (reportFailed v r found s).voice = s.voice ∧
    (reportFailed v r found s).fault = s.fault ∧
    (reportFailed v r found s).host.port = s.host.port ∧
    (reportFailed v r found s).mstate = s.mstate := by
  unfold reportFailed
  (repeat' split) <;> simp

@[simp] theorem goIdle_frame (v : Fin 8) (reason : VoiceEndReason) (s : State) :
    (goIdle v reason s).pending = s.pending ∧
    (goIdle v reason s).config = s.config ∧
    (goIdle v reason s).guide = s.guide ∧
    (goIdle v reason s).motion = s.motion ∧
    (goIdle v reason s).zone = s.zone ∧
    (goIdle v reason s).seat = s.seat ∧
    (goIdle v reason s).cue = s.cue ∧
    (goIdle v reason s).fault = s.fault ∧
    (goIdle v reason s).host.port = s.host.port ∧
    (goIdle v reason s).clip.mem = s.clip.mem ∧
    (goIdle v reason s).mstate = s.mstate := by
  unfold goIdle
  dsimp only
  simp

@[simp] theorem fadeEnd_frame (v : Fin 8) (s : State) :
    (fadeEnd v s).pending = s.pending ∧
    (fadeEnd v s).config = s.config ∧
    (fadeEnd v s).guide = s.guide ∧
    (fadeEnd v s).motion = s.motion ∧
    (fadeEnd v s).zone = s.zone ∧
    (fadeEnd v s).seat = s.seat ∧
    (fadeEnd v s).fault = s.fault ∧
    (fadeEnd v s).host.port = s.host.port ∧
    (fadeEnd v s).clip.mem = s.clip.mem ∧
    (fadeEnd v s).mstate = s.mstate := by
  unfold fadeEnd
  dsimp only
  (repeat' split) <;> simp

@[simp] theorem fadeTest_frame (v : Fin 8) (s : State) :
    (fadeTest v s).pending = s.pending ∧
    (fadeTest v s).config = s.config ∧
    (fadeTest v s).guide = s.guide ∧
    (fadeTest v s).motion = s.motion ∧
    (fadeTest v s).zone = s.zone ∧
    (fadeTest v s).seat = s.seat ∧
    (fadeTest v s).fault = s.fault ∧
    (fadeTest v s).host.port = s.host.port ∧
    (fadeTest v s).clip.mem = s.clip.mem ∧
    (fadeTest v s).mstate = s.mstate := by
  unfold fadeTest
  (repeat' split) <;> simp

@[simp] theorem preempt_frame (v : Fin 8) (r : StartRec) (s : State) :
    (preempt v r s).pending = s.pending ∧
    (preempt v r s).config = s.config ∧
    (preempt v r s).guide = s.guide ∧
    (preempt v r s).motion = s.motion ∧
    (preempt v r s).zone = s.zone ∧
    (preempt v r s).seat = s.seat ∧
    (preempt v r s).fault = s.fault ∧
    (preempt v r s).host.port = s.host.port ∧
    (preempt v r s).clip.mem = s.clip.mem ∧
    (preempt v r s).mstate = s.mstate := by
  unfold preempt
  dsimp only
  (repeat' split) <;> simp

@[simp] theorem takeStart_frame (v : Fin 8) (r : StartRec) (s : State) :
    (takeStart v r s).pending = s.pending ∧
    (takeStart v r s).config = s.config ∧
    (takeStart v r s).guide = s.guide ∧
    (takeStart v r s).motion = s.motion ∧
    (takeStart v r s).zone = s.zone ∧
    (takeStart v r s).seat = s.seat ∧
    (takeStart v r s).fault = s.fault ∧
    (takeStart v r s).host.port = s.host.port ∧
    (takeStart v r s).clip.mem = s.clip.mem ∧
    (takeStart v r s).mstate = s.mstate := by
  unfold takeStart
  (repeat' split) <;> simp

@[simp] theorem stopVoice_frame (v : Fin 8) (fade : Nat) (s : State) :
    (stopVoice v fade s).pending = s.pending ∧
    (stopVoice v fade s).config = s.config ∧
    (stopVoice v fade s).guide = s.guide ∧
    (stopVoice v fade s).motion = s.motion ∧
    (stopVoice v fade s).zone = s.zone ∧
    (stopVoice v fade s).seat = s.seat ∧
    (stopVoice v fade s).fault = s.fault ∧
    (stopVoice v fade s).host.port = s.host.port ∧
    (stopVoice v fade s).clip.mem = s.clip.mem ∧
    (stopVoice v fade s).mstate = s.mstate := by
  unfold stopVoice
  dsimp only
  (repeat' split) <;> simp

@[simp] theorem gainVoice_frame (v : Fin 8) (target ramp : Nat) (s : State) :
    (gainVoice v target ramp s).pending = s.pending ∧
    (gainVoice v target ramp s).config = s.config ∧
    (gainVoice v target ramp s).guide = s.guide ∧
    (gainVoice v target ramp s).motion = s.motion ∧
    (gainVoice v target ramp s).zone = s.zone ∧
    (gainVoice v target ramp s).seat = s.seat ∧
    (gainVoice v target ramp s).cue = s.cue ∧
    (gainVoice v target ramp s).clip = s.clip ∧
    (gainVoice v target ramp s).fault = s.fault ∧
    (gainVoice v target ramp s).host = s.host ∧
    (gainVoice v target ramp s).mstate = s.mstate := by
  unfold gainVoice
  dsimp only
  (repeat' split) <;> simp

@[simp] theorem showPauseBegin_frame (s : State) :
    (showPauseBegin s).pending = s.pending ∧
    (showPauseBegin s).config = s.config ∧
    (showPauseBegin s).guide = s.guide ∧
    (showPauseBegin s).motion = s.motion ∧
    (showPauseBegin s).zone = s.zone ∧
    (showPauseBegin s).seat = s.seat ∧
    (showPauseBegin s).cue = s.cue ∧
    (showPauseBegin s).clip = s.clip ∧
    (showPauseBegin s).fault = s.fault ∧
    (showPauseBegin s).host = s.host ∧
    (showPauseBegin s).mstate = s.mstate := by
  unfold showPauseBegin
  dsimp only
  simp

@[simp] theorem showPauseEnd_frame (s : State) :
    (showPauseEnd s).pending = s.pending ∧
    (showPauseEnd s).config = s.config ∧
    (showPauseEnd s).guide = s.guide ∧
    (showPauseEnd s).motion = s.motion ∧
    (showPauseEnd s).zone = s.zone ∧
    (showPauseEnd s).seat = s.seat ∧
    (showPauseEnd s).cue = s.cue ∧
    (showPauseEnd s).clip = s.clip ∧
    (showPauseEnd s).fault = s.fault ∧
    (showPauseEnd s).host = s.host ∧
    (showPauseEnd s).mstate = s.mstate := by
  unfold showPauseEnd
  dsimp only
  simp

@[simp] theorem setAlarm_frame (on : Bool) (s : State) :
    (setAlarm on s).pending = s.pending ∧
    (setAlarm on s).config = s.config ∧
    (setAlarm on s).guide = s.guide ∧
    (setAlarm on s).motion = s.motion ∧
    (setAlarm on s).zone = s.zone ∧
    (setAlarm on s).seat = s.seat ∧
    (setAlarm on s).cue = s.cue ∧
    (setAlarm on s).clip = s.clip ∧
    (setAlarm on s).fault = s.fault ∧
    (setAlarm on s).host = s.host ∧
    (setAlarm on s).mstate = s.mstate := by
  unfold setAlarm
  dsimp only
  simp

@[simp] theorem announce_frame (clip : Nat) (s : State) :
    (announce clip s).pending = s.pending ∧
    (announce clip s).config = s.config ∧
    (announce clip s).guide = s.guide ∧
    (announce clip s).motion = s.motion ∧
    (announce clip s).zone = s.zone ∧
    (announce clip s).seat = s.seat ∧
    (announce clip s).fault = s.fault ∧
    (announce clip s).host.port = s.host.port ∧
    (announce clip s).clip.mem = s.clip.mem ∧
    (announce clip s).mstate = s.mstate := by
  unfold announce
  (repeat' split) <;> simp

@[simp] theorem reportSeat_frame (before after : SeatRecord) (s : State) :
    (reportSeat before after s).pending = s.pending ∧
    (reportSeat before after s).config = s.config ∧
    (reportSeat before after s).guide = s.guide ∧
    (reportSeat before after s).motion = s.motion ∧
    (reportSeat before after s).zone = s.zone ∧
    (reportSeat before after s).seat = s.seat ∧
    (reportSeat before after s).cue = s.cue ∧
    (reportSeat before after s).clip = s.clip ∧
    (reportSeat before after s).voice = s.voice ∧
    (reportSeat before after s).fault = s.fault ∧
    (reportSeat before after s).host.port = s.host.port ∧
    (reportSeat before after s).mstate = s.mstate := by
  unfold reportSeat
  (repeat' split) <;> simp

@[simp] theorem putSeat_frame (r : SeatRecord) (s : State) :
    (putSeat r s).pending = s.pending ∧
    (putSeat r s).config = s.config ∧
    (putSeat r s).guide = s.guide ∧
    (putSeat r s).motion = s.motion ∧
    (putSeat r s).zone = s.zone ∧
    (putSeat r s).cue = s.cue ∧
    (putSeat r s).clip = s.clip ∧
    (putSeat r s).voice = s.voice ∧
    (putSeat r s).fault = s.fault ∧
    (putSeat r s).host.port = s.host.port ∧
    (putSeat r s).mstate = s.mstate := by
  unfold putSeat
  dsimp only
  simp

@[simp] theorem changeSeat_frame (f : SeatRecord → SeatRecord) (s : State) (addr : Nat) :
    (changeSeat f s addr).pending = s.pending ∧
    (changeSeat f s addr).config = s.config ∧
    (changeSeat f s addr).guide = s.guide ∧
    (changeSeat f s addr).motion = s.motion ∧
    (changeSeat f s addr).zone = s.zone ∧
    (changeSeat f s addr).cue = s.cue ∧
    (changeSeat f s addr).clip = s.clip ∧
    (changeSeat f s addr).voice = s.voice ∧
    (changeSeat f s addr).fault = s.fault ∧
    (changeSeat f s addr).host.port = s.host.port ∧
    (changeSeat f s addr).mstate = s.mstate := by
  unfold changeSeat
  (repeat' split) <;> simp

@[simp] theorem mapSeats_frame (f : SeatRecord → SeatRecord) (s : State) :
    (mapSeats f s).pending = s.pending ∧
    (mapSeats f s).config = s.config ∧
    (mapSeats f s).guide = s.guide ∧
    (mapSeats f s).motion = s.motion ∧
    (mapSeats f s).zone = s.zone ∧
    (mapSeats f s).cue = s.cue ∧
    (mapSeats f s).clip = s.clip ∧
    (mapSeats f s).voice = s.voice ∧
    (mapSeats f s).fault = s.fault ∧
    (mapSeats f s).host.port = s.host.port ∧
    (mapSeats f s).mstate = s.mstate := by
  simp [mapSeats]

@[simp] theorem clearPermit_frame (cause : PermitCause) (s : State) :
    (clearPermit cause s).pending = s.pending ∧
    (clearPermit cause s).config = s.config ∧
    (clearPermit cause s).guide = s.guide ∧
    (clearPermit cause s).motion = s.motion ∧
    (clearPermit cause s).zone = s.zone ∧
    (clearPermit cause s).cue = s.cue ∧
    (clearPermit cause s).clip = s.clip ∧
    (clearPermit cause s).voice = s.voice ∧
    (clearPermit cause s).fault = s.fault ∧
    (clearPermit cause s).host.port = s.host.port ∧
    (clearPermit cause s).mstate = s.mstate := by
  unfold clearPermit
  dsimp only
  (repeat' split) <;> simp

@[simp] theorem abortCheck_frame (cause : CheckCause) (s : State) :
    (abortCheck cause s).pending = s.pending ∧
    (abortCheck cause s).config = s.config ∧
    (abortCheck cause s).guide = s.guide ∧
    (abortCheck cause s).motion = s.motion ∧
    (abortCheck cause s).zone = s.zone ∧
    (abortCheck cause s).cue = s.cue ∧
    (abortCheck cause s).clip = s.clip ∧
    (abortCheck cause s).voice = s.voice ∧
    (abortCheck cause s).host.port = s.host.port ∧
    (abortCheck cause s).mstate = s.mstate := by
  unfold abortCheck
  dsimp only
  (repeat' split) <;> simp

@[simp] theorem endWindow_frame (reason : WindowEnd) (s : State) :
    (endWindow reason s).pending = s.pending ∧
    (endWindow reason s).config = s.config ∧
    (endWindow reason s).guide = s.guide ∧
    (endWindow reason s).motion = s.motion ∧
    (endWindow reason s).zone = s.zone ∧
    (endWindow reason s).cue = s.cue ∧
    (endWindow reason s).clip = s.clip ∧
    (endWindow reason s).voice = s.voice ∧
    (endWindow reason s).fault = s.fault ∧
    (endWindow reason s).host.port = s.host.port ∧
    (endWindow reason s).mstate = s.mstate := by
  unfold endWindow
  dsimp only
  (repeat' split) <;> simp

@[simp] theorem seatLeavesHold_frame (toEstop : Bool) (s : State) :
    (seatLeavesHold toEstop s).pending = s.pending ∧
    (seatLeavesHold toEstop s).config = s.config ∧
    (seatLeavesHold toEstop s).guide = s.guide ∧
    (seatLeavesHold toEstop s).motion = s.motion ∧
    (seatLeavesHold toEstop s).zone = s.zone ∧
    (seatLeavesHold toEstop s).cue = s.cue ∧
    (seatLeavesHold toEstop s).clip = s.clip ∧
    (seatLeavesHold toEstop s).voice = s.voice ∧
    (seatLeavesHold toEstop s).host.port = s.host.port ∧
    (seatLeavesHold toEstop s).mstate = s.mstate := by
  unfold seatLeavesHold
  (repeat' split) <;> simp

@[simp] theorem evalPause_frame (s : State) :
    (evalPause s).pending = s.pending ∧
    (evalPause s).config = s.config ∧
    (evalPause s).guide = s.guide ∧
    (evalPause s).zone = s.zone ∧
    (evalPause s).seat = s.seat ∧
    (evalPause s).cue = s.cue ∧
    (evalPause s).clip = s.clip ∧
    (evalPause s).fault = s.fault ∧
    (evalPause s).host.port = s.host.port ∧
    (evalPause s).mstate = s.mstate := by
  unfold evalPause
  dsimp only
  (repeat' split) <;> simp

@[simp] theorem outputsOff_frame (s : State) :
    (outputsOff s).pending = s.pending ∧
    (outputsOff s).config = s.config ∧
    (outputsOff s).guide = s.guide ∧
    (outputsOff s).motion = s.motion ∧
    (outputsOff s).zone = s.zone ∧
    (outputsOff s).seat = s.seat ∧
    (outputsOff s).clip = s.clip ∧
    (outputsOff s).voice = s.voice ∧
    (outputsOff s).fault = s.fault ∧
    (outputsOff s).host = s.host ∧
    (outputsOff s).mstate = s.mstate := by
  unfold outputsOff
  dsimp only
  simp

@[simp] theorem zeroRollback_frame (s : State) :
    (zeroRollback s).pending = s.pending ∧
    (zeroRollback s).config = s.config ∧
    (zeroRollback s).motion = s.motion ∧
    (zeroRollback s).zone = s.zone ∧
    (zeroRollback s).seat = s.seat ∧
    (zeroRollback s).cue = s.cue ∧
    (zeroRollback s).clip = s.clip ∧
    (zeroRollback s).voice = s.voice ∧
    (zeroRollback s).host.port = s.host.port ∧
    (zeroRollback s).mstate = s.mstate := by
  unfold zeroRollback
  dsimp only
  simp

@[simp] theorem changeMotion_frame (new : MotionState) (resume : Bool) (s : State) :
    (changeMotion new resume s).pending = s.pending ∧
    (changeMotion new resume s).config = s.config ∧
    (changeMotion new resume s).zone = s.zone ∧
    (changeMotion new resume s).clip = s.clip ∧
    (changeMotion new resume s).host.port = s.host.port := by
  unfold changeMotion
  dsimp only
  (repeat' split) <;> simp

@[simp] theorem moveTo_frame (new : MotionState) (s : State) :
    (moveTo new s).pending = s.pending ∧
    (moveTo new s).config = s.config ∧
    (moveTo new s).zone = s.zone ∧
    (moveTo new s).clip = s.clip ∧
    (moveTo new s).host.port = s.host.port := by
  unfold moveTo
  simp

@[simp] theorem creepEnd_frame (o : CreepOutcome) (s : State) :
    (creepEnd o s).pending = s.pending ∧
    (creepEnd o s).config = s.config ∧
    (creepEnd o s).guide = s.guide ∧
    (creepEnd o s).motion = s.motion ∧
    (creepEnd o s).zone = s.zone ∧
    (creepEnd o s).seat = s.seat ∧
    (creepEnd o s).cue = s.cue ∧
    (creepEnd o s).clip = s.clip ∧
    (creepEnd o s).voice = s.voice ∧
    (creepEnd o s).fault = s.fault ∧
    (creepEnd o s).host.port = s.host.port ∧
    (creepEnd o s).mstate = s.mstate := by
  unfold creepEnd
  simp

@[simp] theorem setStopRecord_frame (r : Option StopRecord) (s : State) :
    (setStopRecord r s).pending = s.pending ∧
    (setStopRecord r s).config = s.config ∧
    (setStopRecord r s).guide = s.guide ∧
    (setStopRecord r s).zone = s.zone ∧
    (setStopRecord r s).seat = s.seat ∧
    (setStopRecord r s).cue = s.cue ∧
    (setStopRecord r s).clip = s.clip ∧
    (setStopRecord r s).voice = s.voice ∧
    (setStopRecord r s).fault = s.fault ∧
    (setStopRecord r s).host = s.host ∧
    (setStopRecord r s).mstate = s.mstate := by
  unfold setStopRecord
  dsimp only
  simp

@[simp] theorem furtherCause_frame (s : State) :
    (furtherCause s).pending = s.pending ∧
    (furtherCause s).config = s.config ∧
    (furtherCause s).guide = s.guide ∧
    (furtherCause s).zone = s.zone ∧
    (furtherCause s).seat = s.seat ∧
    (furtherCause s).cue = s.cue ∧
    (furtherCause s).clip = s.clip ∧
    (furtherCause s).voice = s.voice ∧
    (furtherCause s).fault = s.fault ∧
    (furtherCause s).host = s.host ∧
    (furtherCause s).mstate = s.mstate := by
  unfold furtherCause
  simp

@[simp] theorem takeStop_frame (new : MotionState) (cause : StopCause) (s : State) :
    (takeStop new cause s).pending = s.pending ∧
    (takeStop new cause s).config = s.config ∧
    (takeStop new cause s).zone = s.zone ∧
    (takeStop new cause s).clip = s.clip ∧
    (takeStop new cause s).host.port = s.host.port := by
  unfold takeStop
  dsimp only
  (repeat' split) <;> simp

@[simp] theorem stopCause_frame (cause : StopCause) (s : State) :
    (stopCause cause s).pending = s.pending ∧
    (stopCause cause s).config = s.config ∧
    (stopCause cause s).zone = s.zone ∧
    (stopCause cause s).clip = s.clip ∧
    (stopCause cause s).host.port = s.host.port := by
  unfold stopCause
  (repeat' split) <;> simp

@[simp] theorem estopCause_frame (s : State) :
    (estopCause s).pending = s.pending ∧
    (estopCause s).config = s.config ∧
    (estopCause s).zone = s.zone ∧
    (estopCause s).clip = s.clip ∧
    (estopCause s).host.port = s.host.port := by
  unfold estopCause
  (repeat' split) <;> simp

@[simp] theorem actByClass_frame (c : FaultCode) (cls : FaultClass) (s : State) :
    (actByClass c cls s).pending = s.pending ∧
    (actByClass c cls s).config = s.config ∧
    (actByClass c cls s).zone = s.zone ∧
    (actByClass c cls s).clip = s.clip ∧
    (actByClass c cls s).host.port = s.host.port := by
  unfold actByClass
  (repeat' split) <;> simp

@[simp] theorem raiseAs_frame (c : FaultCode) (cls : FaultClass) (d : FaultDetail) (s : State) :
    (raiseAs c cls d s).pending = s.pending ∧
    (raiseAs c cls d s).config = s.config ∧
    (raiseAs c cls d s).zone = s.zone ∧
    (raiseAs c cls d s).clip = s.clip ∧
    (raiseAs c cls d s).host.port = s.host.port := by
  unfold raiseAs
  simp

@[simp] theorem raiseFault_frame (c : FaultCode) (d : FaultDetail) (s : State) :
    (raiseFault c d s).pending = s.pending ∧
    (raiseFault c d s).config = s.config ∧
    (raiseFault c d s).zone = s.zone ∧
    (raiseFault c d s).clip = s.clip ∧
    (raiseFault c d s).host.port = s.host.port := by
  unfold raiseFault
  simp

@[simp] theorem enterStopped_frame (s : State) :
    (enterStopped s).pending = s.pending ∧
    (enterStopped s).config = s.config ∧
    (enterStopped s).zone = s.zone ∧
    (enterStopped s).clip = s.clip ∧
    (enterStopped s).host.port = s.host.port := by
  unfold enterStopped
  dsimp only
  simp

end Sys2Proof.Machine
end

