-- ==== Sys2Proof/Laws/Fault.lean ====
section
/-! SUPPORT. The fault table: the record of each code after a fault is raised, after its condition ends,
and after a change of motion state. -/

namespace Sys2Proof.Machine

theorem FaultCode.idx_injective {c d : FaultCode} (h : c.idx = d.idx) : c = d := by
  revert h
  cases c <;> cases d <;> decide

theorem State.faultRec_congr {s t : State} (h : s.fault = t.fault) (c : FaultCode) :
    s.faultRec c = t.faultRec c := by
  unfold State.faultRec
  rw [h]

/-- One record is replaced, and no other. -/
@[simp] theorem State.setFaultRec_rec (s : State) (c d : FaultCode) (r : FaultRecord) :
    (s.setFaultRec c r).faultRec d = if d = c then r else s.faultRec d := by
  unfold State.setFaultRec State.faultRec
  by_cases h : d = c
  · subst h
    simp
  · have : c.idx.val ≠ d.idx.val := fun e => h (FaultCode.idx_injective (Fin.ext e)).symm
    simp [h, this]

@[simp] theorem postEvent_rec (e : EventReport) (s : State) (d : FaultCode) :
    (postEvent e s).faultRec d = s.faultRec d := State.faultRec_congr (by simp) d

@[simp] theorem postState_rec (k : StateKind) (i : Nat) (s : State) (d : FaultCode) :
    (postState k i s).faultRec d = s.faultRec d := State.faultRec_congr (by simp) d

@[simp] theorem noteSummary_rec (b : FaultSummary) (s : State) (d : FaultCode) :
    (noteSummary b s).faultRec d = s.faultRec d := State.faultRec_congr (by simp) d

@[simp] theorem sendReply_rec (f : RxFrame) (a : Answer) (s : State) (d : FaultCode) :
    (sendReply f a s).faultRec d = s.faultRec d := State.faultRec_congr (by simp) d

theorem State.setPending_rec (s : State) (x : List Instr) (d : FaultCode) :
    (s.setPending x).faultRec d = s.faultRec d := rfl
@[simp] theorem State.setConfig_rec (s : State) (x : ConfigUnit) (d : FaultCode) :
    (s.setConfig x).faultRec d = s.faultRec d := rfl
@[simp] theorem State.setGuide_rec (s : State) (x : Guidance) (d : FaultCode) :
    (s.setGuide x).faultRec d = s.faultRec d := rfl
@[simp] theorem State.setMotion_rec (s : State) (x : Motion) (d : FaultCode) :
    (s.setMotion x).faultRec d = s.faultRec d := rfl
@[simp] theorem State.setZone_rec (s : State) (x : ZoneUnit) (d : FaultCode) :
    (s.setZone x).faultRec d = s.faultRec d := rfl
@[simp] theorem State.setSeat_rec (s : State) (x : SeatUnit) (d : FaultCode) :
    (s.setSeat x).faultRec d = s.faultRec d := rfl
@[simp] theorem State.setCue_rec (s : State) (x : CueUnit) (d : FaultCode) :
    (s.setCue x).faultRec d = s.faultRec d := rfl
@[simp] theorem State.setClip_rec (s : State) (x : ClipStore) (d : FaultCode) :
    (s.setClip x).faultRec d = s.faultRec d := rfl
@[simp] theorem State.setVoice_rec (s : State) (x : VoiceEngine) (d : FaultCode) :
    (s.setVoice x).faultRec d = s.faultRec d := rfl
@[simp] theorem State.setHost_rec (s : State) (x : HostLink) (d : FaultCode) :
    (s.setHost x).faultRec d = s.faultRec d := rfl

/-- The record of a code after a raising, and of every other code (R185). -/
@[simp] theorem recordRaise_rec (c d : FaultCode) (cls : FaultClass) (x : FaultDetail) (s : State) :
    (recordRaise c cls x s).faultRec d =
      if d = c then (s.faultRec c).raised cls x else s.faultRec d := by
  simp [recordRaise]

/-- A momentary condition ends; nothing else changes (R188). -/
@[simp] theorem endMomentary_rec (c d : FaultCode) (s : State) :
    (endMomentary c s).faultRec d =
      if d = c ∧ c.momentary = true then { s.faultRec c with active := false } else s.faultRec d := by
  unfold endMomentary
  by_cases hm : c.momentary = true <;> by_cases hd : d = c <;> simp [hm, hd]

/-- The record of a HOLD- or NOTE-class fault after its raising (R185, R187, R188). -/
@[simp] theorem raiseQuiet_rec (c d : FaultCode) (cls : FaultClass) (x : FaultDetail) (s : State) :
    (raiseQuiet c cls x s).faultRec d =
      if d = c then { (s.faultRec c).raised cls x with active := !c.momentary } else s.faultRec d := by
  unfold raiseQuiet
  by_cases hm : c.momentary = true <;> by_cases hd : d = c <;> simp [hm, hd, FaultRecord.raised]

/-- The record of a code whose condition its owner ends (R188). -/
@[simp] theorem endCond_rec (c d : FaultCode) (s : State) :
    (endCond c s).faultRec d =
      if d = c then
        { s.faultRec c with
          active := false
          latched := (s.faultRec c).latched && !((s.faultRec c).active && s.selfClears c) }
      else s.faultRec d := by
  unfold endCond
  cases ha : (s.faultRec c).active <;> cases hl : (s.faultRec c).latched <;>
    cases hs : s.selfClears c <;> by_cases hd : d = c <;> simp [ha, hl, hd]
  all_goals
    cases hr : s.faultRec c
    simp_all

/-- A change of motion state ends F05's condition in PARKED, STOPPED and ESTOP, and touches no other
record (R12, R48). -/
theorem changeMotion_rec (new : MotionState) (resume : Bool) (d : FaultCode) (s : State) :
    (changeMotion new resume s).faultRec d =
      if new.noRollback = true ∧ d = .f05 then { s.faultRec .f05 with active := false }
      else s.faultRec d := by
  have leave : ∀ (b : Bool) (x : State), (seatLeavesHold b x).faultRec d = x.faultRec d := by
    intro b x
    apply State.faultRec_congr
    unfold seatLeavesHold abortCheck
    cases b <;> dsimp only <;> cases x.seat.check <;> simp
  have pause : ∀ x : State, (evalPause x).faultRec d = x.faultRec d :=
    fun x => State.faultRec_congr (by simp) d
  have outs : ∀ x : State, (outputsOff x).faultRec d = x.faultRec d :=
    fun x => State.faultRec_congr (by simp) d
  have roll : ∀ x : State,
      (zeroRollback x).faultRec d =
        if d = .f05 then { x.faultRec .f05 with active := false } else x.faultRec d := by
    intro x
    simp [zeroRollback, State.selfClears]
  unfold changeMotion
  dsimp only
  rw [pause]
  cases new <;> by_cases hold : s.mstate = .hold <;>
    simp [MotionState.noRollback, hold, leave, outs, roll]

/-- A stop that is not an ESTOP touches no fault record. -/
theorem stopCause_rec (cause : StopCause) (d : FaultCode) (s : State) :
    (stopCause cause s).faultRec d = s.faultRec d := by
  have take : (takeStop .stopping cause s).faultRec d = s.faultRec d := by
    unfold takeStop moveTo
    dsimp only
    split <;> simp [changeMotion_rec, MotionState.noRollback, creepEnd, setStopRecord]
  have further : (furtherCause s).faultRec d = s.faultRec d := State.faultRec_congr (by simp) d
  unfold stopCause
  split <;> first | exact take | exact further

/-- The record of a STOP-class fault other than F01 after its raising, and every other record. -/
theorem raiseFault_rec {c : FaultCode} (hc : c ≠ .f01) (x : FaultDetail) (d : FaultCode) (s : State) :
    (raiseFault c x s).faultRec d =
      if d = c then { (s.faultRec c).raised c.cls x with active := !c.momentary } else s.faultRec d := by
  by_cases hq : c.cls = .stop
  · unfold raiseFault raiseAs actByClass
    rw [hq]
    simp only [noteSummary_rec, endMomentary_rec, if_neg hc, stopCause_rec, recordRaise_rec]
    by_cases hm : c.momentary = true <;> by_cases hd : d = c <;> simp [hm, hd, FaultRecord.raised]
  · rw [raiseFault_quiet c x s hq, raiseQuiet_rec]

end Sys2Proof.Machine
end

