-- ==== Sys2Proof/Laws/FrameUnits.lean ====
section
/-! SUPPORT. What each operation of the zone, drive, cue and guidance units and each motion request leaves
unchanged. -/

namespace Sys2Proof.Machine

@[simp] theorem closeAck_frame (cueId : Nat) (tag : Byte) (s : State) :
    (closeAck cueId tag s).pending = s.pending ∧
    (closeAck cueId tag s).config = s.config ∧
    (closeAck cueId tag s).guide = s.guide ∧
    (closeAck cueId tag s).motion = s.motion ∧
    (closeAck cueId tag s).zone = s.zone ∧
    (closeAck cueId tag s).seat = s.seat ∧
    (closeAck cueId tag s).clip = s.clip ∧
    (closeAck cueId tag s).voice = s.voice ∧
    (closeAck cueId tag s).fault = s.fault ∧
    (closeAck cueId tag s).host = s.host ∧
    (closeAck cueId tag s).mstate = s.mstate := by
  unfold closeAck
  dsimp only
  simp

@[simp] theorem cueNotSent_frame (f : SceneFrame) (sends : Option Nat) (s : State) :
    (cueNotSent f sends s).pending = s.pending ∧
    (cueNotSent f sends s).config = s.config ∧
    (cueNotSent f sends s).guide = s.guide ∧
    (cueNotSent f sends s).motion = s.motion ∧
    (cueNotSent f sends s).zone = s.zone ∧
    (cueNotSent f sends s).seat = s.seat ∧
    (cueNotSent f sends s).clip = s.clip ∧
    (cueNotSent f sends s).voice = s.voice ∧
    (cueNotSent f sends s).fault = s.fault ∧
    (cueNotSent f sends s).host.port = s.host.port ∧
    (cueNotSent f sends s).mstate = s.mstate := by
  unfold cueNotSent
  simp

@[simp] theorem cueSent_frame (f : SceneFrame) (s : State) :
    (cueSent f s).pending = s.pending ∧
    (cueSent f s).config = s.config ∧
    (cueSent f s).guide = s.guide ∧
    (cueSent f s).motion = s.motion ∧
    (cueSent f s).zone = s.zone ∧
    (cueSent f s).seat = s.seat ∧
    (cueSent f s).clip = s.clip ∧
    (cueSent f s).voice = s.voice ∧
    (cueSent f s).fault = s.fault ∧
    (cueSent f s).host = s.host ∧
    (cueSent f s).mstate = s.mstate := by
  unfold cueSent
  dsimp only
  simp

@[simp] theorem sortTable_frame (s : State) :
    (sortTable s).pending = s.pending ∧
    (sortTable s).config = s.config ∧
    (sortTable s).guide = s.guide ∧
    (sortTable s).motion = s.motion ∧
    (sortTable s).seat = s.seat ∧
    (sortTable s).cue = s.cue ∧
    (sortTable s).clip = s.clip ∧
    (sortTable s).voice = s.voice ∧
    (sortTable s).fault = s.fault ∧
    (sortTable s).host = s.host ∧
    (sortTable s).mstate = s.mstate := by
  unfold sortTable
  dsimp only
  simp

@[simp] theorem modEntry_frame (z : Nat) (f : Reservation → Reservation) (s : State) :
    (modEntry z f s).pending = s.pending ∧
    (modEntry z f s).config = s.config ∧
    (modEntry z f s).guide = s.guide ∧
    (modEntry z f s).motion = s.motion ∧
    (modEntry z f s).seat = s.seat ∧
    (modEntry z f s).cue = s.cue ∧
    (modEntry z f s).clip = s.clip ∧
    (modEntry z f s).voice = s.voice ∧
    (modEntry z f s).fault = s.fault ∧
    (modEntry z f s).host = s.host ∧
    (modEntry z f s).mstate = s.mstate := by
  unfold modEntry
  dsimp only
  simp

@[simp] theorem reportTable_frame (s : State) :
    (reportTable s).pending = s.pending ∧
    (reportTable s).config = s.config ∧
    (reportTable s).guide = s.guide ∧
    (reportTable s).motion = s.motion ∧
    (reportTable s).zone = s.zone ∧
    (reportTable s).seat = s.seat ∧
    (reportTable s).cue = s.cue ∧
    (reportTable s).clip = s.clip ∧
    (reportTable s).voice = s.voice ∧
    (reportTable s).fault = s.fault ∧
    (reportTable s).host.port = s.host.port ∧
    (reportTable s).mstate = s.mstate := by
  unfold reportTable
  simp

@[simp] theorem nextTag_frame (s : State) :
    (nextTag s).pending = s.pending ∧
    (nextTag s).config = s.config ∧
    (nextTag s).guide = s.guide ∧
    (nextTag s).motion = s.motion ∧
    (nextTag s).seat = s.seat ∧
    (nextTag s).cue = s.cue ∧
    (nextTag s).clip = s.clip ∧
    (nextTag s).voice = s.voice ∧
    (nextTag s).fault = s.fault ∧
    (nextTag s).host = s.host ∧
    (nextTag s).mstate = s.mstate := by
  unfold nextTag
  dsimp only
  simp

@[simp] theorem removeEntry_frame (z : Nat) (s : State) :
    (removeEntry z s).pending = s.pending ∧
    (removeEntry z s).config = s.config ∧
    (removeEntry z s).guide = s.guide ∧
    (removeEntry z s).motion = s.motion ∧
    (removeEntry z s).seat = s.seat ∧
    (removeEntry z s).cue = s.cue ∧
    (removeEntry z s).clip = s.clip ∧
    (removeEntry z s).voice = s.voice ∧
    (removeEntry z s).fault = s.fault ∧
    (removeEntry z s).host.port = s.host.port ∧
    (removeEntry z s).mstate = s.mstate := by
  unfold removeEntry
  dsimp only
  simp

@[simp] theorem sendEntry_frame (z : Nat) (s : State) :
    (sendEntry z s).pending = s.pending ∧
    (sendEntry z s).config = s.config ∧
    (sendEntry z s).guide = s.guide ∧
    (sendEntry z s).motion = s.motion ∧
    (sendEntry z s).seat = s.seat ∧
    (sendEntry z s).cue = s.cue ∧
    (sendEntry z s).clip = s.clip ∧
    (sendEntry z s).voice = s.voice ∧
    (sendEntry z s).fault = s.fault ∧
    (sendEntry z s).host = s.host ∧
    (sendEntry z s).mstate = s.mstate := by
  unfold sendEntry
  dsimp only
  (repeat' split) <;> simp

@[simp] theorem serveEntry_frame (s : State) (z : Nat) :
    (serveEntry s z).pending = s.pending ∧
    (serveEntry s z).config = s.config ∧
    (serveEntry s z).guide = s.guide ∧
    (serveEntry s z).motion = s.motion ∧
    (serveEntry s z).seat = s.seat ∧
    (serveEntry s z).cue = s.cue ∧
    (serveEntry s z).clip = s.clip ∧
    (serveEntry s z).voice = s.voice ∧
    (serveEntry s z).fault = s.fault ∧
    (serveEntry s z).host = s.host ∧
    (serveEntry s z).mstate = s.mstate := by
  unfold serveEntry
  (repeat' split) <;> simp

@[simp] theorem serveSendDue_frame (s : State) :
    (serveSendDue s).pending = s.pending ∧
    (serveSendDue s).config = s.config ∧
    (serveSendDue s).guide = s.guide ∧
    (serveSendDue s).motion = s.motion ∧
    (serveSendDue s).seat = s.seat ∧
    (serveSendDue s).cue = s.cue ∧
    (serveSendDue s).clip = s.clip ∧
    (serveSendDue s).voice = s.voice ∧
    (serveSendDue s).fault = s.fault ∧
    (serveSendDue s).host = s.host ∧
    (serveSendDue s).mstate = s.mstate := by
  unfold serveSendDue
  simp

@[simp] theorem reportZone_frame (r : ZoneReport) (s : State) :
    (reportZone r s).pending = s.pending ∧
    (reportZone r s).config = s.config ∧
    (reportZone r s).guide = s.guide ∧
    (reportZone r s).motion = s.motion ∧
    (reportZone r s).zone = s.zone ∧
    (reportZone r s).seat = s.seat ∧
    (reportZone r s).cue = s.cue ∧
    (reportZone r s).clip = s.clip ∧
    (reportZone r s).voice = s.voice ∧
    (reportZone r s).fault = s.fault ∧
    (reportZone r s).host.port = s.host.port ∧
    (reportZone r s).mstate = s.mstate := by
  unfold reportZone
  simp

@[simp] theorem returnRelease_frame (z : Nat) (tag : Byte) (s : State) :
    (returnRelease z tag s).pending = s.pending ∧
    (returnRelease z tag s).config = s.config ∧
    (returnRelease z tag s).guide = s.guide ∧
    (returnRelease z tag s).motion = s.motion ∧
    (returnRelease z tag s).seat = s.seat ∧
    (returnRelease z tag s).cue = s.cue ∧
    (returnRelease z tag s).clip = s.clip ∧
    (returnRelease z tag s).voice = s.voice ∧
    (returnRelease z tag s).fault = s.fault ∧
    (returnRelease z tag s).host.port = s.host.port ∧
    (returnRelease z tag s).mstate = s.mstate := by
  unfold returnRelease
  dsimp only
  (repeat' split) <;> simp

@[simp] theorem putScene_frame (f : SceneFrame) (s : State) :
    (putScene f s).pending = s.pending ∧
    (putScene f s).config = s.config ∧
    (putScene f s).guide = s.guide ∧
    (putScene f s).motion = s.motion ∧
    (putScene f s).seat = s.seat ∧
    (putScene f s).clip = s.clip ∧
    (putScene f s).voice = s.voice ∧
    (putScene f s).fault = s.fault ∧
    (putScene f s).host.port = s.host.port ∧
    (putScene f s).mstate = s.mstate := by
  unfold putScene
  dsimp only
  (repeat' split) <;> simp

@[simp] theorem putAnswer_frame (a : LongFrame) (s : State) :
    (putAnswer a s).pending = s.pending ∧
    (putAnswer a s).config = s.config ∧
    (putAnswer a s).guide = s.guide ∧
    (putAnswer a s).motion = s.motion ∧
    (putAnswer a s).seat = s.seat ∧
    (putAnswer a s).clip = s.clip ∧
    (putAnswer a s).voice = s.voice ∧
    (putAnswer a s).fault = s.fault ∧
    (putAnswer a s).host.port = s.host.port ∧
    (putAnswer a s).mstate = s.mstate := by
  unfold putAnswer
  dsimp only
  (repeat' split) <;> simp

@[simp] theorem putBeacon_frame (b : BeaconFrame) (s : State) :
    (putBeacon b s).pending = s.pending ∧
    (putBeacon b s).config = s.config ∧
    (putBeacon b s).guide = s.guide ∧
    (putBeacon b s).motion = s.motion ∧
    (putBeacon b s).seat = s.seat ∧
    (putBeacon b s).cue = s.cue ∧
    (putBeacon b s).clip = s.clip ∧
    (putBeacon b s).voice = s.voice ∧
    (putBeacon b s).fault = s.fault ∧
    (putBeacon b s).host = s.host ∧
    (putBeacon b s).mstate = s.mstate := by
  unfold putBeacon
  dsimp only
  (repeat' split) <;> simp

@[simp] theorem recomputeHold_frame (s : State) :
    (recomputeHold s).pending = s.pending ∧
    (recomputeHold s).config = s.config ∧
    (recomputeHold s).guide = s.guide ∧
    (recomputeHold s).motion = s.motion ∧
    (recomputeHold s).seat = s.seat ∧
    (recomputeHold s).cue = s.cue ∧
    (recomputeHold s).clip = s.clip ∧
    (recomputeHold s).voice = s.voice ∧
    (recomputeHold s).fault = s.fault ∧
    (recomputeHold s).host = s.host ∧
    (recomputeHold s).mstate = s.mstate := by
  unfold recomputeHold
  dsimp only
  simp

@[simp] theorem testF10_frame (cause : FaultDetail) (s : State) :
    (testF10 cause s).pending = s.pending ∧
    (testF10 cause s).config = s.config ∧
    (testF10 cause s).zone = s.zone ∧
    (testF10 cause s).clip = s.clip ∧
    (testF10 cause s).host.port = s.host.port := by
  unfold testF10
  (repeat' split) <;> simp

@[simp] theorem claimZone_frame (z : Nat) (s : State) :
    (claimZone z s).pending = s.pending ∧
    (claimZone z s).config = s.config ∧
    (claimZone z s).guide = s.guide ∧
    (claimZone z s).motion = s.motion ∧
    (claimZone z s).seat = s.seat ∧
    (claimZone z s).cue = s.cue ∧
    (claimZone z s).clip = s.clip ∧
    (claimZone z s).voice = s.voice ∧
    (claimZone z s).fault = s.fault ∧
    (claimZone z s).host.port = s.host.port ∧
    (claimZone z s).mstate = s.mstate := by
  unfold claimZone
  dsimp only
  simp

@[simp] theorem restartClaim_frame (z : Nat) (s : State) :
    (restartClaim z s).pending = s.pending ∧
    (restartClaim z s).config = s.config ∧
    (restartClaim z s).guide = s.guide ∧
    (restartClaim z s).motion = s.motion ∧
    (restartClaim z s).seat = s.seat ∧
    (restartClaim z s).cue = s.cue ∧
    (restartClaim z s).clip = s.clip ∧
    (restartClaim z s).voice = s.voice ∧
    (restartClaim z s).fault = s.fault ∧
    (restartClaim z s).host.port = s.host.port ∧
    (restartClaim z s).mstate = s.mstate := by
  unfold restartClaim
  dsimp only
  (repeat' split) <;> simp

@[simp] theorem startRelease_frame (z : Nat) (s : State) :
    (startRelease z s).pending = s.pending ∧
    (startRelease z s).config = s.config ∧
    (startRelease z s).guide = s.guide ∧
    (startRelease z s).motion = s.motion ∧
    (startRelease z s).seat = s.seat ∧
    (startRelease z s).cue = s.cue ∧
    (startRelease z s).clip = s.clip ∧
    (startRelease z s).voice = s.voice ∧
    (startRelease z s).fault = s.fault ∧
    (startRelease z s).host.port = s.host.port ∧
    (startRelease z s).mstate = s.mstate := by
  unfold startRelease
  dsimp only
  simp

@[simp] theorem claimTest_frame (s : State) :
    (claimTest s).pending = s.pending ∧
    (claimTest s).config = s.config ∧
    (claimTest s).guide = s.guide ∧
    (claimTest s).motion = s.motion ∧
    (claimTest s).seat = s.seat ∧
    (claimTest s).cue = s.cue ∧
    (claimTest s).clip = s.clip ∧
    (claimTest s).voice = s.voice ∧
    (claimTest s).fault = s.fault ∧
    (claimTest s).host.port = s.host.port ∧
    (claimTest s).mstate = s.mstate := by
  unfold claimTest
  dsimp only
  (repeat' split) <;> simp

@[simp] theorem releaseOne_frame (z : Nat) (s : State) :
    (releaseOne z s).pending = s.pending ∧
    (releaseOne z s).config = s.config ∧
    (releaseOne z s).guide = s.guide ∧
    (releaseOne z s).motion = s.motion ∧
    (releaseOne z s).seat = s.seat ∧
    (releaseOne z s).cue = s.cue ∧
    (releaseOne z s).clip = s.clip ∧
    (releaseOne z s).voice = s.voice ∧
    (releaseOne z s).fault = s.fault ∧
    (releaseOne z s).host.port = s.host.port ∧
    (releaseOne z s).mstate = s.mstate := by
  unfold releaseOne
  (repeat' split) <;> simp

@[simp] theorem releaseTest_frame (s : State) :
    (releaseTest s).pending = s.pending ∧
    (releaseTest s).config = s.config ∧
    (releaseTest s).clip = s.clip ∧
    (releaseTest s).host.port = s.host.port := by
  unfold releaseTest
  simp

@[simp] theorem violationTest_frame (u : PosUpdate) (s : State) :
    (violationTest u s).pending = s.pending ∧
    (violationTest u s).config = s.config ∧
    (violationTest u s).zone = s.zone ∧
    (violationTest u s).clip = s.clip ∧
    (violationTest u s).host.port = s.host.port := by
  unfold violationTest
  (repeat' split) <;> simp

@[simp] theorem zoneUpdate_frame (u : PosUpdate) (s : State) :
    (zoneUpdate u s).pending = s.pending ∧
    (zoneUpdate u s).config = s.config ∧
    (zoneUpdate u s).clip = s.clip ∧
    (zoneUpdate u s).host.port = s.host.port := by
  unfold zoneUpdate
  dsimp only
  (repeat' split) <;> simp

@[simp] theorem validFrame_frame (s : State) :
    (validFrame s).pending = s.pending ∧
    (validFrame s).config = s.config ∧
    (validFrame s).clip = s.clip ∧
    (validFrame s).host.port = s.host.port := by
  unfold validFrame
  dsimp only
  (repeat' split) <;> simp

@[simp] theorem countStale_frame (s : State) :
    (countStale s).pending = s.pending ∧
    (countStale s).config = s.config ∧
    (countStale s).guide = s.guide ∧
    (countStale s).motion = s.motion ∧
    (countStale s).seat = s.seat ∧
    (countStale s).cue = s.cue ∧
    (countStale s).clip = s.clip ∧
    (countStale s).voice = s.voice ∧
    (countStale s).fault = s.fault ∧
    (countStale s).host = s.host ∧
    (countStale s).mstate = s.mstate := by
  unfold countStale
  dsimp only
  simp

@[simp] theorem countDiscard_frame (s : State) :
    (countDiscard s).pending = s.pending ∧
    (countDiscard s).config = s.config ∧
    (countDiscard s).guide = s.guide ∧
    (countDiscard s).motion = s.motion ∧
    (countDiscard s).seat = s.seat ∧
    (countDiscard s).cue = s.cue ∧
    (countDiscard s).clip = s.clip ∧
    (countDiscard s).voice = s.voice ∧
    (countDiscard s).fault = s.fault ∧
    (countDiscard s).host = s.host ∧
    (countDiscard s).mstate = s.mstate := by
  unfold countDiscard
  dsimp only
  simp

@[simp] theorem dropLong_frame (withCount : Bool) (s : State) (f : LongFrame) :
    (dropLong withCount s f).pending = s.pending ∧
    (dropLong withCount s f).config = s.config ∧
    (dropLong withCount s f).guide = s.guide ∧
    (dropLong withCount s f).motion = s.motion ∧
    (dropLong withCount s f).zone = s.zone ∧
    (dropLong withCount s f).seat = s.seat ∧
    (dropLong withCount s f).clip = s.clip ∧
    (dropLong withCount s f).voice = s.voice ∧
    (dropLong withCount s f).fault = s.fault ∧
    (dropLong withCount s f).host.port = s.host.port ∧
    (dropLong withCount s f).mstate = s.mstate := by
  unfold dropLong
  (repeat' split) <;> simp

@[simp] theorem emptyQueues_frame (withCount : Bool) (s : State) :
    (emptyQueues withCount s).pending = s.pending ∧
    (emptyQueues withCount s).config = s.config ∧
    (emptyQueues withCount s).guide = s.guide ∧
    (emptyQueues withCount s).motion = s.motion ∧
    (emptyQueues withCount s).seat = s.seat ∧
    (emptyQueues withCount s).clip = s.clip ∧
    (emptyQueues withCount s).voice = s.voice ∧
    (emptyQueues withCount s).fault = s.fault ∧
    (emptyQueues withCount s).host.port = s.host.port ∧
    (emptyQueues withCount s).mstate = s.mstate := by
  unfold emptyQueues
  dsimp only
  simp

@[simp] theorem emptyTable_frame (s : State) :
    (emptyTable s).pending = s.pending ∧
    (emptyTable s).config = s.config ∧
    (emptyTable s).guide = s.guide ∧
    (emptyTable s).motion = s.motion ∧
    (emptyTable s).seat = s.seat ∧
    (emptyTable s).cue = s.cue ∧
    (emptyTable s).clip = s.clip ∧
    (emptyTable s).voice = s.voice ∧
    (emptyTable s).fault = s.fault ∧
    (emptyTable s).host.port = s.host.port ∧
    (emptyTable s).mstate = s.mstate := by
  unfold emptyTable
  dsimp only
  (repeat' split) <;> simp

@[simp] theorem startLink_frame (s : State) :
    (startLink s).pending = s.pending ∧
    (startLink s).config = s.config ∧
    (startLink s).guide = s.guide ∧
    (startLink s).motion = s.motion ∧
    (startLink s).seat = s.seat ∧
    (startLink s).cue = s.cue ∧
    (startLink s).clip = s.clip ∧
    (startLink s).voice = s.voice ∧
    (startLink s).fault = s.fault ∧
    (startLink s).host = s.host ∧
    (startLink s).mstate = s.mstate := by
  unfold startLink
  dsimp only
  simp

@[simp] theorem stopLink_frame (s : State) :
    (stopLink s).pending = s.pending ∧
    (stopLink s).config = s.config ∧
    (stopLink s).clip = s.clip ∧
    (stopLink s).host.port = s.host.port := by
  unfold stopLink
  dsimp only
  simp

@[simp] theorem updateStill_frame (s : State) :
    (updateStill s).pending = s.pending ∧
    (updateStill s).config = s.config ∧
    (updateStill s).guide = s.guide ∧
    (updateStill s).zone = s.zone ∧
    (updateStill s).seat = s.seat ∧
    (updateStill s).cue = s.cue ∧
    (updateStill s).clip = s.clip ∧
    (updateStill s).voice = s.voice ∧
    (updateStill s).fault = s.fault ∧
    (updateStill s).host = s.host ∧
    (updateStill s).mstate = s.mstate := by
  unfold updateStill
  dsimp only
  (repeat' split) <;> simp

@[simp] theorem creepTest_frame (u : PosUpdate) (s : State) :
    (creepTest u s).pending = s.pending ∧
    (creepTest u s).config = s.config ∧
    (creepTest u s).zone = s.zone ∧
    (creepTest u s).clip = s.clip ∧
    (creepTest u s).host.port = s.host.port := by
  unfold creepTest
  dsimp only
  (repeat' split) <;> simp

@[simp] theorem stoppedTest_frame (s : State) :
    (stoppedTest s).pending = s.pending ∧
    (stoppedTest s).config = s.config ∧
    (stoppedTest s).zone = s.zone ∧
    (stoppedTest s).clip = s.clip ∧
    (stoppedTest s).host.port = s.host.port := by
  unfold stoppedTest
  (repeat' split) <;> simp

@[simp] theorem armingTest_frame (s : State) :
    (armingTest s).pending = s.pending ∧
    (armingTest s).config = s.config ∧
    (armingTest s).guide = s.guide ∧
    (armingTest s).zone = s.zone ∧
    (armingTest s).seat = s.seat ∧
    (armingTest s).cue = s.cue ∧
    (armingTest s).clip = s.clip ∧
    (armingTest s).voice = s.voice ∧
    (armingTest s).fault = s.fault ∧
    (armingTest s).host = s.host ∧
    (armingTest s).mstate = s.mstate := by
  unfold armingTest
  dsimp only
  (repeat' split) <;> simp

@[simp] theorem arrivalTest_frame (s : State) :
    (arrivalTest s).pending = s.pending ∧
    (arrivalTest s).config = s.config ∧
    (arrivalTest s).zone = s.zone ∧
    (arrivalTest s).clip = s.clip ∧
    (arrivalTest s).host.port = s.host.port := by
  unfold arrivalTest
  dsimp only
  (repeat' split) <;> simp

@[simp] theorem speedDemand_frame (s : State) :
    (speedDemand s).pending = s.pending ∧
    (speedDemand s).config = s.config ∧
    (speedDemand s).guide = s.guide ∧
    (speedDemand s).zone = s.zone ∧
    (speedDemand s).seat = s.seat ∧
    (speedDemand s).cue = s.cue ∧
    (speedDemand s).clip = s.clip ∧
    (speedDemand s).voice = s.voice ∧
    (speedDemand s).fault = s.fault ∧
    (speedDemand s).host = s.host ∧
    (speedDemand s).mstate = s.mstate := by
  unfold speedDemand
  dsimp only
  (repeat' split) <;> simp

@[simp] theorem missTest_frame (s : State) :
    (missTest s).pending = s.pending ∧
    (missTest s).config = s.config ∧
    (missTest s).zone = s.zone ∧
    (missTest s).clip = s.clip ∧
    (missTest s).host.port = s.host.port := by
  unfold missTest
  dsimp only
  (repeat' split) <;> simp

@[simp] theorem sendDemand_frame (s : State) :
    (sendDemand s).pending = s.pending ∧
    (sendDemand s).config = s.config ∧
    (sendDemand s).guide = s.guide ∧
    (sendDemand s).zone = s.zone ∧
    (sendDemand s).seat = s.seat ∧
    (sendDemand s).cue = s.cue ∧
    (sendDemand s).clip = s.clip ∧
    (sendDemand s).voice = s.voice ∧
    (sendDemand s).fault = s.fault ∧
    (sendDemand s).host = s.host ∧
    (sendDemand s).mstate = s.mstate := by
  unfold sendDemand
  dsimp only
  (repeat' split) <;> simp

@[simp] theorem motionUpdate_frame (u : PosUpdate) (s : State) :
    (motionUpdate u s).pending = s.pending ∧
    (motionUpdate u s).config = s.config ∧
    (motionUpdate u s).zone = s.zone ∧
    (motionUpdate u s).clip = s.clip ∧
    (motionUpdate u s).host.port = s.host.port := by
  unfold motionUpdate
  (repeat' split) <;> simp

@[simp] theorem discardFeedback_frame (s : State) :
    (discardFeedback s).pending = s.pending ∧
    (discardFeedback s).config = s.config ∧
    (discardFeedback s).guide = s.guide ∧
    (discardFeedback s).zone = s.zone ∧
    (discardFeedback s).seat = s.seat ∧
    (discardFeedback s).cue = s.cue ∧
    (discardFeedback s).clip = s.clip ∧
    (discardFeedback s).voice = s.voice ∧
    (discardFeedback s).fault = s.fault ∧
    (discardFeedback s).host = s.host ∧
    (discardFeedback s).mstate = s.mstate := by
  unfold discardFeedback
  dsimp only
  simp

@[simp] theorem feedbackRecord_frame (f : FeedbackFields) (s : State) :
    (feedbackRecord f s).pending = s.pending ∧
    (feedbackRecord f s).config = s.config ∧
    (feedbackRecord f s).zone = s.zone ∧
    (feedbackRecord f s).clip = s.clip ∧
    (feedbackRecord f s).host.port = s.host.port := by
  unfold feedbackRecord
  dsimp only
  (repeat' split) <;> simp

@[simp] theorem trackingTest_frame (f : FeedbackFields) (d : SentDemand) (s : State) :
    (trackingTest f d s).pending = s.pending ∧
    (trackingTest f d s).config = s.config ∧
    (trackingTest f d s).zone = s.zone ∧
    (trackingTest f d s).clip = s.clip ∧
    (trackingTest f d s).host.port = s.host.port := by
  unfold trackingTest
  dsimp only
  (repeat' split) <;> simp

@[simp] theorem answerDemand_frame (d : SentDemand) (s : State) :
    (answerDemand d s).pending = s.pending ∧
    (answerDemand d s).config = s.config ∧
    (answerDemand d s).guide = s.guide ∧
    (answerDemand d s).zone = s.zone ∧
    (answerDemand d s).seat = s.seat ∧
    (answerDemand d s).cue = s.cue ∧
    (answerDemand d s).clip = s.clip ∧
    (answerDemand d s).voice = s.voice ∧
    (answerDemand d s).host.port = s.host.port ∧
    (answerDemand d s).mstate = s.mstate := by
  unfold answerDemand
  dsimp only
  simp

@[simp] theorem startDrive_frame (s : State) :
    (startDrive s).pending = s.pending ∧
    (startDrive s).config = s.config ∧
    (startDrive s).guide = s.guide ∧
    (startDrive s).zone = s.zone ∧
    (startDrive s).seat = s.seat ∧
    (startDrive s).cue = s.cue ∧
    (startDrive s).clip = s.clip ∧
    (startDrive s).voice = s.voice ∧
    (startDrive s).host.port = s.host.port ∧
    (startDrive s).mstate = s.mstate := by
  unfold startDrive
  dsimp only
  simp

@[simp] theorem writeFlag_frame (i : Fin 32) (v : Bool) (s : State) :
    (writeFlag i v s).pending = s.pending ∧
    (writeFlag i v s).config = s.config ∧
    (writeFlag i v s).guide = s.guide ∧
    (writeFlag i v s).motion = s.motion ∧
    (writeFlag i v s).zone = s.zone ∧
    (writeFlag i v s).seat = s.seat ∧
    (writeFlag i v s).clip = s.clip ∧
    (writeFlag i v s).voice = s.voice ∧
    (writeFlag i v s).fault = s.fault ∧
    (writeFlag i v s).host.port = s.host.port ∧
    (writeFlag i v s).mstate = s.mstate := by
  unfold writeFlag
  dsimp only
  (repeat' split) <;> simp

@[simp] theorem setOutput_frame (o : Fin 8) (x : OutputState) (s : State) :
    (setOutput o x s).pending = s.pending ∧
    (setOutput o x s).config = s.config ∧
    (setOutput o x s).guide = s.guide ∧
    (setOutput o x s).motion = s.motion ∧
    (setOutput o x s).zone = s.zone ∧
    (setOutput o x s).seat = s.seat ∧
    (setOutput o x s).clip = s.clip ∧
    (setOutput o x s).voice = s.voice ∧
    (setOutput o x s).fault = s.fault ∧
    (setOutput o x s).host = s.host ∧
    (setOutput o x s).mstate = s.mstate := by
  unfold setOutput
  dsimp only
  simp

@[simp] theorem markSpan_frame (lo hi : Nat) (o : CueOutcome) (s : State) :
    (markSpan lo hi o s).pending = s.pending ∧
    (markSpan lo hi o s).config = s.config ∧
    (markSpan lo hi o s).guide = s.guide ∧
    (markSpan lo hi o s).motion = s.motion ∧
    (markSpan lo hi o s).zone = s.zone ∧
    (markSpan lo hi o s).seat = s.seat ∧
    (markSpan lo hi o s).clip = s.clip ∧
    (markSpan lo hi o s).voice = s.voice ∧
    (markSpan lo hi o s).fault = s.fault ∧
    (markSpan lo hi o s).host = s.host ∧
    (markSpan lo hi o s).mstate = s.mstate := by
  unfold markSpan
  dsimp only
  simp

@[simp] theorem newLap_frame (lap : Half) (s : State) :
    (newLap lap s).pending = s.pending ∧
    (newLap lap s).config = s.config ∧
    (newLap lap s).guide = s.guide ∧
    (newLap lap s).motion = s.motion ∧
    (newLap lap s).zone = s.zone ∧
    (newLap lap s).seat = s.seat ∧
    (newLap lap s).clip = s.clip ∧
    (newLap lap s).voice = s.voice ∧
    (newLap lap s).fault = s.fault ∧
    (newLap lap s).host.port = s.host.port ∧
    (newLap lap s).mstate = s.mstate := by
  unfold newLap
  dsimp only
  (repeat' split) <;> simp

@[simp] theorem placeCues_frame (cause : PlacingCause) (front : Nat) (s : State) :
    (placeCues cause front s).pending = s.pending ∧
    (placeCues cause front s).config = s.config ∧
    (placeCues cause front s).guide = s.guide ∧
    (placeCues cause front s).motion = s.motion ∧
    (placeCues cause front s).zone = s.zone ∧
    (placeCues cause front s).seat = s.seat ∧
    (placeCues cause front s).clip = s.clip ∧
    (placeCues cause front s).voice = s.voice ∧
    (placeCues cause front s).fault = s.fault ∧
    (placeCues cause front s).host.port = s.host.port ∧
    (placeCues cause front s).mstate = s.mstate := by
  unfold placeCues
  dsimp only
  (repeat' split) <;> simp

@[simp] theorem cueVoiceStart_frame (id : Nat) (late : Bool) (v : Fin 8) (clip gain : Nat) (routes : Routes) (hold : HoldPolicy) (loop : Bool) (s : State) :
    (cueVoiceStart id late v clip gain routes hold loop s).pending = s.pending ∧
    (cueVoiceStart id late v clip gain routes hold loop s).config = s.config ∧
    (cueVoiceStart id late v clip gain routes hold loop s).guide = s.guide ∧
    (cueVoiceStart id late v clip gain routes hold loop s).motion = s.motion ∧
    (cueVoiceStart id late v clip gain routes hold loop s).zone = s.zone ∧
    (cueVoiceStart id late v clip gain routes hold loop s).seat = s.seat ∧
    (cueVoiceStart id late v clip gain routes hold loop s).fault = s.fault ∧
    (cueVoiceStart id late v clip gain routes hold loop s).host.port = s.host.port ∧
    (cueVoiceStart id late v clip gain routes hold loop s).clip.mem = s.clip.mem ∧
    (cueVoiceStart id late v clip gain routes hold loop s).mstate = s.mstate := by
  unfold cueVoiceStart
  (repeat' split) <;> simp

@[simp] theorem takeSceneTag_frame (s : State) :
    (takeSceneTag s).pending = s.pending ∧
    (takeSceneTag s).config = s.config ∧
    (takeSceneTag s).guide = s.guide ∧
    (takeSceneTag s).motion = s.motion ∧
    (takeSceneTag s).zone = s.zone ∧
    (takeSceneTag s).seat = s.seat ∧
    (takeSceneTag s).clip = s.clip ∧
    (takeSceneTag s).voice = s.voice ∧
    (takeSceneTag s).fault = s.fault ∧
    (takeSceneTag s).host = s.host ∧
    (takeSceneTag s).mstate = s.mstate := by
  unfold takeSceneTag
  dsimp only
  simp

@[simp] theorem fireScene_frame (id : Nat) (late : Bool) (controller number : Nat) (ack : Bool) (s : State) :
    (fireScene id late controller number ack s).pending = s.pending ∧
    (fireScene id late controller number ack s).config = s.config ∧
    (fireScene id late controller number ack s).guide = s.guide ∧
    (fireScene id late controller number ack s).motion = s.motion ∧
    (fireScene id late controller number ack s).seat = s.seat ∧
    (fireScene id late controller number ack s).clip = s.clip ∧
    (fireScene id late controller number ack s).voice = s.voice ∧
    (fireScene id late controller number ack s).fault = s.fault ∧
    (fireScene id late controller number ack s).host.port = s.host.port ∧
    (fireScene id late controller number ack s).mstate = s.mstate := by
  unfold fireScene
  dsimp only
  (repeat' split) <;> simp

@[simp] theorem fireCue_frame (id : Nat) (late : Bool) (k : CueKind) (s : State) :
    (fireCue id late k s).pending = s.pending ∧
    (fireCue id late k s).config = s.config ∧
    (fireCue id late k s).guide = s.guide ∧
    (fireCue id late k s).motion = s.motion ∧
    (fireCue id late k s).seat = s.seat ∧
    (fireCue id late k s).fault = s.fault ∧
    (fireCue id late k s).host.port = s.host.port ∧
    (fireCue id late k s).clip.mem = s.clip.mem ∧
    (fireCue id late k s).mstate = s.mstate := by
  unfold fireCue
  (repeat' split) <;> simp

@[simp] theorem takeCue_frame (i : Nat) (c : Cue) (front : Nat) (s : State) :
    (takeCue i c front s).pending = s.pending ∧
    (takeCue i c front s).config = s.config ∧
    (takeCue i c front s).guide = s.guide ∧
    (takeCue i c front s).motion = s.motion ∧
    (takeCue i c front s).seat = s.seat ∧
    (takeCue i c front s).fault = s.fault ∧
    (takeCue i c front s).host.port = s.host.port ∧
    (takeCue i c front s).clip.mem = s.clip.mem ∧
    (takeCue i c front s).mstate = s.mstate := by
  unfold takeCue
  dsimp only
  (repeat' split) <;> simp

@[simp] theorem takeCues_frame (n front : Nat) (s : State) :
    (takeCues n front s).pending = s.pending ∧
    (takeCues n front s).config = s.config ∧
    (takeCues n front s).guide = s.guide ∧
    (takeCues n front s).motion = s.motion ∧
    (takeCues n front s).seat = s.seat ∧
    (takeCues n front s).fault = s.fault ∧
    (takeCues n front s).host.port = s.host.port ∧
    (takeCues n front s).clip.mem = s.clip.mem ∧
    (takeCues n front s).mstate = s.mstate := by
  induction n generalizing s with
  | zero => simp [takeCues]
  | succ n ih =>
    unfold takeCues
    (repeat' split) <;> simp [ih]

@[simp] theorem cueUpdate_frame (u : PosUpdate) (s : State) :
    (cueUpdate u s).pending = s.pending ∧
    (cueUpdate u s).config = s.config ∧
    (cueUpdate u s).guide = s.guide ∧
    (cueUpdate u s).motion = s.motion ∧
    (cueUpdate u s).seat = s.seat ∧
    (cueUpdate u s).fault = s.fault ∧
    (cueUpdate u s).host.port = s.host.port ∧
    (cueUpdate u s).clip.mem = s.clip.mem ∧
    (cueUpdate u s).mstate = s.mstate := by
  unfold cueUpdate
  dsimp only
  (repeat' split) <;> simp

@[simp] theorem startGuideTimer_frame (s : State) :
    (startGuideTimer s).pending = s.pending ∧
    (startGuideTimer s).config = s.config ∧
    (startGuideTimer s).motion = s.motion ∧
    (startGuideTimer s).zone = s.zone ∧
    (startGuideTimer s).seat = s.seat ∧
    (startGuideTimer s).cue = s.cue ∧
    (startGuideTimer s).clip = s.clip ∧
    (startGuideTimer s).voice = s.voice ∧
    (startGuideTimer s).host.port = s.host.port ∧
    (startGuideTimer s).mstate = s.mstate := by
  unfold startGuideTimer
  dsimp only
  simp

@[simp] theorem stopGuideTimer_frame (s : State) :
    (stopGuideTimer s).pending = s.pending ∧
    (stopGuideTimer s).config = s.config ∧
    (stopGuideTimer s).motion = s.motion ∧
    (stopGuideTimer s).zone = s.zone ∧
    (stopGuideTimer s).seat = s.seat ∧
    (stopGuideTimer s).cue = s.cue ∧
    (stopGuideTimer s).clip = s.clip ∧
    (stopGuideTimer s).voice = s.voice ∧
    (stopGuideTimer s).host.port = s.host.port ∧
    (stopGuideTimer s).mstate = s.mstate := by
  unfold stopGuideTimer
  dsimp only
  simp

@[simp] theorem readOdometer_frame (s : State) :
    (readOdometer s).pending = s.pending ∧
    (readOdometer s).config = s.config ∧
    (readOdometer s).motion = s.motion ∧
    (readOdometer s).zone = s.zone ∧
    (readOdometer s).seat = s.seat ∧
    (readOdometer s).cue = s.cue ∧
    (readOdometer s).clip = s.clip ∧
    (readOdometer s).voice = s.voice ∧
    (readOdometer s).fault = s.fault ∧
    (readOdometer s).host = s.host ∧
    (readOdometer s).mstate = s.mstate := by
  unfold readOdometer
  dsimp only
  simp

@[simp] theorem updateRollback_frame (movement : Int) (s : State) :
    (updateRollback movement s).pending = s.pending ∧
    (updateRollback movement s).config = s.config ∧
    (updateRollback movement s).zone = s.zone ∧
    (updateRollback movement s).clip = s.clip ∧
    (updateRollback movement s).host.port = s.host.port := by
  unfold updateRollback
  dsimp only
  (repeat' split) <;> simp

@[simp] theorem odometry_frame (s : State) :
    (odometry s).pending = s.pending ∧
    (odometry s).config = s.config ∧
    (odometry s).zone = s.zone ∧
    (odometry s).clip = s.clip ∧
    (odometry s).host.port = s.host.port := by
  unfold odometry
  dsimp only
  simp

@[simp] theorem takeReading_frame (g : GuideSample) (s : State) :
    (takeReading g s).pending = s.pending ∧
    (takeReading g s).config = s.config ∧
    (takeReading g s).zone = s.zone ∧
    (takeReading g s).clip = s.clip ∧
    (takeReading g s).host.port = s.host.port := by
  unfold takeReading
  dsimp only
  (repeat' split) <;> simp

@[simp] theorem setEst_frame (e : Estimate) (s : State) :
    (setEst e s).pending = s.pending ∧
    (setEst e s).config = s.config ∧
    (setEst e s).motion = s.motion ∧
    (setEst e s).zone = s.zone ∧
    (setEst e s).seat = s.seat ∧
    (setEst e s).cue = s.cue ∧
    (setEst e s).clip = s.clip ∧
    (setEst e s).voice = s.voice ∧
    (setEst e s).fault = s.fault ∧
    (setEst e s).host = s.host ∧
    (setEst e s).mstate = s.mstate := by
  unfold setEst
  dsimp only
  simp

@[simp] theorem reportPosition_frame (s : State) :
    (reportPosition s).pending = s.pending ∧
    (reportPosition s).config = s.config ∧
    (reportPosition s).guide = s.guide ∧
    (reportPosition s).motion = s.motion ∧
    (reportPosition s).zone = s.zone ∧
    (reportPosition s).seat = s.seat ∧
    (reportPosition s).cue = s.cue ∧
    (reportPosition s).clip = s.clip ∧
    (reportPosition s).voice = s.voice ∧
    (reportPosition s).fault = s.fault ∧
    (reportPosition s).host.port = s.host.port ∧
    (reportPosition s).mstate = s.mstate := by
  unfold reportPosition
  simp

@[simp] theorem losePosition_frame (cause : LostCause) (s : State) :
    (losePosition cause s).pending = s.pending ∧
    (losePosition cause s).config = s.config ∧
    (losePosition cause s).zone = s.zone ∧
    (losePosition cause s).clip = s.clip ∧
    (losePosition cause s).host.port = s.host.port := by
  unfold losePosition
  dsimp only
  simp

@[simp] theorem acceptMarker_frame (eps : Int) (s : State) :
    (acceptMarker eps s).pending = s.pending ∧
    (acceptMarker eps s).config = s.config ∧
    (acceptMarker eps s).motion = s.motion ∧
    (acceptMarker eps s).zone = s.zone ∧
    (acceptMarker eps s).seat = s.seat ∧
    (acceptMarker eps s).cue = s.cue ∧
    (acceptMarker eps s).clip = s.clip ∧
    (acceptMarker eps s).voice = s.voice ∧
    (acceptMarker eps s).host.port = s.host.port ∧
    (acceptMarker eps s).mstate = s.mstate := by
  unfold acceptMarker
  simp

@[simp] theorem mismatchMarker_frame (code : Code) (pos : Nat) (eps : Int) (s : State) :
    (mismatchMarker code pos eps s).pending = s.pending ∧
    (mismatchMarker code pos eps s).config = s.config ∧
    (mismatchMarker code pos eps s).zone = s.zone ∧
    (mismatchMarker code pos eps s).clip = s.clip ∧
    (mismatchMarker code pos eps s).host.port = s.host.port := by
  unfold mismatchMarker
  dsimp only
  (repeat' split) <;> simp

@[simp] theorem handleMarker_frame (code : Code) (s : State) :
    (handleMarker code s).1.pending = s.pending ∧
    (handleMarker code s).1.config = s.config ∧
    (handleMarker code s).1.zone = s.zone ∧
    (handleMarker code s).1.clip = s.clip ∧
    (handleMarker code s).1.host.port = s.host.port := by
  unfold handleMarker
  dsimp only
  (repeat' split) <;> simp

@[simp] theorem gapTest_frame (s : State) :
    (gapTest s).pending = s.pending ∧
    (gapTest s).config = s.config ∧
    (gapTest s).zone = s.zone ∧
    (gapTest s).clip = s.clip ∧
    (gapTest s).host.port = s.host.port := by
  unfold gapTest
  (repeat' split) <;> simp

@[simp] theorem steer_frame (s : State) :
    (steer s).pending = s.pending ∧
    (steer s).config = s.config ∧
    (steer s).motion = s.motion ∧
    (steer s).zone = s.zone ∧
    (steer s).seat = s.seat ∧
    (steer s).cue = s.cue ∧
    (steer s).clip = s.clip ∧
    (steer s).voice = s.voice ∧
    (steer s).fault = s.fault ∧
    (steer s).host = s.host ∧
    (steer s).mstate = s.mstate := by
  unfold steer
  dsimp only
  (repeat' split) <;> simp

@[simp] theorem handOn_frame (order : UnitOrder) (u : PosUpdate) (s : State) :
    (handOn order u s).pending = s.pending ∧
    (handOn order u s).config = s.config ∧
    (handOn order u s).host.port = s.host.port ∧
    (handOn order u s).clip.mem = s.clip.mem := by
  unfold handOn
  cases order <;> simp [runUnits]

@[simp] theorem sampleMarker_frame (m : Option Code) (s : State) :
    (sampleMarker m s).1.pending = s.pending ∧
    (sampleMarker m s).1.config = s.config ∧
    (sampleMarker m s).1.zone = s.zone ∧
    (sampleMarker m s).1.clip = s.clip ∧
    (sampleMarker m s).1.host.port = s.host.port := by
  unfold sampleMarker
  (repeat' split) <;> simp

@[simp] theorem sampleArrival_frame (g : GuideSample) (order : UnitOrder) (s : State) :
    (sampleArrival g order s).pending = s.pending ∧
    (sampleArrival g order s).config = s.config ∧
    (sampleArrival g order s).host.port = s.host.port ∧
    (sampleArrival g order s).clip.mem = s.clip.mem := by
  unfold sampleArrival
  dsimp only
  simp

@[simp] theorem setPosition_frame (order : UnitOrder) (front : Nat) (s : State) :
    (setPosition order front s).1.pending = s.pending ∧
    (setPosition order front s).1.config = s.config ∧
    (setPosition order front s).1.host.port = s.host.port ∧
    (setPosition order front s).1.clip.mem = s.clip.mem := by
  unfold setPosition
  dsimp only
  (repeat' split) <;> simp

@[simp] theorem enableDrive_frame (s : State) :
    (enableDrive s).1.pending = s.pending ∧
    (enableDrive s).1.config = s.config ∧
    (enableDrive s).1.zone = s.zone ∧
    (enableDrive s).1.clip = s.clip ∧
    (enableDrive s).1.host.port = s.host.port := by
  unfold enableDrive
  (repeat' split) <;> simp

@[simp] theorem disableDrive_frame (s : State) :
    (disableDrive s).1.pending = s.pending ∧
    (disableDrive s).1.config = s.config ∧
    (disableDrive s).1.zone = s.zone ∧
    (disableDrive s).1.clip = s.clip ∧
    (disableDrive s).1.host.port = s.host.port := by
  unfold disableDrive
  (repeat' split) <;> simp

@[simp] theorem takeDispatch_frame (source : CommandSource) (s : State) :
    (takeDispatch source s).pending = s.pending ∧
    (takeDispatch source s).config = s.config ∧
    (takeDispatch source s).zone = s.zone ∧
    (takeDispatch source s).clip = s.clip ∧
    (takeDispatch source s).host.port = s.host.port := by
  unfold takeDispatch
  dsimp only
  simp

@[simp] theorem judgeDispatch_frame (source : CommandSource) (s : State) :
    (judgeDispatch source s).1.pending = s.pending ∧
    (judgeDispatch source s).1.config = s.config ∧
    (judgeDispatch source s).1.zone = s.zone ∧
    (judgeDispatch source s).1.clip = s.clip ∧
    (judgeDispatch source s).1.host.port = s.host.port := by
  unfold judgeDispatch
  (repeat' split) <;> simp

@[simp] theorem judgeHold_frame (s : State) :
    (judgeHold s).1.pending = s.pending ∧
    (judgeHold s).1.config = s.config ∧
    (judgeHold s).1.zone = s.zone ∧
    (judgeHold s).1.clip = s.clip ∧
    (judgeHold s).1.host.port = s.host.port := by
  unfold judgeHold
  (repeat' split) <;> simp

@[simp] theorem judgeResume_frame (s : State) :
    (judgeResume s).1.pending = s.pending ∧
    (judgeResume s).1.config = s.config ∧
    (judgeResume s).1.zone = s.zone ∧
    (judgeResume s).1.clip = s.clip ∧
    (judgeResume s).1.host.port = s.host.port := by
  unfold judgeResume
  (repeat' split) <;> simp

@[simp] theorem judgeStop_frame (s : State) :
    (judgeStop s).1.pending = s.pending ∧
    (judgeStop s).1.config = s.config ∧
    (judgeStop s).1.zone = s.zone ∧
    (judgeStop s).1.clip = s.clip ∧
    (judgeStop s).1.host.port = s.host.port := by
  unfold judgeStop
  (repeat' split) <;> simp

@[simp] theorem clearStop_frame (s : State) :
    (clearStop s).1.pending = s.pending ∧
    (clearStop s).1.config = s.config ∧
    (clearStop s).1.zone = s.zone ∧
    (clearStop s).1.clip = s.clip ∧
    (clearStop s).1.host.port = s.host.port := by
  unfold clearStop
  (repeat' split) <;> simp

@[simp] theorem judgeCreep_frame (s : State) :
    (judgeCreep s).1.pending = s.pending ∧
    (judgeCreep s).1.config = s.config ∧
    (judgeCreep s).1.zone = s.zone ∧
    (judgeCreep s).1.clip = s.clip ∧
    (judgeCreep s).1.host.port = s.host.port := by
  unfold judgeCreep
  dsimp only
  (repeat' split) <;> simp

@[simp] theorem setEstopIn_frame (on : Bool) (s : State) :
    (setEstopIn on s).pending = s.pending ∧
    (setEstopIn on s).config = s.config ∧
    (setEstopIn on s).guide = s.guide ∧
    (setEstopIn on s).zone = s.zone ∧
    (setEstopIn on s).seat = s.seat ∧
    (setEstopIn on s).cue = s.cue ∧
    (setEstopIn on s).clip = s.clip ∧
    (setEstopIn on s).voice = s.voice ∧
    (setEstopIn on s).fault = s.fault ∧
    (setEstopIn on s).host = s.host ∧
    (setEstopIn on s).mstate = s.mstate := by
  unfold setEstopIn
  dsimp only
  simp

end Sys2Proof.Machine
end

