-- ==== Sys2Proof/Laws/FrameCmds.lean ====
section
/-! SUPPORT. What the parts of each zone, seat, clip, voice, cue, configuration, fault and host link command
leave unchanged. -/

namespace Sys2Proof.Machine

@[simp] theorem takeGrant_frame (z : Nat) (tag : Byte) (s : State) :
    (takeGrant z tag s).pending = s.pending ∧
    (takeGrant z tag s).config = s.config ∧
    (takeGrant z tag s).clip = s.clip ∧
    (takeGrant z tag s).host.port = s.host.port := by
  unfold takeGrant
  (repeat' split) <;> simp

@[simp] theorem denyBusy_frame (r : Reservation) (s : State) :
    (denyBusy r s).pending = s.pending ∧
    (denyBusy r s).config = s.config ∧
    (denyBusy r s).clip = s.clip ∧
    (denyBusy r s).host.port = s.host.port := by
  unfold denyBusy
  dsimp only
  (repeat' split) <;> simp

@[simp] theorem denyClosed_frame (r : Reservation) (s : State) :
    (denyClosed r s).pending = s.pending ∧
    (denyClosed r s).config = s.config ∧
    (denyClosed r s).clip = s.clip ∧
    (denyClosed r s).host.port = s.host.port := by
  unfold denyClosed
  dsimp only
  simp

@[simp] theorem takeDeny_frame (z : Nat) (tag : Byte) (reason : DenyReason) (s : State) :
    (takeDeny z tag reason s).pending = s.pending ∧
    (takeDeny z tag reason s).config = s.config ∧
    (takeDeny z tag reason s).clip = s.clip ∧
    (takeDeny z tag reason s).host.port = s.host.port := by
  unfold takeDeny
  (repeat' split) <;> simp

@[simp] theorem takeFree_frame (z : Nat) (s : State) :
    (takeFree z s).pending = s.pending ∧
    (takeFree z s).config = s.config ∧
    (takeFree z s).clip = s.clip ∧
    (takeFree z s).host.port = s.host.port := by
  unfold takeFree
  (repeat' split) <;> simp

@[simp] theorem takeReleased_frame (z : Nat) (tag : Byte) (s : State) :
    (takeReleased z tag s).pending = s.pending ∧
    (takeReleased z tag s).config = s.config ∧
    (takeReleased z tag s).clip = s.clip ∧
    (takeReleased z tag s).host.port = s.host.port := by
  unfold takeReleased
  (repeat' split) <;> simp

@[simp] theorem withdrawMail_frame (zs : List Nat) (s : State) :
    (withdrawMail zs s).pending = s.pending ∧
    (withdrawMail zs s).config = s.config ∧
    (withdrawMail zs s).guide = s.guide ∧
    (withdrawMail zs s).motion = s.motion ∧
    (withdrawMail zs s).seat = s.seat ∧
    (withdrawMail zs s).cue = s.cue ∧
    (withdrawMail zs s).clip = s.clip ∧
    (withdrawMail zs s).voice = s.voice ∧
    (withdrawMail zs s).fault = s.fault ∧
    (withdrawMail zs s).host = s.host ∧
    (withdrawMail zs s).mstate = s.mstate := by
  unfold withdrawMail
  dsimp only
  simp

@[simp] theorem carryOutRevoke_frame (z : Nat) (s : State) :
    (carryOutRevoke z s).pending = s.pending ∧
    (carryOutRevoke z s).config = s.config ∧
    (carryOutRevoke z s).clip = s.clip ∧
    (carryOutRevoke z s).host.port = s.host.port := by
  unfold carryOutRevoke
  dsimp only
  simp

@[simp] theorem acceptRevoke_frame (z : Nat) (s : State) :
    (acceptRevoke z s).pending = s.pending ∧
    (acceptRevoke z s).config = s.config ∧
    (acceptRevoke z s).guide = s.guide ∧
    (acceptRevoke z s).motion = s.motion ∧
    (acceptRevoke z s).seat = s.seat ∧
    (acceptRevoke z s).clip = s.clip ∧
    (acceptRevoke z s).voice = s.voice ∧
    (acceptRevoke z s).fault = s.fault ∧
    (acceptRevoke z s).host.port = s.host.port ∧
    (acceptRevoke z s).mstate = s.mstate := by
  unfold acceptRevoke
  simp

@[simp] theorem refuseRevoke_frame (z : Nat) (why : RefuseReason) (s : State) :
    (refuseRevoke z why s).pending = s.pending ∧
    (refuseRevoke z why s).config = s.config ∧
    (refuseRevoke z why s).guide = s.guide ∧
    (refuseRevoke z why s).motion = s.motion ∧
    (refuseRevoke z why s).seat = s.seat ∧
    (refuseRevoke z why s).clip = s.clip ∧
    (refuseRevoke z why s).voice = s.voice ∧
    (refuseRevoke z why s).fault = s.fault ∧
    (refuseRevoke z why s).host.port = s.host.port ∧
    (refuseRevoke z why s).mstate = s.mstate := by
  unfold refuseRevoke
  simp

@[simp] theorem takeRevoke_frame (z : Nat) (s : State) :
    (takeRevoke z s).pending = s.pending ∧
    (takeRevoke z s).config = s.config ∧
    (takeRevoke z s).clip = s.clip ∧
    (takeRevoke z s).host.port = s.host.port := by
  unfold takeRevoke
  (repeat' split) <;> simp

@[simp] theorem expire_frame (r : Reservation) (timeout : ZoneReport) (s : State) :
    (expire r timeout s).pending = s.pending ∧
    (expire r timeout s).config = s.config ∧
    (expire r timeout s).clip = s.clip ∧
    (expire r timeout s).host.port = s.host.port := by
  unfold expire
  (repeat' split) <;> simp

@[simp] theorem reclaimAfterBackoff_frame (z : Nat) (s : State) :
    (reclaimAfterBackoff z s).pending = s.pending ∧
    (reclaimAfterBackoff z s).config = s.config ∧
    (reclaimAfterBackoff z s).guide = s.guide ∧
    (reclaimAfterBackoff z s).motion = s.motion ∧
    (reclaimAfterBackoff z s).seat = s.seat ∧
    (reclaimAfterBackoff z s).cue = s.cue ∧
    (reclaimAfterBackoff z s).clip = s.clip ∧
    (reclaimAfterBackoff z s).voice = s.voice ∧
    (reclaimAfterBackoff z s).fault = s.fault ∧
    (reclaimAfterBackoff z s).host = s.host ∧
    (reclaimAfterBackoff z s).mstate = s.mstate := by
  unfold reclaimAfterBackoff
  dsimp only
  simp

@[simp] theorem takeMail_frame (m : Mail) (rest : List Mail) (s : State) :
    (takeMail m rest s).pending = s.pending ∧
    (takeMail m rest s).config = s.config ∧
    (takeMail m rest s).guide = s.guide ∧
    (takeMail m rest s).motion = s.motion ∧
    (takeMail m rest s).seat = s.seat ∧
    (takeMail m rest s).cue = s.cue ∧
    (takeMail m rest s).clip = s.clip ∧
    (takeMail m rest s).voice = s.voice ∧
    (takeMail m rest s).fault = s.fault ∧
    (takeMail m rest s).host = s.host ∧
    (takeMail m rest s).mstate = s.mstate := by
  unfold takeMail
  dsimp only
  simp

@[simp] theorem takeLong_frame (f : LongFrame) (rest : List LongFrame) (s : State) :
    (takeLong f rest s).pending = s.pending ∧
    (takeLong f rest s).config = s.config ∧
    (takeLong f rest s).guide = s.guide ∧
    (takeLong f rest s).motion = s.motion ∧
    (takeLong f rest s).seat = s.seat ∧
    (takeLong f rest s).clip = s.clip ∧
    (takeLong f rest s).voice = s.voice ∧
    (takeLong f rest s).fault = s.fault ∧
    (takeLong f rest s).host = s.host ∧
    (takeLong f rest s).mstate = s.mstate := by
  unfold takeLong
  dsimp only
  (repeat' split) <;> simp

@[simp] theorem transmit_frame (s : State) :
    (transmit s).pending = s.pending ∧
    (transmit s).config = s.config ∧
    (transmit s).guide = s.guide ∧
    (transmit s).motion = s.motion ∧
    (transmit s).seat = s.seat ∧
    (transmit s).clip = s.clip ∧
    (transmit s).voice = s.voice ∧
    (transmit s).fault = s.fault ∧
    (transmit s).host = s.host ∧
    (transmit s).mstate = s.mstate := by
  unfold transmit
  (repeat' split) <;> simp

@[simp] theorem resendRelease_frame (z : Nat) (s : State) :
    (resendRelease z s).pending = s.pending ∧
    (resendRelease z s).config = s.config ∧
    (resendRelease z s).guide = s.guide ∧
    (resendRelease z s).motion = s.motion ∧
    (resendRelease z s).seat = s.seat ∧
    (resendRelease z s).cue = s.cue ∧
    (resendRelease z s).clip = s.clip ∧
    (resendRelease z s).voice = s.voice ∧
    (resendRelease z s).fault = s.fault ∧
    (resendRelease z s).host = s.host ∧
    (resendRelease z s).mstate = s.mstate := by
  unfold resendRelease
  simp

@[simp] theorem reclaimOne_frame (s : State) (r : Reservation) :
    (reclaimOne s r).pending = s.pending ∧
    (reclaimOne s r).config = s.config ∧
    (reclaimOne s r).guide = s.guide ∧
    (reclaimOne s r).motion = s.motion ∧
    (reclaimOne s r).seat = s.seat ∧
    (reclaimOne s r).cue = s.cue ∧
    (reclaimOne s r).clip = s.clip ∧
    (reclaimOne s r).voice = s.voice ∧
    (reclaimOne s r).fault = s.fault ∧
    (reclaimOne s r).host.port = s.host.port ∧
    (reclaimOne s r).mstate = s.mstate := by
  unfold reclaimOne
  (repeat' split) <;> simp

@[simp] theorem reclaim_frame (z : Nat) (s : State) :
    (reclaim z s).1.pending = s.pending ∧
    (reclaim z s).1.config = s.config ∧
    (reclaim z s).1.clip = s.clip ∧
    (reclaim z s).1.host.port = s.host.port := by
  unfold reclaim
  dsimp only
  (repeat' split) <;> simp

@[simp] theorem occupancyChanged_frame (r : SeatRecord) (s : State) :
    (occupancyChanged r s).pending = s.pending ∧
    (occupancyChanged r s).config = s.config ∧
    (occupancyChanged r s).zone = s.zone ∧
    (occupancyChanged r s).clip = s.clip ∧
    (occupancyChanged r s).host.port = s.host.port := by
  unfold occupancyChanged
  dsimp only
  (repeat' split) <;> simp

@[simp] theorem becameKnown_frame (r : SeatRecord) (s : State) :
    (becameKnown r s).pending = s.pending ∧
    (becameKnown r s).config = s.config ∧
    (becameKnown r s).guide = s.guide ∧
    (becameKnown r s).motion = s.motion ∧
    (becameKnown r s).zone = s.zone ∧
    (becameKnown r s).cue = s.cue ∧
    (becameKnown r s).clip = s.clip ∧
    (becameKnown r s).voice = s.voice ∧
    (becameKnown r s).fault = s.fault ∧
    (becameKnown r s).host.port = s.host.port ∧
    (becameKnown r s).mstate = s.mstate := by
  unfold becameKnown
  (repeat' split) <;> simp

@[simp] theorem handOccupancy_frame (before after : SeatRecord) (s : State) :
    (handOccupancy before after s).pending = s.pending ∧
    (handOccupancy before after s).config = s.config ∧
    (handOccupancy before after s).zone = s.zone ∧
    (handOccupancy before after s).clip = s.clip ∧
    (handOccupancy before after s).host.port = s.host.port := by
  unfold handOccupancy
  (repeat' split) <;> simp

@[simp] theorem testF13_frame (was : Bool) (addr : Nat) (s : State) :
    (testF13 was addr s).pending = s.pending ∧
    (testF13 was addr s).config = s.config ∧
    (testF13 was addr s).guide = s.guide ∧
    (testF13 was addr s).motion = s.motion ∧
    (testF13 was addr s).zone = s.zone ∧
    (testF13 was addr s).seat = s.seat ∧
    (testF13 was addr s).cue = s.cue ∧
    (testF13 was addr s).clip = s.clip ∧
    (testF13 was addr s).voice = s.voice ∧
    (testF13 was addr s).host.port = s.host.port ∧
    (testF13 was addr s).mstate = s.mstate := by
  unfold testF13
  (repeat' split) <;> simp

@[simp] theorem enterFault_frame (r : SeatRecord) (s : State) :
    (enterFault r s).pending = s.pending ∧
    (enterFault r s).config = s.config ∧
    (enterFault r s).guide = s.guide ∧
    (enterFault r s).motion = s.motion ∧
    (enterFault r s).zone = s.zone ∧
    (enterFault r s).cue = s.cue ∧
    (enterFault r s).clip = s.clip ∧
    (enterFault r s).voice = s.voice ∧
    (enterFault r s).host.port = s.host.port ∧
    (enterFault r s).mstate = s.mstate := by
  unfold enterFault
  simp

@[simp] theorem followReads_frame (r : SeatRecord) (x : Read) (s : State) :
    (followReads r x s).pending = s.pending ∧
    (followReads r x s).config = s.config ∧
    (followReads r x s).guide = s.guide ∧
    (followReads r x s).motion = s.motion ∧
    (followReads r x s).zone = s.zone ∧
    (followReads r x s).cue = s.cue ∧
    (followReads r x s).clip = s.clip ∧
    (followReads r x s).voice = s.voice ∧
    (followReads r x s).host.port = s.host.port ∧
    (followReads r x s).mstate = s.mstate := by
  unfold followReads
  (repeat' split) <;> simp

@[simp] theorem recoverFault_frame (r : SeatRecord) (x : Read) (s : State) :
    (recoverFault r x s).pending = s.pending ∧
    (recoverFault r x s).config = s.config ∧
    (recoverFault r x s).guide = s.guide ∧
    (recoverFault r x s).motion = s.motion ∧
    (recoverFault r x s).zone = s.zone ∧
    (recoverFault r x s).cue = s.cue ∧
    (recoverFault r x s).clip = s.clip ∧
    (recoverFault r x s).voice = s.voice ∧
    (recoverFault r x s).fault = s.fault ∧
    (recoverFault r x s).host.port = s.host.port ∧
    (recoverFault r x s).mstate = s.mstate := by
  unfold recoverFault
  (repeat' split) <;> simp

@[simp] theorem invalidate_frame (r : SeatRecord) (t : AlarmTest) (s : State) :
    (invalidate r t s).pending = s.pending ∧
    (invalidate r t s).config = s.config ∧
    (invalidate r t s).guide = s.guide ∧
    (invalidate r t s).motion = s.motion ∧
    (invalidate r t s).zone = s.zone ∧
    (invalidate r t s).cue = s.cue ∧
    (invalidate r t s).clip = s.clip ∧
    (invalidate r t s).voice = s.voice ∧
    (invalidate r t s).fault = s.fault ∧
    (invalidate r t s).host.port = s.host.port ∧
    (invalidate r t s).mstate = s.mstate := by
  unfold invalidate
  simp

@[simp] theorem alarmBegin_frame (was : Bool) (addr : Nat) (s : State) :
    (alarmBegin was addr s).pending = s.pending ∧
    (alarmBegin was addr s).config = s.config ∧
    (alarmBegin was addr s).zone = s.zone ∧
    (alarmBegin was addr s).clip = s.clip ∧
    (alarmBegin was addr s).host.port = s.host.port := by
  unfold alarmBegin
  (repeat' split) <;> simp

@[simp] theorem enterAlarm_frame (r : SeatRecord) (t : AlarmTest) (s : State) :
    (enterAlarm r t s).pending = s.pending ∧
    (enterAlarm r t s).config = s.config ∧
    (enterAlarm r t s).zone = s.zone ∧
    (enterAlarm r t s).clip = s.clip ∧
    (enterAlarm r t s).host.port = s.host.port := by
  unfold enterAlarm
  dsimp only
  (repeat' split) <;> simp

@[simp] theorem watchChecked_frame (r : SeatRecord) (x : Read) (s : State) :
    (watchChecked r x s).pending = s.pending ∧
    (watchChecked r x s).config = s.config ∧
    (watchChecked r x s).zone = s.zone ∧
    (watchChecked r x s).clip = s.clip ∧
    (watchChecked r x s).host.port = s.host.port := by
  unfold watchChecked
  dsimp only
  (repeat' split) <;> simp

@[simp] theorem alarmEnd_frame (s : State) :
    (alarmEnd s).pending = s.pending ∧
    (alarmEnd s).config = s.config ∧
    (alarmEnd s).guide = s.guide ∧
    (alarmEnd s).motion = s.motion ∧
    (alarmEnd s).zone = s.zone ∧
    (alarmEnd s).seat = s.seat ∧
    (alarmEnd s).cue = s.cue ∧
    (alarmEnd s).clip = s.clip ∧
    (alarmEnd s).host.port = s.host.port ∧
    (alarmEnd s).mstate = s.mstate := by
  unfold alarmEnd
  (repeat' split) <;> simp

@[simp] theorem recoverAlarm_frame (r : SeatRecord) (x : Read) (s : State) :
    (recoverAlarm r x s).pending = s.pending ∧
    (recoverAlarm r x s).config = s.config ∧
    (recoverAlarm r x s).guide = s.guide ∧
    (recoverAlarm r x s).motion = s.motion ∧
    (recoverAlarm r x s).zone = s.zone ∧
    (recoverAlarm r x s).cue = s.cue ∧
    (recoverAlarm r x s).clip = s.clip ∧
    (recoverAlarm r x s).host.port = s.host.port ∧
    (recoverAlarm r x s).mstate = s.mstate := by
  unfold recoverAlarm
  (repeat' split) <;> simp

@[simp] theorem rejectSeat_frame (r : SeatRecord) (s : State) :
    (rejectSeat r s).pending = s.pending ∧
    (rejectSeat r s).config = s.config ∧
    (rejectSeat r s).guide = s.guide ∧
    (rejectSeat r s).motion = s.motion ∧
    (rejectSeat r s).zone = s.zone ∧
    (rejectSeat r s).cue = s.cue ∧
    (rejectSeat r s).clip = s.clip ∧
    (rejectSeat r s).voice = s.voice ∧
    (rejectSeat r s).fault = s.fault ∧
    (rejectSeat r s).host.port = s.host.port ∧
    (rejectSeat r s).mstate = s.mstate := by
  unfold rejectSeat
  dsimp only
  simp

@[simp] theorem judgeChecking_frame (r : SeatRecord) (x : Read) (confirm : Bool) (s : State) :
    (judgeChecking r x confirm s).pending = s.pending ∧
    (judgeChecking r x confirm s).config = s.config ∧
    (judgeChecking r x confirm s).guide = s.guide ∧
    (judgeChecking r x confirm s).motion = s.motion ∧
    (judgeChecking r x confirm s).zone = s.zone ∧
    (judgeChecking r x confirm s).cue = s.cue ∧
    (judgeChecking r x confirm s).clip = s.clip ∧
    (judgeChecking r x confirm s).voice = s.voice ∧
    (judgeChecking r x confirm s).fault = s.fault ∧
    (judgeChecking r x confirm s).host.port = s.host.port ∧
    (judgeChecking r x confirm s).mstate = s.mstate := by
  unfold judgeChecking
  (repeat' split) <;> simp

@[simp] theorem applyState_frame (r : SeatRecord) (x : Read) (confirm : Bool) (s : State) :
    (applyState r x confirm s).pending = s.pending ∧
    (applyState r x confirm s).config = s.config ∧
    (applyState r x confirm s).zone = s.zone ∧
    (applyState r x confirm s).clip = s.clip ∧
    (applyState r x confirm s).host.port = s.host.port := by
  unfold applyState
  (repeat' split) <;> simp

@[simp] theorem transact_frame (op : SeatOp) (r : SeatRecord) (w : BitVec 24) (confirm : Bool) (s : State) :
    (transact op r w confirm s).pending = s.pending ∧
    (transact op r w confirm s).config = s.config ∧
    (transact op r w confirm s).zone = s.zone ∧
    (transact op r w confirm s).clip = s.clip ∧
    (transact op r w confirm s).host.port = s.host.port := by
  unfold transact
  dsimp only
  (repeat' split) <;> simp

@[simp] theorem roundTransact_frame (w : BitVec 24) (s : State) :
    (roundTransact w s).pending = s.pending ∧
    (roundTransact w s).config = s.config ∧
    (roundTransact w s).zone = s.zone ∧
    (roundTransact w s).clip = s.clip ∧
    (roundTransact w s).host.port = s.host.port := by
  unfold roundTransact
  dsimp only
  (repeat' split) <;> simp

@[simp] theorem beginRound_frame (s : State) :
    (beginRound s).pending = s.pending ∧
    (beginRound s).config = s.config ∧
    (beginRound s).guide = s.guide ∧
    (beginRound s).motion = s.motion ∧
    (beginRound s).zone = s.zone ∧
    (beginRound s).cue = s.cue ∧
    (beginRound s).clip = s.clip ∧
    (beginRound s).voice = s.voice ∧
    (beginRound s).fault = s.fault ∧
    (beginRound s).host = s.host ∧
    (beginRound s).mstate = s.mstate := by
  unfold beginRound
  dsimp only
  simp

@[simp] theorem reportCheck_frame (c : Check) (result : CheckResult) (cause : CheckCause) (s : State) :
    (reportCheck c result cause s).pending = s.pending ∧
    (reportCheck c result cause s).config = s.config ∧
    (reportCheck c result cause s).guide = s.guide ∧
    (reportCheck c result cause s).motion = s.motion ∧
    (reportCheck c result cause s).zone = s.zone ∧
    (reportCheck c result cause s).seat = s.seat ∧
    (reportCheck c result cause s).cue = s.cue ∧
    (reportCheck c result cause s).clip = s.clip ∧
    (reportCheck c result cause s).voice = s.voice ∧
    (reportCheck c result cause s).fault = s.fault ∧
    (reportCheck c result cause s).host.port = s.host.port ∧
    (reportCheck c result cause s).mstate = s.mstate := by
  unfold reportCheck
  simp

@[simp] theorem passCheck_frame (c : Check) (s : State) :
    (passCheck c s).pending = s.pending ∧
    (passCheck c s).config = s.config ∧
    (passCheck c s).guide = s.guide ∧
    (passCheck c s).motion = s.motion ∧
    (passCheck c s).zone = s.zone ∧
    (passCheck c s).cue = s.cue ∧
    (passCheck c s).clip = s.clip ∧
    (passCheck c s).voice = s.voice ∧
    (passCheck c s).fault = s.fault ∧
    (passCheck c s).host.port = s.host.port ∧
    (passCheck c s).mstate = s.mstate := by
  unfold passCheck
  dsimp only
  simp

@[simp] theorem failCheck_frame (c : Check) (s : State) :
    (failCheck c s).pending = s.pending ∧
    (failCheck c s).config = s.config ∧
    (failCheck c s).guide = s.guide ∧
    (failCheck c s).motion = s.motion ∧
    (failCheck c s).zone = s.zone ∧
    (failCheck c s).host.port = s.host.port ∧
    (failCheck c s).clip.mem = s.clip.mem ∧
    (failCheck c s).mstate = s.mstate := by
  unfold failCheck
  dsimp only
  (repeat' split) <;> simp

@[simp] theorem countRound_frame (c : Check) (s : State) :
    (countRound c s).pending = s.pending ∧
    (countRound c s).config = s.config ∧
    (countRound c s).guide = s.guide ∧
    (countRound c s).motion = s.motion ∧
    (countRound c s).zone = s.zone ∧
    (countRound c s).host.port = s.host.port ∧
    (countRound c s).clip.mem = s.clip.mem ∧
    (countRound c s).mstate = s.mstate := by
  unfold countRound
  dsimp only
  (repeat' split) <;> simp

@[simp] theorem endRound_frame (s : State) :
    (endRound s).pending = s.pending ∧
    (endRound s).config = s.config ∧
    (endRound s).guide = s.guide ∧
    (endRound s).motion = s.motion ∧
    (endRound s).zone = s.zone ∧
    (endRound s).host.port = s.host.port ∧
    (endRound s).clip.mem = s.clip.mem ∧
    (endRound s).mstate = s.mstate := by
  unfold endRound
  dsimp only
  (repeat' split) <;> simp

@[simp] theorem finishRound_frame (n : Nat) (ws : List (BitVec 24)) (s : State) :
    (finishRound n ws s).1.pending = s.pending ∧
    (finishRound n ws s).1.config = s.config ∧
    (finishRound n ws s).1.zone = s.zone ∧
    (finishRound n ws s).1.clip = s.clip ∧
    (finishRound n ws s).1.host.port = s.host.port := by
  induction n generalizing ws s with
  | zero => simp [finishRound]
  | succ n ih => simp [finishRound, ih]

@[simp] theorem closingRound_frame (as : List Nat) (ws : List (BitVec 24)) (s : State) :
    (closingRound as ws s).pending = s.pending ∧
    (closingRound as ws s).config = s.config ∧
    (closingRound as ws s).zone = s.zone ∧
    (closingRound as ws s).clip = s.clip ∧
    (closingRound as ws s).host.port = s.host.port := by
  induction as generalizing ws s with
  | nil => simp [closingRound]
  | cons a as ih =>
    simp only [closingRound, ih]
    (repeat' split) <;> simp

@[simp] theorem startCheck_frame (source : CommandSource) (s : State) :
    (startCheck source s).1.pending = s.pending ∧
    (startCheck source s).1.config = s.config ∧
    (startCheck source s).1.guide = s.guide ∧
    (startCheck source s).1.motion = s.motion ∧
    (startCheck source s).1.zone = s.zone ∧
    (startCheck source s).1.cue = s.cue ∧
    (startCheck source s).1.clip = s.clip ∧
    (startCheck source s).1.voice = s.voice ∧
    (startCheck source s).1.host.port = s.host.port ∧
    (startCheck source s).1.mstate = s.mstate := by
  unfold startCheck
  dsimp only
  (repeat' split) <;> simp

@[simp] theorem judgeCheck_frame (s : State) :
    (judgeCheck s).1.pending = s.pending ∧
    (judgeCheck s).1.config = s.config ∧
    (judgeCheck s).1.guide = s.guide ∧
    (judgeCheck s).1.motion = s.motion ∧
    (judgeCheck s).1.zone = s.zone ∧
    (judgeCheck s).1.cue = s.cue ∧
    (judgeCheck s).1.clip = s.clip ∧
    (judgeCheck s).1.voice = s.voice ∧
    (judgeCheck s).1.host.port = s.host.port ∧
    (judgeCheck s).1.mstate = s.mstate := by
  unfold judgeCheck
  (repeat' split) <;> simp

@[simp] theorem waysideCheckFrame_frame (s : State) :
    (waysideCheckFrame s).pending = s.pending ∧
    (waysideCheckFrame s).config = s.config ∧
    (waysideCheckFrame s).guide = s.guide ∧
    (waysideCheckFrame s).motion = s.motion ∧
    (waysideCheckFrame s).zone = s.zone ∧
    (waysideCheckFrame s).cue = s.cue ∧
    (waysideCheckFrame s).clip = s.clip ∧
    (waysideCheckFrame s).voice = s.voice ∧
    (waysideCheckFrame s).host.port = s.host.port ∧
    (waysideCheckFrame s).mstate = s.mstate := by
  unfold waysideCheckFrame
  (repeat' split) <;> simp

@[simp] theorem openBars_frame (s : State) :
    (openBars s).pending = s.pending ∧
    (openBars s).config = s.config ∧
    (openBars s).guide = s.guide ∧
    (openBars s).motion = s.motion ∧
    (openBars s).zone = s.zone ∧
    (openBars s).cue = s.cue ∧
    (openBars s).clip = s.clip ∧
    (openBars s).voice = s.voice ∧
    (openBars s).host.port = s.host.port ∧
    (openBars s).mstate = s.mstate := by
  unfold openBars
  dsimp only
  simp

@[simp] theorem judgeRelease_frame (s : State) :
    (judgeRelease s).1.pending = s.pending ∧
    (judgeRelease s).1.config = s.config ∧
    (judgeRelease s).1.guide = s.guide ∧
    (judgeRelease s).1.motion = s.motion ∧
    (judgeRelease s).1.zone = s.zone ∧
    (judgeRelease s).1.cue = s.cue ∧
    (judgeRelease s).1.clip = s.clip ∧
    (judgeRelease s).1.voice = s.voice ∧
    (judgeRelease s).1.host.port = s.host.port ∧
    (judgeRelease s).1.mstate = s.mstate := by
  unfold judgeRelease
  dsimp only
  (repeat' split) <;> simp

@[simp] theorem State.setStage_frame (s : State) (w : WriteStage) :
    (State.setStage s w).pending = s.pending ∧
    (State.setStage s w).config = s.config ∧
    (State.setStage s w).guide = s.guide ∧
    (State.setStage s w).motion = s.motion ∧
    (State.setStage s w).zone = s.zone ∧
    (State.setStage s w).seat = s.seat ∧
    (State.setStage s w).cue = s.cue ∧
    (State.setStage s w).voice = s.voice ∧
    (State.setStage s w).fault = s.fault ∧
    (State.setStage s w).host = s.host ∧
    (State.setStage s w).clip.mem = s.clip.mem ∧
    (State.setStage s w).mstate = s.mstate := by
  unfold State.setStage
  dsimp only
  simp

@[simp] theorem State.setArb_frame (s : State) (a : Arbiter) :
    (State.setArb s a).pending = s.pending ∧
    (State.setArb s a).config = s.config ∧
    (State.setArb s a).guide = s.guide ∧
    (State.setArb s a).motion = s.motion ∧
    (State.setArb s a).zone = s.zone ∧
    (State.setArb s a).seat = s.seat ∧
    (State.setArb s a).cue = s.cue ∧
    (State.setArb s a).voice = s.voice ∧
    (State.setArb s a).fault = s.fault ∧
    (State.setArb s a).host = s.host ∧
    (State.setArb s a).clip.mem = s.clip.mem ∧
    (State.setArb s a).mstate = s.mstate := by
  unfold State.setArb
  dsimp only
  simp

@[simp] theorem State.setBuffer_frame (s : State) (b : ReadBuffer) :
    (State.setBuffer s b).pending = s.pending ∧
    (State.setBuffer s b).config = s.config ∧
    (State.setBuffer s b).guide = s.guide ∧
    (State.setBuffer s b).motion = s.motion ∧
    (State.setBuffer s b).zone = s.zone ∧
    (State.setBuffer s b).seat = s.seat ∧
    (State.setBuffer s b).cue = s.cue ∧
    (State.setBuffer s b).voice = s.voice ∧
    (State.setBuffer s b).fault = s.fault ∧
    (State.setBuffer s b).host = s.host ∧
    (State.setBuffer s b).clip.mem = s.clip.mem ∧
    (State.setBuffer s b).mstate = s.mstate := by
  unfold State.setBuffer
  dsimp only
  simp

@[simp] theorem State.setVerify_frame (s : State) (v : VerifyState) :
    (State.setVerify s v).pending = s.pending ∧
    (State.setVerify s v).config = s.config ∧
    (State.setVerify s v).guide = s.guide ∧
    (State.setVerify s v).motion = s.motion ∧
    (State.setVerify s v).zone = s.zone ∧
    (State.setVerify s v).seat = s.seat ∧
    (State.setVerify s v).cue = s.cue ∧
    (State.setVerify s v).voice = s.voice ∧
    (State.setVerify s v).fault = s.fault ∧
    (State.setVerify s v).host = s.host ∧
    (State.setVerify s v).clip.mem = s.clip.mem ∧
    (State.setVerify s v).mstate = s.mstate := by
  unfold State.setVerify
  dsimp only
  simp

@[simp] theorem State.setHeld_frame (s : State) (h : Option Held) :
    (State.setHeld s h).pending = s.pending ∧
    (State.setHeld s h).config = s.config ∧
    (State.setHeld s h).guide = s.guide ∧
    (State.setHeld s h).motion = s.motion ∧
    (State.setHeld s h).zone = s.zone ∧
    (State.setHeld s h).seat = s.seat ∧
    (State.setHeld s h).cue = s.cue ∧
    (State.setHeld s h).clip = s.clip ∧
    (State.setHeld s h).voice = s.voice ∧
    (State.setHeld s h).fault = s.fault ∧
    (State.setHeld s h).mstate = s.mstate := by
  unfold State.setHeld
  dsimp only
  simp

@[simp] theorem discardBuffer_frame (s : State) :
    (discardBuffer s).pending = s.pending ∧
    (discardBuffer s).config = s.config ∧
    (discardBuffer s).guide = s.guide ∧
    (discardBuffer s).motion = s.motion ∧
    (discardBuffer s).zone = s.zone ∧
    (discardBuffer s).seat = s.seat ∧
    (discardBuffer s).cue = s.cue ∧
    (discardBuffer s).voice = s.voice ∧
    (discardBuffer s).fault = s.fault ∧
    (discardBuffer s).host = s.host ∧
    (discardBuffer s).clip.mem = s.clip.mem ∧
    (discardBuffer s).mstate = s.mstate := by
  unfold discardBuffer
  dsimp only
  (repeat' split) <;> simp

@[simp] theorem discardFor_frame (clip : Nat) (s : State) :
    (discardFor clip s).pending = s.pending ∧
    (discardFor clip s).config = s.config ∧
    (discardFor clip s).guide = s.guide ∧
    (discardFor clip s).motion = s.motion ∧
    (discardFor clip s).zone = s.zone ∧
    (discardFor clip s).seat = s.seat ∧
    (discardFor clip s).cue = s.cue ∧
    (discardFor clip s).voice = s.voice ∧
    (discardFor clip s).fault = s.fault ∧
    (discardFor clip s).host = s.host ∧
    (discardFor clip s).clip.mem = s.clip.mem ∧
    (discardFor clip s).mstate = s.mstate := by
  unfold discardFor
  (repeat' split) <;> simp

@[simp] theorem prefetch_frame (clip offset : Nat) (s : State) :
    (prefetch clip offset s).pending = s.pending ∧
    (prefetch clip offset s).config = s.config ∧
    (prefetch clip offset s).guide = s.guide ∧
    (prefetch clip offset s).motion = s.motion ∧
    (prefetch clip offset s).zone = s.zone ∧
    (prefetch clip offset s).seat = s.seat ∧
    (prefetch clip offset s).cue = s.cue ∧
    (prefetch clip offset s).voice = s.voice ∧
    (prefetch clip offset s).fault = s.fault ∧
    (prefetch clip offset s).host = s.host ∧
    (prefetch clip offset s).clip.mem = s.clip.mem ∧
    (prefetch clip offset s).mstate = s.mstate := by
  unfold prefetch
  dsimp only
  (repeat' split) <;> simp

@[simp] theorem answerRead_frame (f : RxFrame) (clip offset count : Nat) (fromBuffer : Bool) (data : List (List Byte)) (s : State) :
    (answerRead f clip offset count fromBuffer data s).pending = s.pending ∧
    (answerRead f clip offset count fromBuffer data s).config = s.config ∧
    (answerRead f clip offset count fromBuffer data s).guide = s.guide ∧
    (answerRead f clip offset count fromBuffer data s).motion = s.motion ∧
    (answerRead f clip offset count fromBuffer data s).zone = s.zone ∧
    (answerRead f clip offset count fromBuffer data s).seat = s.seat ∧
    (answerRead f clip offset count fromBuffer data s).cue = s.cue ∧
    (answerRead f clip offset count fromBuffer data s).voice = s.voice ∧
    (answerRead f clip offset count fromBuffer data s).fault = s.fault ∧
    (answerRead f clip offset count fromBuffer data s).clip.mem = s.clip.mem ∧
    (answerRead f clip offset count fromBuffer data s).mstate = s.mstate := by
  unfold answerRead
  simp

@[simp] theorem readMemory_frame (f : RxFrame) (clip offset count : Nat) (s : State) :
    (readMemory f clip offset count s).pending = s.pending ∧
    (readMemory f clip offset count s).config = s.config ∧
    (readMemory f clip offset count s).guide = s.guide ∧
    (readMemory f clip offset count s).motion = s.motion ∧
    (readMemory f clip offset count s).zone = s.zone ∧
    (readMemory f clip offset count s).seat = s.seat ∧
    (readMemory f clip offset count s).cue = s.cue ∧
    (readMemory f clip offset count s).voice = s.voice ∧
    (readMemory f clip offset count s).fault = s.fault ∧
    (readMemory f clip offset count s).clip.mem = s.clip.mem ∧
    (readMemory f clip offset count s).mstate = s.mstate := by
  unfold readMemory
  dsimp only
  simp

@[simp] theorem obtainBlocks_frame (f : RxFrame) (clip offset count : Nat) (s : State) :
    (obtainBlocks f clip offset count s).pending = s.pending ∧
    (obtainBlocks f clip offset count s).config = s.config ∧
    (obtainBlocks f clip offset count s).guide = s.guide ∧
    (obtainBlocks f clip offset count s).motion = s.motion ∧
    (obtainBlocks f clip offset count s).zone = s.zone ∧
    (obtainBlocks f clip offset count s).seat = s.seat ∧
    (obtainBlocks f clip offset count s).cue = s.cue ∧
    (obtainBlocks f clip offset count s).voice = s.voice ∧
    (obtainBlocks f clip offset count s).fault = s.fault ∧
    (obtainBlocks f clip offset count s).clip.mem = s.clip.mem ∧
    (obtainBlocks f clip offset count s).mstate = s.mstate := by
  unfold obtainBlocks
  (repeat' split) <;> simp

@[simp] theorem commitWaiting_frame (s : State) :
    (commitWaiting s).pending = s.pending ∧
    (commitWaiting s).config = s.config ∧
    (commitWaiting s).guide = s.guide ∧
    (commitWaiting s).motion = s.motion ∧
    (commitWaiting s).zone = s.zone ∧
    (commitWaiting s).seat = s.seat ∧
    (commitWaiting s).cue = s.cue ∧
    (commitWaiting s).voice = s.voice ∧
    (commitWaiting s).fault = s.fault ∧
    (commitWaiting s).host = s.host ∧
    (commitWaiting s).clip.mem = s.clip.mem ∧
    (commitWaiting s).mstate = s.mstate := by
  unfold commitWaiting
  dsimp only
  simp

@[simp] theorem stageBlock_frame (clip offset : Nat) (data : List Byte) (s : State) :
    (stageBlock clip offset data s).pending = s.pending ∧
    (stageBlock clip offset data s).config = s.config ∧
    (stageBlock clip offset data s).guide = s.guide ∧
    (stageBlock clip offset data s).motion = s.motion ∧
    (stageBlock clip offset data s).zone = s.zone ∧
    (stageBlock clip offset data s).seat = s.seat ∧
    (stageBlock clip offset data s).cue = s.cue ∧
    (stageBlock clip offset data s).voice = s.voice ∧
    (stageBlock clip offset data s).fault = s.fault ∧
    (stageBlock clip offset data s).host = s.host ∧
    (stageBlock clip offset data s).clip.mem = s.clip.mem ∧
    (stageBlock clip offset data s).mstate = s.mstate := by
  unfold stageBlock
  dsimp only
  (repeat' split) <;> simp

@[simp] theorem finishData_frame (f : RxFrame) (clip offset : Nat) (data : List Byte) (s : State) :
    (finishData f clip offset data s).pending = s.pending ∧
    (finishData f clip offset data s).config = s.config ∧
    (finishData f clip offset data s).guide = s.guide ∧
    (finishData f clip offset data s).motion = s.motion ∧
    (finishData f clip offset data s).zone = s.zone ∧
    (finishData f clip offset data s).seat = s.seat ∧
    (finishData f clip offset data s).cue = s.cue ∧
    (finishData f clip offset data s).voice = s.voice ∧
    (finishData f clip offset data s).fault = s.fault ∧
    (finishData f clip offset data s).clip.mem = s.clip.mem ∧
    (finishData f clip offset data s).mstate = s.mstate := by
  unfold finishData
  dsimp only
  simp

@[simp] theorem startVerify_frame (s : State) :
    (startVerify s).pending = s.pending ∧
    (startVerify s).config = s.config ∧
    (startVerify s).guide = s.guide ∧
    (startVerify s).motion = s.motion ∧
    (startVerify s).zone = s.zone ∧
    (startVerify s).seat = s.seat ∧
    (startVerify s).cue = s.cue ∧
    (startVerify s).voice = s.voice ∧
    (startVerify s).fault = s.fault ∧
    (startVerify s).host = s.host ∧
    (startVerify s).clip.mem = s.clip.mem ∧
    (startVerify s).mstate = s.mstate := by
  unfold startVerify
  dsimp only
  (repeat' split) <;> simp

@[simp] theorem setRunClip_frame (r : Option Nat) (s : State) :
    (setRunClip r s).pending = s.pending ∧
    (setRunClip r s).config = s.config ∧
    (setRunClip r s).guide = s.guide ∧
    (setRunClip r s).motion = s.motion ∧
    (setRunClip r s).zone = s.zone ∧
    (setRunClip r s).seat = s.seat ∧
    (setRunClip r s).cue = s.cue ∧
    (setRunClip r s).voice = s.voice ∧
    (setRunClip r s).fault = s.fault ∧
    (setRunClip r s).host = s.host ∧
    (setRunClip r s).clip.mem = s.clip.mem ∧
    (setRunClip r s).mstate = s.mstate := by
  unfold setRunClip
  dsimp only
  simp

@[simp] theorem dropRun_frame (clip : Nat) (s : State) :
    (dropRun clip s).pending = s.pending ∧
    (dropRun clip s).config = s.config ∧
    (dropRun clip s).guide = s.guide ∧
    (dropRun clip s).motion = s.motion ∧
    (dropRun clip s).zone = s.zone ∧
    (dropRun clip s).seat = s.seat ∧
    (dropRun clip s).cue = s.cue ∧
    (dropRun clip s).voice = s.voice ∧
    (dropRun clip s).fault = s.fault ∧
    (dropRun clip s).host = s.host ∧
    (dropRun clip s).clip.mem = s.clip.mem ∧
    (dropRun clip s).mstate = s.mstate := by
  unfold dropRun
  (repeat' split) <;> simp

@[simp] theorem finishSeal_frame (f : RxFrame) (clip : Nat) (crc : Code) (s : State) :
    (finishSeal f clip crc s).pending = s.pending ∧
    (finishSeal f clip crc s).config = s.config ∧
    (finishSeal f clip crc s).guide = s.guide ∧
    (finishSeal f clip crc s).motion = s.motion ∧
    (finishSeal f clip crc s).zone = s.zone ∧
    (finishSeal f clip crc s).seat = s.seat ∧
    (finishSeal f clip crc s).cue = s.cue ∧
    (finishSeal f clip crc s).voice = s.voice ∧
    (finishSeal f clip crc s).fault = s.fault ∧
    (finishSeal f clip crc s).clip.mem = s.clip.mem ∧
    (finishSeal f clip crc s).mstate = s.mstate := by
  unfold finishSeal
  dsimp only
  (repeat' split) <;> simp

@[simp] theorem finishErase_frame (f : RxFrame) (clip : Nat) (s : State) :
    (finishErase f clip s).pending = s.pending ∧
    (finishErase f clip s).config = s.config ∧
    (finishErase f clip s).guide = s.guide ∧
    (finishErase f clip s).motion = s.motion ∧
    (finishErase f clip s).zone = s.zone ∧
    (finishErase f clip s).seat = s.seat ∧
    (finishErase f clip s).cue = s.cue ∧
    (finishErase f clip s).voice = s.voice ∧
    (finishErase f clip s).fault = s.fault ∧
    (finishErase f clip s).clip.mem = s.clip.mem ∧
    (finishErase f clip s).mstate = s.mstate := by
  unfold finishErase
  simp

@[simp] theorem continueHeld_frame (h : Held) (s : State) :
    (continueHeld h s).pending = s.pending ∧
    (continueHeld h s).config = s.config ∧
    (continueHeld h s).guide = s.guide ∧
    (continueHeld h s).motion = s.motion ∧
    (continueHeld h s).zone = s.zone ∧
    (continueHeld h s).seat = s.seat ∧
    (continueHeld h s).cue = s.cue ∧
    (continueHeld h s).voice = s.voice ∧
    (continueHeld h s).fault = s.fault ∧
    (continueHeld h s).clip.mem = s.clip.mem ∧
    (continueHeld h s).mstate = s.mstate := by
  unfold continueHeld
  (repeat' split) <;> simp

@[simp] theorem flushFor_frame (h : Held) (s : State) :
    (flushFor h s).pending = s.pending ∧
    (flushFor h s).config = s.config ∧
    (flushFor h s).guide = s.guide ∧
    (flushFor h s).motion = s.motion ∧
    (flushFor h s).zone = s.zone ∧
    (flushFor h s).seat = s.seat ∧
    (flushFor h s).cue = s.cue ∧
    (flushFor h s).voice = s.voice ∧
    (flushFor h s).fault = s.fault ∧
    (flushFor h s).clip.mem = s.clip.mem ∧
    (flushFor h s).mstate = s.mstate := by
  unfold flushFor
  (repeat' split) <;> simp

@[simp] theorem clipDefine_frame (r : ClipDefineReq) (s : State) :
    (clipDefine r s).1.pending = s.pending ∧
    (clipDefine r s).1.config = s.config ∧
    (clipDefine r s).1.guide = s.guide ∧
    (clipDefine r s).1.motion = s.motion ∧
    (clipDefine r s).1.zone = s.zone ∧
    (clipDefine r s).1.seat = s.seat ∧
    (clipDefine r s).1.cue = s.cue ∧
    (clipDefine r s).1.voice = s.voice ∧
    (clipDefine r s).1.fault = s.fault ∧
    (clipDefine r s).1.host = s.host ∧
    (clipDefine r s).1.clip.mem = s.clip.mem ∧
    (clipDefine r s).1.mstate = s.mstate := by
  unfold clipDefine
  dsimp only
  (repeat' split) <;> simp

@[simp] theorem clipData_frame (f : RxFrame) (r : ClipDataReq) (s : State) :
    (clipData f r s).pending = s.pending ∧
    (clipData f r s).config = s.config ∧
    (clipData f r s).guide = s.guide ∧
    (clipData f r s).motion = s.motion ∧
    (clipData f r s).zone = s.zone ∧
    (clipData f r s).seat = s.seat ∧
    (clipData f r s).cue = s.cue ∧
    (clipData f r s).voice = s.voice ∧
    (clipData f r s).fault = s.fault ∧
    (clipData f r s).clip.mem = s.clip.mem ∧
    (clipData f r s).mstate = s.mstate := by
  unfold clipData
  dsimp only
  (repeat' split) <;> simp

@[simp] theorem clipSeal_frame (f : RxFrame) (r : ClipSealReq) (s : State) :
    (clipSeal f r s).pending = s.pending ∧
    (clipSeal f r s).config = s.config ∧
    (clipSeal f r s).guide = s.guide ∧
    (clipSeal f r s).motion = s.motion ∧
    (clipSeal f r s).zone = s.zone ∧
    (clipSeal f r s).seat = s.seat ∧
    (clipSeal f r s).cue = s.cue ∧
    (clipSeal f r s).voice = s.voice ∧
    (clipSeal f r s).fault = s.fault ∧
    (clipSeal f r s).clip.mem = s.clip.mem ∧
    (clipSeal f r s).mstate = s.mstate := by
  unfold clipSeal
  (repeat' split) <;> simp

@[simp] theorem clipRead_frame (f : RxFrame) (r : ClipReadReq) (s : State) :
    (clipRead f r s).pending = s.pending ∧
    (clipRead f r s).config = s.config ∧
    (clipRead f r s).guide = s.guide ∧
    (clipRead f r s).motion = s.motion ∧
    (clipRead f r s).zone = s.zone ∧
    (clipRead f r s).seat = s.seat ∧
    (clipRead f r s).cue = s.cue ∧
    (clipRead f r s).voice = s.voice ∧
    (clipRead f r s).fault = s.fault ∧
    (clipRead f r s).clip.mem = s.clip.mem ∧
    (clipRead f r s).mstate = s.mstate := by
  unfold clipRead
  (repeat' split) <;> simp

@[simp] theorem clipErase_frame (f : RxFrame) (clip : Nat) (s : State) :
    (clipErase f clip s).pending = s.pending ∧
    (clipErase f clip s).config = s.config ∧
    (clipErase f clip s).guide = s.guide ∧
    (clipErase f clip s).motion = s.motion ∧
    (clipErase f clip s).zone = s.zone ∧
    (clipErase f clip s).seat = s.seat ∧
    (clipErase f clip s).cue = s.cue ∧
    (clipErase f clip s).voice = s.voice ∧
    (clipErase f clip s).fault = s.fault ∧
    (clipErase f clip s).clip.mem = s.clip.mem ∧
    (clipErase f clip s).mstate = s.mstate := by
  unfold clipErase
  (repeat' split) <;> simp

@[simp] theorem clipStatus_frame (n : Option Nat) (s : State) :
    (clipStatus n s).1.pending = s.pending ∧
    (clipStatus n s).1.config = s.config ∧
    (clipStatus n s).1.guide = s.guide ∧
    (clipStatus n s).1.motion = s.motion ∧
    (clipStatus n s).1.zone = s.zone ∧
    (clipStatus n s).1.seat = s.seat ∧
    (clipStatus n s).1.cue = s.cue ∧
    (clipStatus n s).1.clip = s.clip ∧
    (clipStatus n s).1.voice = s.voice ∧
    (clipStatus n s).1.fault = s.fault ∧
    (clipStatus n s).1.host = s.host ∧
    (clipStatus n s).1.mstate = s.mstate := by
  unfold clipStatus
  (repeat' split) <;> simp

@[simp] theorem freePort_frame (s : State) :
    (freePort s).pending = s.pending ∧
    (freePort s).config = s.config ∧
    (freePort s).guide = s.guide ∧
    (freePort s).motion = s.motion ∧
    (freePort s).zone = s.zone ∧
    (freePort s).seat = s.seat ∧
    (freePort s).cue = s.cue ∧
    (freePort s).voice = s.voice ∧
    (freePort s).fault = s.fault ∧
    (freePort s).host = s.host ∧
    (freePort s).clip.mem = s.clip.mem ∧
    (freePort s).mstate = s.mstate := by
  unfold freePort
  dsimp only
  simp

@[simp] theorem leaveStage_frame (r : CommitReq) (s : State) :
    (leaveStage r s).pending = s.pending ∧
    (leaveStage r s).config = s.config ∧
    (leaveStage r s).guide = s.guide ∧
    (leaveStage r s).motion = s.motion ∧
    (leaveStage r s).zone = s.zone ∧
    (leaveStage r s).seat = s.seat ∧
    (leaveStage r s).cue = s.cue ∧
    (leaveStage r s).voice = s.voice ∧
    (leaveStage r s).fault = s.fault ∧
    (leaveStage r s).host = s.host ∧
    (leaveStage r s).clip.mem = s.clip.mem ∧
    (leaveStage r s).mstate = s.mstate := by
  unfold leaveStage
  dsimp only
  simp

@[simp] theorem flushTest_frame (s : State) :
    (flushTest s).pending = s.pending ∧
    (flushTest s).config = s.config ∧
    (flushTest s).guide = s.guide ∧
    (flushTest s).motion = s.motion ∧
    (flushTest s).zone = s.zone ∧
    (flushTest s).seat = s.seat ∧
    (flushTest s).cue = s.cue ∧
    (flushTest s).voice = s.voice ∧
    (flushTest s).fault = s.fault ∧
    (flushTest s).clip.mem = s.clip.mem ∧
    (flushTest s).mstate = s.mstate := by
  unfold flushTest
  (repeat' split) <;> simp

@[simp] theorem writeCommit_frame (r : CommitReq) (s : State) :
    (writeCommit r s).pending = s.pending ∧
    (writeCommit r s).config = s.config ∧
    (writeCommit r s).guide = s.guide ∧
    (writeCommit r s).motion = s.motion ∧
    (writeCommit r s).zone = s.zone ∧
    (writeCommit r s).seat = s.seat ∧
    (writeCommit r s).cue = s.cue ∧
    (writeCommit r s).voice = s.voice ∧
    (writeCommit r s).fault = s.fault ∧
    (writeCommit r s).host = s.host ∧
    (writeCommit r s).mstate = s.mstate := by
  unfold writeCommit
  dsimp only
  simp

@[simp] theorem answerFromMemory_frame (data : List (List Byte)) (s : State) :
    (answerFromMemory data s).pending = s.pending ∧
    (answerFromMemory data s).config = s.config ∧
    (answerFromMemory data s).guide = s.guide ∧
    (answerFromMemory data s).motion = s.motion ∧
    (answerFromMemory data s).zone = s.zone ∧
    (answerFromMemory data s).seat = s.seat ∧
    (answerFromMemory data s).cue = s.cue ∧
    (answerFromMemory data s).voice = s.voice ∧
    (answerFromMemory data s).fault = s.fault ∧
    (answerFromMemory data s).clip.mem = s.clip.mem ∧
    (answerFromMemory data s).mstate = s.mstate := by
  unfold answerFromMemory
  (repeat' split) <;> simp

@[simp] theorem fillBuffer_frame (r : ReadReq) (data : List (List Byte)) (s : State) :
    (fillBuffer r data s).pending = s.pending ∧
    (fillBuffer r data s).config = s.config ∧
    (fillBuffer r data s).guide = s.guide ∧
    (fillBuffer r data s).motion = s.motion ∧
    (fillBuffer r data s).zone = s.zone ∧
    (fillBuffer r data s).seat = s.seat ∧
    (fillBuffer r data s).cue = s.cue ∧
    (fillBuffer r data s).voice = s.voice ∧
    (fillBuffer r data s).fault = s.fault ∧
    (fillBuffer r data s).clip.mem = s.clip.mem ∧
    (fillBuffer r data s).mstate = s.mstate := by
  unfold fillBuffer
  dsimp only
  (repeat' split) <;> simp

@[simp] theorem endVerify_frame (n : Nat) (c : Clip) (computed : Code) (s : State) :
    (endVerify n c computed s).pending = s.pending ∧
    (endVerify n c computed s).config = s.config ∧
    (endVerify n c computed s).guide = s.guide ∧
    (endVerify n c computed s).motion = s.motion ∧
    (endVerify n c computed s).zone = s.zone ∧
    (endVerify n c computed s).seat = s.seat ∧
    (endVerify n c computed s).cue = s.cue ∧
    (endVerify n c computed s).voice = s.voice ∧
    (endVerify n c computed s).host.port = s.host.port ∧
    (endVerify n c computed s).clip.mem = s.clip.mem ∧
    (endVerify n c computed s).mstate = s.mstate := by
  unfold endVerify
  dsimp only
  (repeat' split) <;> simp

@[simp] theorem feedBlock_frame (n : Nat) (c : Clip) (data : List Byte) (s : State) :
    (feedBlock n c data s).pending = s.pending ∧
    (feedBlock n c data s).config = s.config ∧
    (feedBlock n c data s).guide = s.guide ∧
    (feedBlock n c data s).motion = s.motion ∧
    (feedBlock n c data s).zone = s.zone ∧
    (feedBlock n c data s).seat = s.seat ∧
    (feedBlock n c data s).cue = s.cue ∧
    (feedBlock n c data s).voice = s.voice ∧
    (feedBlock n c data s).host.port = s.host.port ∧
    (feedBlock n c data s).clip.mem = s.clip.mem ∧
    (feedBlock n c data s).mstate = s.mstate := by
  unfold feedBlock
  dsimp only
  (repeat' split) <;> simp

@[simp] theorem joinRing_frame (v : Fin 8) (data : List (List Byte)) (s : State) :
    (joinRing v data s).pending = s.pending ∧
    (joinRing v data s).config = s.config ∧
    (joinRing v data s).guide = s.guide ∧
    (joinRing v data s).motion = s.motion ∧
    (joinRing v data s).zone = s.zone ∧
    (joinRing v data s).seat = s.seat ∧
    (joinRing v data s).cue = s.cue ∧
    (joinRing v data s).fault = s.fault ∧
    (joinRing v data s).host = s.host ∧
    (joinRing v data s).clip.mem = s.clip.mem ∧
    (joinRing v data s).mstate = s.mstate := by
  unfold joinRing
  dsimp only
  simp

@[simp] theorem voiceStart_frame (r : VoiceStartReq) (s : State) :
    (voiceStart r s).1.pending = s.pending ∧
    (voiceStart r s).1.config = s.config ∧
    (voiceStart r s).1.guide = s.guide ∧
    (voiceStart r s).1.motion = s.motion ∧
    (voiceStart r s).1.zone = s.zone ∧
    (voiceStart r s).1.seat = s.seat ∧
    (voiceStart r s).1.fault = s.fault ∧
    (voiceStart r s).1.host.port = s.host.port ∧
    (voiceStart r s).1.clip.mem = s.clip.mem ∧
    (voiceStart r s).1.mstate = s.mstate := by
  unfold voiceStart
  (repeat' split) <;> simp

@[simp] theorem voiceStop_frame (r : VoiceStopReq) (s : State) :
    (voiceStop r s).1.pending = s.pending ∧
    (voiceStop r s).1.config = s.config ∧
    (voiceStop r s).1.guide = s.guide ∧
    (voiceStop r s).1.motion = s.motion ∧
    (voiceStop r s).1.zone = s.zone ∧
    (voiceStop r s).1.seat = s.seat ∧
    (voiceStop r s).1.fault = s.fault ∧
    (voiceStop r s).1.host.port = s.host.port ∧
    (voiceStop r s).1.clip.mem = s.clip.mem ∧
    (voiceStop r s).1.mstate = s.mstate := by
  unfold voiceStop
  (repeat' split) <;> simp

@[simp] theorem voiceGain_frame (r : VoiceGainReq) (s : State) :
    (voiceGain r s).1.pending = s.pending ∧
    (voiceGain r s).1.config = s.config ∧
    (voiceGain r s).1.guide = s.guide ∧
    (voiceGain r s).1.motion = s.motion ∧
    (voiceGain r s).1.zone = s.zone ∧
    (voiceGain r s).1.seat = s.seat ∧
    (voiceGain r s).1.cue = s.cue ∧
    (voiceGain r s).1.clip = s.clip ∧
    (voiceGain r s).1.fault = s.fault ∧
    (voiceGain r s).1.host = s.host ∧
    (voiceGain r s).1.mstate = s.mstate := by
  unfold voiceGain
  (repeat' split) <;> simp

@[simp] theorem mixStatus_frame (s : State) :
    (mixStatus s).1.pending = s.pending ∧
    (mixStatus s).1.config = s.config ∧
    (mixStatus s).1.guide = s.guide ∧
    (mixStatus s).1.motion = s.motion ∧
    (mixStatus s).1.zone = s.zone ∧
    (mixStatus s).1.seat = s.seat ∧
    (mixStatus s).1.cue = s.cue ∧
    (mixStatus s).1.clip = s.clip ∧
    (mixStatus s).1.fault = s.fault ∧
    (mixStatus s).1.host = s.host ∧
    (mixStatus s).1.mstate = s.mstate := by
  unfold mixStatus
  dsimp only
  simp

@[simp] theorem underrun_frame (v : Fin 8) (s : State) :
    (underrun v s).pending = s.pending ∧
    (underrun v s).config = s.config ∧
    (underrun v s).guide = s.guide ∧
    (underrun v s).motion = s.motion ∧
    (underrun v s).zone = s.zone ∧
    (underrun v s).seat = s.seat ∧
    (underrun v s).cue = s.cue ∧
    (underrun v s).clip = s.clip ∧
    (underrun v s).host.port = s.host.port ∧
    (underrun v s).mstate = s.mstate := by
  unfold underrun
  dsimp only
  (repeat' split) <;> simp

@[simp] theorem clipEnd_frame (v : Fin 8) (s : State) :
    (clipEnd v s).pending = s.pending ∧
    (clipEnd v s).config = s.config ∧
    (clipEnd v s).guide = s.guide ∧
    (clipEnd v s).motion = s.motion ∧
    (clipEnd v s).zone = s.zone ∧
    (clipEnd v s).seat = s.seat ∧
    (clipEnd v s).fault = s.fault ∧
    (clipEnd v s).host.port = s.host.port ∧
    (clipEnd v s).clip.mem = s.clip.mem ∧
    (clipEnd v s).mstate = s.mstate := by
  unfold clipEnd
  dsimp only
  (repeat' split) <;> simp

@[simp] theorem advance_frame (v : Fin 8) (s : State) :
    (advance v s).pending = s.pending ∧
    (advance v s).config = s.config ∧
    (advance v s).guide = s.guide ∧
    (advance v s).motion = s.motion ∧
    (advance v s).zone = s.zone ∧
    (advance v s).seat = s.seat ∧
    (advance v s).fault = s.fault ∧
    (advance v s).host.port = s.host.port ∧
    (advance v s).clip.mem = s.clip.mem ∧
    (advance v s).mstate = s.mstate := by
  unfold advance
  dsimp only
  (repeat' split) <;> simp

@[simp] theorem moveGain_frame (v : Fin 8) (s : State) :
    (moveGain v s).pending = s.pending ∧
    (moveGain v s).config = s.config ∧
    (moveGain v s).guide = s.guide ∧
    (moveGain v s).motion = s.motion ∧
    (moveGain v s).zone = s.zone ∧
    (moveGain v s).seat = s.seat ∧
    (moveGain v s).fault = s.fault ∧
    (moveGain v s).host.port = s.host.port ∧
    (moveGain v s).clip.mem = s.clip.mem ∧
    (moveGain v s).mstate = s.mstate := by
  unfold moveGain
  (repeat' split) <;> simp

@[simp] theorem tickVoice_frame (ducked : Bool) (duck : Nat) (v : Fin 8) (s : State) :
    (tickVoice ducked duck v s).1.pending = s.pending ∧
    (tickVoice ducked duck v s).1.config = s.config ∧
    (tickVoice ducked duck v s).1.guide = s.guide ∧
    (tickVoice ducked duck v s).1.motion = s.motion ∧
    (tickVoice ducked duck v s).1.zone = s.zone ∧
    (tickVoice ducked duck v s).1.seat = s.seat ∧
    (tickVoice ducked duck v s).1.host.port = s.host.port ∧
    (tickVoice ducked duck v s).1.clip.mem = s.clip.mem ∧
    (tickVoice ducked duck v s).1.mstate = s.mstate := by
  unfold tickVoice
  dsimp only
  (repeat' split) <;> simp

@[simp] theorem tickVoices_frame (ducked : Bool) (duck : Nat) (vs : List (Fin 8)) (s : State) :
    (tickVoices ducked duck vs s).1.pending = s.pending ∧
    (tickVoices ducked duck vs s).1.config = s.config ∧
    (tickVoices ducked duck vs s).1.guide = s.guide ∧
    (tickVoices ducked duck vs s).1.motion = s.motion ∧
    (tickVoices ducked duck vs s).1.zone = s.zone ∧
    (tickVoices ducked duck vs s).1.seat = s.seat ∧
    (tickVoices ducked duck vs s).1.host.port = s.host.port ∧
    (tickVoices ducked duck vs s).1.clip.mem = s.clip.mem ∧
    (tickVoices ducked duck vs s).1.mstate = s.mstate := by
  induction vs generalizing s with
  | nil => simp [tickVoices]
  | cons v vs ih => simp [tickVoices, ih]

@[simp] theorem sampleTick_frame (s : State) :
    (sampleTick s).pending = s.pending ∧
    (sampleTick s).config = s.config ∧
    (sampleTick s).guide = s.guide ∧
    (sampleTick s).motion = s.motion ∧
    (sampleTick s).zone = s.zone ∧
    (sampleTick s).seat = s.seat ∧
    (sampleTick s).host.port = s.host.port ∧
    (sampleTick s).clip.mem = s.clip.mem ∧
    (sampleTick s).mstate = s.mstate := by
  unfold sampleTick
  dsimp only
  simp

@[simp] theorem flagSet_frame (r : FlagSetReq) (s : State) :
    (flagSet r s).1.pending = s.pending ∧
    (flagSet r s).1.config = s.config ∧
    (flagSet r s).1.guide = s.guide ∧
    (flagSet r s).1.motion = s.motion ∧
    (flagSet r s).1.zone = s.zone ∧
    (flagSet r s).1.seat = s.seat ∧
    (flagSet r s).1.clip = s.clip ∧
    (flagSet r s).1.voice = s.voice ∧
    (flagSet r s).1.fault = s.fault ∧
    (flagSet r s).1.host.port = s.host.port ∧
    (flagSet r s).1.mstate = s.mstate := by
  unfold flagSet
  (repeat' split) <;> simp

@[simp] theorem flagExchange_frame (r : FlagExchangeReq) (s : State) :
    (flagExchange r s).1.pending = s.pending ∧
    (flagExchange r s).1.config = s.config ∧
    (flagExchange r s).1.guide = s.guide ∧
    (flagExchange r s).1.motion = s.motion ∧
    (flagExchange r s).1.zone = s.zone ∧
    (flagExchange r s).1.seat = s.seat ∧
    (flagExchange r s).1.clip = s.clip ∧
    (flagExchange r s).1.voice = s.voice ∧
    (flagExchange r s).1.fault = s.fault ∧
    (flagExchange r s).1.host.port = s.host.port ∧
    (flagExchange r s).1.mstate = s.mstate := by
  unfold flagExchange
  (repeat' split) <;> simp

@[simp] theorem showFlagFrame_frame (index : Nat) (v : Bool) (s : State) :
    (showFlagFrame index v s).pending = s.pending ∧
    (showFlagFrame index v s).config = s.config ∧
    (showFlagFrame index v s).guide = s.guide ∧
    (showFlagFrame index v s).motion = s.motion ∧
    (showFlagFrame index v s).zone = s.zone ∧
    (showFlagFrame index v s).seat = s.seat ∧
    (showFlagFrame index v s).clip = s.clip ∧
    (showFlagFrame index v s).voice = s.voice ∧
    (showFlagFrame index v s).fault = s.fault ∧
    (showFlagFrame index v s).host.port = s.host.port ∧
    (showFlagFrame index v s).mstate = s.mstate := by
  unfold showFlagFrame
  (repeat' split) <;> simp

@[simp] theorem takeAck_frame (cueId : Nat) (tag : Byte) (s : State) :
    (takeAck cueId tag s).pending = s.pending ∧
    (takeAck cueId tag s).config = s.config ∧
    (takeAck cueId tag s).guide = s.guide ∧
    (takeAck cueId tag s).motion = s.motion ∧
    (takeAck cueId tag s).zone = s.zone ∧
    (takeAck cueId tag s).seat = s.seat ∧
    (takeAck cueId tag s).clip = s.clip ∧
    (takeAck cueId tag s).voice = s.voice ∧
    (takeAck cueId tag s).fault = s.fault ∧
    (takeAck cueId tag s).host.port = s.host.port ∧
    (takeAck cueId tag s).mstate = s.mstate := by
  unfold takeAck
  dsimp only
  (repeat' split) <;> simp

@[simp] theorem resendScene_frame (e : AckEntry) (s : State) :
    (resendScene e s).pending = s.pending ∧
    (resendScene e s).config = s.config ∧
    (resendScene e s).guide = s.guide ∧
    (resendScene e s).motion = s.motion ∧
    (resendScene e s).seat = s.seat ∧
    (resendScene e s).clip = s.clip ∧
    (resendScene e s).voice = s.voice ∧
    (resendScene e s).fault = s.fault ∧
    (resendScene e s).host.port = s.host.port ∧
    (resendScene e s).mstate = s.mstate := by
  unfold resendScene
  dsimp only
  simp

@[simp] theorem unacknowledged_frame (e : AckEntry) (s : State) :
    (unacknowledged e s).pending = s.pending ∧
    (unacknowledged e s).config = s.config ∧
    (unacknowledged e s).guide = s.guide ∧
    (unacknowledged e s).motion = s.motion ∧
    (unacknowledged e s).zone = s.zone ∧
    (unacknowledged e s).seat = s.seat ∧
    (unacknowledged e s).clip = s.clip ∧
    (unacknowledged e s).voice = s.voice ∧
    (unacknowledged e s).host.port = s.host.port ∧
    (unacknowledged e s).mstate = s.mstate := by
  unfold unacknowledged
  simp

@[simp] theorem setRecord_frame (r : ConfigRecord) (s : State) :
    (setRecord r s).pending = s.pending ∧
    (setRecord r s).guide = s.guide ∧
    (setRecord r s).motion = s.motion ∧
    (setRecord r s).zone = s.zone ∧
    (setRecord r s).seat = s.seat ∧
    (setRecord r s).cue = s.cue ∧
    (setRecord r s).clip = s.clip ∧
    (setRecord r s).voice = s.voice ∧
    (setRecord r s).fault = s.fault ∧
    (setRecord r s).host = s.host ∧
    (setRecord r s).config.committed = s.config.committed ∧
    (setRecord r s).mstate = s.mstate := by
  unfold setRecord
  dsimp only
  simp

@[simp] theorem reportConfig_frame (s : State) :
    (reportConfig s).pending = s.pending ∧
    (reportConfig s).config = s.config ∧
    (reportConfig s).guide = s.guide ∧
    (reportConfig s).motion = s.motion ∧
    (reportConfig s).zone = s.zone ∧
    (reportConfig s).seat = s.seat ∧
    (reportConfig s).cue = s.cue ∧
    (reportConfig s).clip = s.clip ∧
    (reportConfig s).voice = s.voice ∧
    (reportConfig s).fault = s.fault ∧
    (reportConfig s).host.port = s.host.port ∧
    (reportConfig s).mstate = s.mstate := by
  unfold reportConfig
  simp

@[simp] theorem openSession_frame (s : State) :
    (openSession s).pending = s.pending ∧
    (openSession s).guide = s.guide ∧
    (openSession s).motion = s.motion ∧
    (openSession s).zone = s.zone ∧
    (openSession s).seat = s.seat ∧
    (openSession s).cue = s.cue ∧
    (openSession s).clip = s.clip ∧
    (openSession s).voice = s.voice ∧
    (openSession s).fault = s.fault ∧
    (openSession s).host.port = s.host.port ∧
    (openSession s).config.committed = s.config.committed ∧
    (openSession s).mstate = s.mstate := by
  unfold openSession
  dsimp only
  simp

@[simp] theorem closeLoop_frame (s : State) :
    (closeLoop s).pending = s.pending ∧
    (closeLoop s).config = s.config ∧
    (closeLoop s).guide = s.guide ∧
    (closeLoop s).motion = s.motion ∧
    (closeLoop s).zone = s.zone ∧
    (closeLoop s).cue = s.cue ∧
    (closeLoop s).clip = s.clip ∧
    (closeLoop s).voice = s.voice ∧
    (closeLoop s).fault = s.fault ∧
    (closeLoop s).host = s.host ∧
    (closeLoop s).mstate = s.mstate := by
  unfold closeLoop
  dsimp only
  (repeat' split) <;> simp

@[simp] theorem emptyAcks_frame (s : State) :
    (emptyAcks s).pending = s.pending ∧
    (emptyAcks s).config = s.config ∧
    (emptyAcks s).guide = s.guide ∧
    (emptyAcks s).motion = s.motion ∧
    (emptyAcks s).zone = s.zone ∧
    (emptyAcks s).seat = s.seat ∧
    (emptyAcks s).clip = s.clip ∧
    (emptyAcks s).voice = s.voice ∧
    (emptyAcks s).fault = s.fault ∧
    (emptyAcks s).host = s.host ∧
    (emptyAcks s).mstate = s.mstate := by
  unfold emptyAcks
  dsimp only
  simp

@[simp] theorem beginConfigBlocks_frame (s : State) :
    (beginConfigBlocks s).pending = s.pending ∧
    (beginConfigBlocks s).config = s.config ∧
    (beginConfigBlocks s).clip = s.clip ∧
    (beginConfigBlocks s).host.port = s.host.port := by
  unfold beginConfigBlocks
  simp

@[simp] theorem beginConfig_frame (s : State) :
    (beginConfig s).1.pending = s.pending ∧
    (beginConfig s).1.clip = s.clip ∧
    (beginConfig s).1.host.port = s.host.port ∧
    (beginConfig s).1.config.committed = s.config.committed := by
  unfold beginConfig
  (repeat' split) <;> simp

@[simp] theorem pathLoad_frame (l : Load Segment) (s : State) :
    (pathLoad l s).1.pending = s.pending ∧
    (pathLoad l s).1.config = s.config ∧
    (pathLoad l s).1.motion = s.motion ∧
    (pathLoad l s).1.zone = s.zone ∧
    (pathLoad l s).1.seat = s.seat ∧
    (pathLoad l s).1.cue = s.cue ∧
    (pathLoad l s).1.clip = s.clip ∧
    (pathLoad l s).1.voice = s.voice ∧
    (pathLoad l s).1.fault = s.fault ∧
    (pathLoad l s).1.host = s.host ∧
    (pathLoad l s).1.mstate = s.mstate := by
  unfold pathLoad
  dsimp only
  (repeat' split) <;> simp

@[simp] theorem markerLoad_frame (l : Load Marker) (s : State) :
    (markerLoad l s).1.pending = s.pending ∧
    (markerLoad l s).1.config = s.config ∧
    (markerLoad l s).1.motion = s.motion ∧
    (markerLoad l s).1.zone = s.zone ∧
    (markerLoad l s).1.seat = s.seat ∧
    (markerLoad l s).1.cue = s.cue ∧
    (markerLoad l s).1.clip = s.clip ∧
    (markerLoad l s).1.voice = s.voice ∧
    (markerLoad l s).1.fault = s.fault ∧
    (markerLoad l s).1.host = s.host ∧
    (markerLoad l s).1.mstate = s.mstate := by
  unfold markerLoad
  dsimp only
  (repeat' split) <;> simp

@[simp] theorem cueLoad_frame (l : Load CueIn) (s : State) :
    (cueLoad l s).1.pending = s.pending ∧
    (cueLoad l s).1.config = s.config ∧
    (cueLoad l s).1.guide = s.guide ∧
    (cueLoad l s).1.motion = s.motion ∧
    (cueLoad l s).1.zone = s.zone ∧
    (cueLoad l s).1.seat = s.seat ∧
    (cueLoad l s).1.clip = s.clip ∧
    (cueLoad l s).1.voice = s.voice ∧
    (cueLoad l s).1.fault = s.fault ∧
    (cueLoad l s).1.host = s.host ∧
    (cueLoad l s).1.mstate = s.mstate := by
  unfold cueLoad
  dsimp only
  (repeat' split) <;> simp

@[simp] theorem loadSeatMap_frame (m : SeatMap) (s : State) :
    (loadSeatMap m s).1.pending = s.pending ∧
    (loadSeatMap m s).1.guide = s.guide ∧
    (loadSeatMap m s).1.motion = s.motion ∧
    (loadSeatMap m s).1.zone = s.zone ∧
    (loadSeatMap m s).1.seat = s.seat ∧
    (loadSeatMap m s).1.cue = s.cue ∧
    (loadSeatMap m s).1.clip = s.clip ∧
    (loadSeatMap m s).1.voice = s.voice ∧
    (loadSeatMap m s).1.fault = s.fault ∧
    (loadSeatMap m s).1.host = s.host ∧
    (loadSeatMap m s).1.config.committed = s.config.committed ∧
    (loadSeatMap m s).1.mstate = s.mstate := by
  unfold loadSeatMap
  dsimp only
  (repeat' split) <;> simp

@[simp] theorem limitsLoad_frame (l : List (Nat × Nat)) (s : State) :
    (limitsLoad l s).1.pending = s.pending ∧
    (limitsLoad l s).1.guide = s.guide ∧
    (limitsLoad l s).1.motion = s.motion ∧
    (limitsLoad l s).1.zone = s.zone ∧
    (limitsLoad l s).1.seat = s.seat ∧
    (limitsLoad l s).1.cue = s.cue ∧
    (limitsLoad l s).1.clip = s.clip ∧
    (limitsLoad l s).1.voice = s.voice ∧
    (limitsLoad l s).1.fault = s.fault ∧
    (limitsLoad l s).1.host = s.host ∧
    (limitsLoad l s).1.config.committed = s.config.committed ∧
    (limitsLoad l s).1.mstate = s.mstate := by
  unfold limitsLoad
  dsimp only
  (repeat' split) <;> simp

@[simp] theorem setMix_frame (r : MixReq) (s : State) :
    (setMix r s).1.pending = s.pending ∧
    (setMix r s).1.config = s.config ∧
    (setMix r s).1.guide = s.guide ∧
    (setMix r s).1.motion = s.motion ∧
    (setMix r s).1.zone = s.zone ∧
    (setMix r s).1.seat = s.seat ∧
    (setMix r s).1.cue = s.cue ∧
    (setMix r s).1.clip = s.clip ∧
    (setMix r s).1.fault = s.fault ∧
    (setMix r s).1.host = s.host ∧
    (setMix r s).1.mstate = s.mstate := by
  unfold setMix
  dsimp only
  simp

@[simp] theorem setGains_frame (r : GainsReq) (s : State) :
    (setGains r s).1.pending = s.pending ∧
    (setGains r s).1.config = s.config ∧
    (setGains r s).1.motion = s.motion ∧
    (setGains r s).1.zone = s.zone ∧
    (setGains r s).1.seat = s.seat ∧
    (setGains r s).1.cue = s.cue ∧
    (setGains r s).1.clip = s.clip ∧
    (setGains r s).1.voice = s.voice ∧
    (setGains r s).1.fault = s.fault ∧
    (setGains r s).1.host = s.host ∧
    (setGains r s).1.mstate = s.mstate := by
  unfold setGains
  dsimp only
  simp

@[simp] theorem resetGuidance_frame (s : State) :
    (resetGuidance s).pending = s.pending ∧
    (resetGuidance s).config = s.config ∧
    (resetGuidance s).motion = s.motion ∧
    (resetGuidance s).zone = s.zone ∧
    (resetGuidance s).seat = s.seat ∧
    (resetGuidance s).cue = s.cue ∧
    (resetGuidance s).clip = s.clip ∧
    (resetGuidance s).voice = s.voice ∧
    (resetGuidance s).host.port = s.host.port ∧
    (resetGuidance s).mstate = s.mstate := by
  unfold resetGuidance
  dsimp only
  (repeat' split) <;> simp

@[simp] theorem resetMotion_frame (s : State) :
    (resetMotion s).pending = s.pending ∧
    (resetMotion s).config = s.config ∧
    (resetMotion s).guide = s.guide ∧
    (resetMotion s).zone = s.zone ∧
    (resetMotion s).seat = s.seat ∧
    (resetMotion s).cue = s.cue ∧
    (resetMotion s).clip = s.clip ∧
    (resetMotion s).voice = s.voice ∧
    (resetMotion s).fault = s.fault ∧
    (resetMotion s).host.port = s.host.port := by
  unfold resetMotion
  dsimp only
  (repeat' split) <;> simp

@[simp] theorem restartDrive_frame (s : State) :
    (restartDrive s).pending = s.pending ∧
    (restartDrive s).config = s.config ∧
    (restartDrive s).guide = s.guide ∧
    (restartDrive s).zone = s.zone ∧
    (restartDrive s).seat = s.seat ∧
    (restartDrive s).cue = s.cue ∧
    (restartDrive s).clip = s.clip ∧
    (restartDrive s).voice = s.voice ∧
    (restartDrive s).host.port = s.host.port ∧
    (restartDrive s).mstate = s.mstate := by
  unfold restartDrive
  (repeat' split) <;> simp

@[simp] theorem resetCue_frame (s : State) :
    (resetCue s).pending = s.pending ∧
    (resetCue s).config = s.config ∧
    (resetCue s).guide = s.guide ∧
    (resetCue s).motion = s.motion ∧
    (resetCue s).zone = s.zone ∧
    (resetCue s).seat = s.seat ∧
    (resetCue s).clip = s.clip ∧
    (resetCue s).voice = s.voice ∧
    (resetCue s).fault = s.fault ∧
    (resetCue s).host = s.host ∧
    (resetCue s).mstate = s.mstate := by
  unfold resetCue
  dsimp only
  simp

@[simp] theorem resetZone_frame (s : State) :
    (resetZone s).pending = s.pending ∧
    (resetZone s).config = s.config ∧
    (resetZone s).clip = s.clip ∧
    (resetZone s).host.port = s.host.port := by
  unfold resetZone
  dsimp only
  (repeat' split) <;> simp

@[simp] theorem reportFresh_frame (before : List SeatRecord) (s : State) (r : SeatRecord) :
    (reportFresh before s r).pending = s.pending ∧
    (reportFresh before s r).config = s.config ∧
    (reportFresh before s r).guide = s.guide ∧
    (reportFresh before s r).motion = s.motion ∧
    (reportFresh before s r).zone = s.zone ∧
    (reportFresh before s r).seat = s.seat ∧
    (reportFresh before s r).cue = s.cue ∧
    (reportFresh before s r).clip = s.clip ∧
    (reportFresh before s r).voice = s.voice ∧
    (reportFresh before s r).fault = s.fault ∧
    (reportFresh before s r).host.port = s.host.port ∧
    (reportFresh before s r).mstate = s.mstate := by
  unfold reportFresh
  (repeat' split) <;> simp

@[simp] theorem resetSeat_frame (cause : PermitCause) (s : State) :
    (resetSeat cause s).pending = s.pending ∧
    (resetSeat cause s).config = s.config ∧
    (resetSeat cause s).guide = s.guide ∧
    (resetSeat cause s).motion = s.motion ∧
    (resetSeat cause s).zone = s.zone ∧
    (resetSeat cause s).cue = s.cue ∧
    (resetSeat cause s).clip = s.clip ∧
    (resetSeat cause s).voice = s.voice ∧
    (resetSeat cause s).fault = s.fault ∧
    (resetSeat cause s).host.port = s.host.port ∧
    (resetSeat cause s).mstate = s.mstate := by
  unfold resetSeat
  dsimp only
  (repeat' split) <;> simp

@[simp] theorem resetClip_frame (s : State) :
    (resetClip s).pending = s.pending ∧
    (resetClip s).config = s.config ∧
    (resetClip s).guide = s.guide ∧
    (resetClip s).motion = s.motion ∧
    (resetClip s).zone = s.zone ∧
    (resetClip s).seat = s.seat ∧
    (resetClip s).cue = s.cue ∧
    (resetClip s).voice = s.voice ∧
    (resetClip s).fault = s.fault ∧
    (resetClip s).host = s.host ∧
    (resetClip s).clip.mem = s.clip.mem ∧
    (resetClip s).mstate = s.mstate := by
  unfold resetClip
  dsimp only
  simp

@[simp] theorem resetVoice_frame (s : State) :
    (resetVoice s).pending = s.pending ∧
    (resetVoice s).config = s.config ∧
    (resetVoice s).guide = s.guide ∧
    (resetVoice s).motion = s.motion ∧
    (resetVoice s).zone = s.zone ∧
    (resetVoice s).seat = s.seat ∧
    (resetVoice s).cue = s.cue ∧
    (resetVoice s).clip = s.clip ∧
    (resetVoice s).fault = s.fault ∧
    (resetVoice s).host = s.host ∧
    (resetVoice s).mstate = s.mstate := by
  unfold resetVoice
  dsimp only
  simp

@[simp] theorem startSilence_frame (s : State) :
    (startSilence s).pending = s.pending ∧
    (startSilence s).config = s.config ∧
    (startSilence s).guide = s.guide ∧
    (startSilence s).motion = s.motion ∧
    (startSilence s).zone = s.zone ∧
    (startSilence s).seat = s.seat ∧
    (startSilence s).cue = s.cue ∧
    (startSilence s).clip = s.clip ∧
    (startSilence s).voice = s.voice ∧
    (startSilence s).fault = s.fault ∧
    (startSilence s).host.port.still = s.host.port.still ∧
    (startSilence s).mstate = s.mstate := by
  unfold startSilence
  dsimp only
  (repeat' split) <;> simp

@[simp] theorem commitRecord_frame (label : Code) (s : State) :
    (commitRecord label s).pending = s.pending ∧
    (commitRecord label s).guide = s.guide ∧
    (commitRecord label s).motion = s.motion ∧
    (commitRecord label s).zone = s.zone ∧
    (commitRecord label s).seat = s.seat ∧
    (commitRecord label s).cue = s.cue ∧
    (commitRecord label s).clip = s.clip ∧
    (commitRecord label s).voice = s.voice ∧
    (commitRecord label s).fault = s.fault ∧
    (commitRecord label s).host.port = s.host.port ∧
    (commitRecord label s).mstate = s.mstate := by
  unfold commitRecord
  dsimp only
  simp

@[simp] theorem commitSeat_frame (s : State) :
    (commitSeat s).pending = s.pending ∧
    (commitSeat s).config = s.config ∧
    (commitSeat s).guide = s.guide ∧
    (commitSeat s).motion = s.motion ∧
    (commitSeat s).zone = s.zone ∧
    (commitSeat s).cue = s.cue ∧
    (commitSeat s).clip = s.clip ∧
    (commitSeat s).host.port = s.host.port ∧
    (commitSeat s).mstate = s.mstate := by
  unfold commitSeat
  dsimp only
  (repeat' split) <;> simp

@[simp] theorem deriveZoneMap_frame (s : State) :
    (deriveZoneMap s).pending = s.pending ∧
    (deriveZoneMap s).config = s.config ∧
    (deriveZoneMap s).guide = s.guide ∧
    (deriveZoneMap s).motion = s.motion ∧
    (deriveZoneMap s).seat = s.seat ∧
    (deriveZoneMap s).cue = s.cue ∧
    (deriveZoneMap s).clip = s.clip ∧
    (deriveZoneMap s).voice = s.voice ∧
    (deriveZoneMap s).fault = s.fault ∧
    (deriveZoneMap s).host = s.host ∧
    (deriveZoneMap s).mstate = s.mstate := by
  unfold deriveZoneMap
  dsimp only
  simp

@[simp] theorem endSilent_frame (s : State) :
    (endSilent s).pending = s.pending ∧
    (endSilent s).config = s.config ∧
    (endSilent s).guide = s.guide ∧
    (endSilent s).motion = s.motion ∧
    (endSilent s).zone = s.zone ∧
    (endSilent s).seat = s.seat ∧
    (endSilent s).cue = s.cue ∧
    (endSilent s).clip = s.clip ∧
    (endSilent s).voice = s.voice ∧
    (endSilent s).host.port.still = s.host.port.still ∧
    (endSilent s).mstate = s.mstate := by
  unfold endSilent
  simp

@[simp] theorem commitSilence_frame (s : State) :
    (commitSilence s).pending = s.pending ∧
    (commitSilence s).config = s.config ∧
    (commitSilence s).guide = s.guide ∧
    (commitSilence s).motion = s.motion ∧
    (commitSilence s).zone = s.zone ∧
    (commitSilence s).seat = s.seat ∧
    (commitSilence s).cue = s.cue ∧
    (commitSilence s).clip = s.clip ∧
    (commitSilence s).voice = s.voice ∧
    (commitSilence s).host.port.still = s.host.port.still ∧
    (commitSilence s).mstate = s.mstate := by
  unfold commitSilence
  dsimp only
  (repeat' split) <;> simp

@[simp] theorem commitBlocks_frame (s : State) :
    (commitBlocks s).pending = s.pending ∧
    (commitBlocks s).config = s.config ∧
    (commitBlocks s).clip = s.clip ∧
    (commitBlocks s).host.port.still = s.host.port.still := by
  unfold commitBlocks
  simp

@[simp] theorem commit_frame (label : Code) (s : State) :
    (commit label s).1.pending = s.pending ∧
    (commit label s).1.clip = s.clip ∧
    (commit label s).1.host.port.still = s.host.port.still := by
  unfold commit
  dsimp only
  (repeat' split) <;> simp

@[simp] theorem restartReports_frame (s : State) :
    (restartReports s).pending = s.pending ∧
    (restartReports s).config = s.config ∧
    (restartReports s).guide = s.guide ∧
    (restartReports s).motion = s.motion ∧
    (restartReports s).zone = s.zone ∧
    (restartReports s).seat = s.seat ∧
    (restartReports s).cue = s.cue ∧
    (restartReports s).clip = s.clip ∧
    (restartReports s).voice = s.voice ∧
    (restartReports s).fault = s.fault ∧
    (restartReports s).host.port = s.host.port ∧
    (restartReports s).mstate = s.mstate := by
  unfold restartReports
  dsimp only
  simp

@[simp] theorem senseEstop_frame (s : State) :
    (senseEstop s).pending = s.pending ∧
    (senseEstop s).config = s.config ∧
    (senseEstop s).zone = s.zone ∧
    (senseEstop s).clip = s.clip ∧
    (senseEstop s).host.port = s.host.port := by
  unfold senseEstop
  (repeat' split) <;> simp

@[simp] theorem restart_frame (s : State) :
    (restart s).pending = s.pending ∧
    (restart s).config = s.config ∧
    (restart s).host.port.still = s.host.port.still ∧
    (restart s).clip.mem = s.clip.mem := by
  unfold restart
  simp

@[simp] theorem takeRestart_frame (f : RxFrame) (s : State) :
    (takeRestart f s).pending = s.pending ∧
    (takeRestart f s).config = s.config ∧
    (takeRestart f s).clip.mem = s.clip.mem := by
  unfold takeRestart
  (repeat' split) <;> simp

@[simp] theorem clearFaults_frame (s : State) :
    (clearFaults s).1.pending = s.pending ∧
    (clearFaults s).1.config = s.config ∧
    (clearFaults s).1.guide = s.guide ∧
    (clearFaults s).1.motion = s.motion ∧
    (clearFaults s).1.zone = s.zone ∧
    (clearFaults s).1.seat = s.seat ∧
    (clearFaults s).1.cue = s.cue ∧
    (clearFaults s).1.clip = s.clip ∧
    (clearFaults s).1.voice = s.voice ∧
    (clearFaults s).1.host.port = s.host.port ∧
    (clearFaults s).1.mstate = s.mstate := by
  unfold clearFaults
  dsimp only
  simp

@[simp] theorem setCounts_frame (c : HostCounts) (s : State) :
    (setCounts c s).pending = s.pending ∧
    (setCounts c s).config = s.config ∧
    (setCounts c s).guide = s.guide ∧
    (setCounts c s).motion = s.motion ∧
    (setCounts c s).zone = s.zone ∧
    (setCounts c s).seat = s.seat ∧
    (setCounts c s).cue = s.cue ∧
    (setCounts c s).clip = s.clip ∧
    (setCounts c s).voice = s.voice ∧
    (setCounts c s).fault = s.fault ∧
    (setCounts c s).mstate = s.mstate := by
  unfold setCounts
  dsimp only
  simp

@[simp] theorem overrun_frame (f : RxFrame) (s : State) :
    (overrun f s).pending = s.pending ∧
    (overrun f s).config = s.config ∧
    (overrun f s).guide = s.guide ∧
    (overrun f s).motion = s.motion ∧
    (overrun f s).zone = s.zone ∧
    (overrun f s).seat = s.seat ∧
    (overrun f s).cue = s.cue ∧
    (overrun f s).clip = s.clip ∧
    (overrun f s).voice = s.voice ∧
    (overrun f s).fault = s.fault ∧
    (overrun f s).mstate = s.mstate := by
  unfold overrun
  dsimp only
  (repeat' split) <;> simp

@[simp] theorem receiveValid_frame (f : RxFrame) (s : State) :
    (receiveValid f s).pending = s.pending ∧
    (receiveValid f s).config = s.config ∧
    (receiveValid f s).guide = s.guide ∧
    (receiveValid f s).motion = s.motion ∧
    (receiveValid f s).zone = s.zone ∧
    (receiveValid f s).seat = s.seat ∧
    (receiveValid f s).cue = s.cue ∧
    (receiveValid f s).clip = s.clip ∧
    (receiveValid f s).voice = s.voice ∧
    (receiveValid f s).mstate = s.mstate := by
  unfold receiveValid
  dsimp only
  (repeat' split) <;> simp

@[simp] theorem receiveFramed_frame (s : State) (x : Framed) :
    (receiveFramed s x).pending = s.pending ∧
    (receiveFramed s x).config = s.config ∧
    (receiveFramed s x).guide = s.guide ∧
    (receiveFramed s x).motion = s.motion ∧
    (receiveFramed s x).zone = s.zone ∧
    (receiveFramed s x).seat = s.seat ∧
    (receiveFramed s x).cue = s.cue ∧
    (receiveFramed s x).clip = s.clip ∧
    (receiveFramed s x).voice = s.voice ∧
    (receiveFramed s x).mstate = s.mstate := by
  unfold receiveFramed
  dsimp only
  (repeat' split) <;> simp

@[simp] theorem fetchReports_frame (s : State) :
    (fetchReports s).1.pending = s.pending ∧
    (fetchReports s).1.config = s.config ∧
    (fetchReports s).1.guide = s.guide ∧
    (fetchReports s).1.motion = s.motion ∧
    (fetchReports s).1.zone = s.zone ∧
    (fetchReports s).1.seat = s.seat ∧
    (fetchReports s).1.cue = s.cue ∧
    (fetchReports s).1.clip = s.clip ∧
    (fetchReports s).1.voice = s.voice ∧
    (fetchReports s).1.fault = s.fault ∧
    (fetchReports s).1.host.port = s.host.port ∧
    (fetchReports s).1.mstate = s.mstate := by
  simp [fetchReports]

end Sys2Proof.Machine
end

