-- ==== Sys2Proof/Laws/Inversion.lean ====
section
/-! SUPPORT. What each command can do, said once: if `exec` answers a next state, then it is one of these.
The request rows go through `onRequest_next`, the wayside frame rows through `onWayside_next`. -/

namespace Sys2Proof.Machine

theorem takeRequest_some {k : Byte} {s s1 : State} {f : RxFrame} (h : takeRequest k s = some (f, s1)) :
    ∃ rest, s.host.held = none ∧ s.host.rxQueue = f :: rest ∧ f.kind = k ∧
      s1 = s.setHost { s.host with rxQueue := rest } := by
  unfold takeRequest at h
  split at h
  · rename_i f' rest hh hq
    split at h
    · obtain ⟨rfl, rfl⟩ : f' = f ∧ _ = s1 := by simpa using h
      exact ⟨rest, hh, hq, ‹_›, rfl⟩
    · cases h
  · cases h

theorem takeRequest_of {k : Byte} {s : State} {f : RxFrame} {rest : List RxFrame}
    (h1 : s.host.held = none) (h2 : s.host.rxQueue = f :: rest) (h3 : f.kind = k) :
    takeRequest k s = some (f, s.setHost { s.host with rxQueue := rest }) := by
  unfold takeRequest
  simp [h1, h2, h3]

/-- What the run test of a load can answer (R206). -/
theorem fitRun_cases {α : Type} (b : Body (Load α)) :
    (∃ l, b = .fit l ∧ l.run.length ≤ 64 ∧ fitRun b = .fit l) ∨
      ((b = .misfit ∨ ∃ l, b = .fit l ∧ 64 < l.run.length) ∧ fitRun b = .misfit) := by
  cases b with
  | misfit => exact .inr ⟨.inl rfl, rfl⟩
  | fit l =>
    by_cases h : 64 < l.run.length
    · exact .inr ⟨.inr ⟨l, rfl, h⟩, by simp [fitRun, Config.runMax, h]⟩
    · exact .inl ⟨l, rfl, by omega, by simp [fitRun, Config.runMax, h]⟩

/-- What a request row can do (R206). -/
theorem onRequest_next {α : Type} {k : Byte} {b : Body α} {s t : State}
    {act : RxFrame → α → State → State} (h : onRequest k b s act = .next t) :
    t = s ∨ ∃ f rest, s.host.held = none ∧ s.host.rxQueue = f :: rest ∧ f.kind = k ∧
      ((b = .misfit ∧
          t = sendReply f (.invalid .malformed) (s.setHost { s.host with rxQueue := rest })) ∨
        ∃ a, b = .fit a ∧ t = act f a (s.setHost { s.host with rxQueue := rest })) := by
  unfold onRequest at h
  split at h
  · exact .inl (by cases h; rfl)
  · rename_i f s1 ht
    obtain ⟨rest, h1, h2, h3, rfl⟩ := takeRequest_some ht
    refine .inr ⟨f, rest, h1, h2, h3, ?_⟩
    split at h
    · exact .inl ⟨rfl, by cases h; rfl⟩
    · exact .inr ⟨_, rfl, by cases h; rfl⟩

/-- A request row whose frame is the one to take hands it to its owner (R206). -/
theorem onRequest_fit {α : Type} {k : Byte} {a : α} {s : State} {act : RxFrame → α → State → State}
    {f : RxFrame} {rest : List RxFrame} (h1 : s.host.held = none) (h2 : s.host.rxQueue = f :: rest)
    (h3 : f.kind = k) :
    onRequest k (.fit a) s act = .next (act f a (s.setHost { s.host with rxQueue := rest })) := by
  simp [onRequest, takeRequest_of h1 h2 h3]

/-- A part of the state that every operation of a request row's owner leaves alone is left alone. -/
theorem onRequest_keep {α β : Type} (g : State → β) (hg : ∀ s h, g (s.setHost h) = g s) {k : Byte}
    {b : Body α} {s t : State} {act : RxFrame → α → State → State}
    (hact : ∀ f a s, g (act f a s) = g s) (h : onRequest k b s act = .next t) : g t = g s := by
  rcases onRequest_next h with rfl | ⟨f, rest, -, -, -, ⟨-, rfl⟩ | ⟨a, -, rfl⟩⟩
  · rfl
  · unfold sendReply handReply
    split <;> simp only [hg]
  · rw [hact, hg]

/-- What a wayside frame row can do (R89, R90). -/
theorem onWayside_next {dest : Byte} {s t : State} {act : State → State}
    (h : onWayside dest s act = .next t) : t = s ∨ t = act (validFrame s) := by
  unfold onWayside at h
  split at h
  · exact .inl (by cases h; rfl)
  · split at h
    · exact .inr (by cases h; rfl)
    · exact .inl (by cases h; rfl)

/-- A wayside frame for this vehicle, while the link is started, is taken (R89, R90). -/
theorem onWayside_taken {dest : Byte} {s : State} {act : State → State} (h1 : s.zone.link ≠ .stopped)
    (h2 : s.addressed dest = true) : onWayside dest s act = .next (act (validFrame s)) := by
  simp [onWayside, h1, h2]

theorem execHostSilenceTimeout_next {s t : State}
    (h : execHostSilenceTimeout s = .next t) :
    t = s ∨
      (s.host.silence.isRunning = true ∧ s.host.silent = true ∧
        t = s.setHost { s.host with silence := .expired }) ∨
      (s.host.silence.isRunning = true ∧ s.host.silent = false ∧
        t = raiseFault .f18 .none (s.setHost { s.host with silence := .expired, silent := true })) := by
  unfold execHostSilenceTimeout at h
  (repeat' split at h) <;> cases h <;> simp_all

theorem execUnknownKind_next {s t : State}
    (h : execUnknownKind s = .next t) :
    t = s ∨ ∃ f rest, s.host.held = none ∧ s.host.rxQueue = f :: rest ∧
      requestKinds.contains f.kind = false ∧
      t = sendReply f (.invalid .unknownKind) (s.setHost { s.host with rxQueue := rest }) := by
  unfold execUnknownKind at h
  (repeat' split at h) <;> cases h <;> simp_all

theorem execGuideSample_next {g : GuideSample} {order : UnitOrder} {s t : State}
    (h : execGuideSample g order s = .next t) :
    (s.isReady = true ∧ t = sampleArrival g order s) ∨
      (s.isReady = false ∧ t = takeReading g (readOdometer s)) := by
  unfold execGuideSample at h
  (repeat' split at h) <;> cases h <;> simp_all

theorem execGuideTimeout_next {s t : State}
    (h : execGuideTimeout s = .next t) :
    t = s ∨ (s.guide.timer.isRunning = true ∧
      t = raiseFault .f03 .none (s.setGuide { s.guide with timer := .expired })) := by
  unfold execGuideTimeout at h
  (repeat' split at h) <;> cases h <;> simp_all

theorem execFeedback_next {frame : List Byte} {s t : State}
    (h : execFeedback frame s = .next t) :
    t = discardFeedback s ∨ ∃ f d, feedbackCheck frame = some f ∧ s.motion.drive.last = some d ∧
      f.seq = d.seq ∧ d.answered = false ∧ t = trackingTest f d (feedbackRecord f (answerDemand d s)) := by
  unfold execFeedback at h
  (repeat' split at h) <;> cases h <;> simp_all

theorem execEstopAsserted_next {s t : State}
    (h : execEstopAsserted s = .next t) :
    t = s ∨ (s.motion.record.estopIn = false ∧ t = raiseFault .f01 .none (setEstopIn true s)) := by
  unfold execEstopAsserted at h
  (repeat' split at h) <;> cases h <;> simp_all

theorem execEstopReleased_next {s t : State}
    (h : execEstopReleased s = .next t) :
    t = s ∨ (s.motion.record.estopIn = true ∧
      t = if (endCond .f01 (setEstopIn false s)).mstate = .estop then
          enterStopped (endCond .f01 (setEstopIn false s))
        else endCond .f01 (setEstopIn false s)) := by
  unfold execEstopReleased at h
  split at h
  · cases h
    exact .inr ⟨‹_›, rfl⟩
  · exact .inl (by cases h; rfl)

theorem execWaysideFrameDiscard_next {frame : List Byte} {s t : State}
    (h : execWaysideFrameDiscard frame s = .next t) :
    t = s ∨ (waysideCheck frame = none ∧ s.zone.link ≠ .stopped ∧ t = countDiscard s) := by
  unfold execWaysideFrameDiscard at h
  (repeat' split at h) <;> cases h <;> simp_all

theorem execClaimTimerExpiry_next {zone : Nat} {s t : State}
    (h : execClaimTimerExpiry zone s = .next t) :
    t = s ∨ ∃ r, s.claimRunning zone = some r ∧ t = expire r (.claimTimeout zone) s := by
  unfold execClaimTimerExpiry at h
  (repeat' split at h) <;> cases h <;> simp_all

theorem execReleaseTimerExpiry_next {zone : Nat} {s t : State}
    (h : execReleaseTimerExpiry zone s = .next t) :
    t = s ∨ ∃ r, s.releaseRunning zone = some r ∧ t = expire r (.releaseTimeout zone) s := by
  unfold execReleaseTimerExpiry at h
  (repeat' split at h) <;> cases h <;> simp_all

theorem execBackoffTimerExpiry_next {zone : Nat} {s t : State}
    (h : execBackoffTimerExpiry zone s = .next t) :
    t = s ∨ ∃ r, s.backoffRunning zone = some r ∧ t = reclaimAfterBackoff zone s := by
  unfold execBackoffTimerExpiry at h
  (repeat' split at h) <;> cases h <;> simp_all

theorem execLinkTimeout_next {s t : State}
    (h : execLinkTimeout s = .next t) :
    t = s ∨ (s.zone.link ≠ .stopped ∧ s.zone.linkTimer.isRunning = true ∧
      t = testF10 .link
        (reportZone .linkLost (s.setZone { s.zone with link := .lost, linkTimer := .expired }))) := by
  unfold execLinkTimeout at h
  (repeat' split at h) <;> cases h <;> simp_all

theorem execBeacon_next {s t : State}
    (h : execBeacon s = .next t) :
    t = s ∨ (s.zone.link ≠ .stopped ∧
      t = (putBeacon s.beaconNow s).setZone
        { (putBeacon s.beaconNow s).zone with beaconTimer := .running Config.beaconMs }) := by
  unfold execBeacon at h
  (repeat' split at h) <;> cases h <;> simp_all

theorem execWaysideTransmit_next {s t : State}
    (h : execWaysideTransmit s = .next t) :
    t = s ∨ (s.zone.link ≠ .stopped ∧ s.zone.sending = none ∧ t = transmit s) := by
  unfold execWaysideTransmit at h
  (repeat' split at h) <;> cases h <;> simp_all

theorem execAckTimerExpiry_next {cueId : Nat} {tag : Byte} {s t : State}
    (h : execAckTimerExpiry cueId tag s = .next t) :
    t = s ∨ ∃ e, s.ackFor cueId tag = some e ∧ e.stage ≠ .queued ∧
      (e.sends = 1 ∧ t = resendScene e s ∨ e.sends ≠ 1 ∧ t = unacknowledged e s) := by
  unfold execAckTimerExpiry at h
  (repeat' split at h) <;> cases h <;> simp_all

theorem execPulseExpiry_next {out : Fin 8} {s t : State}
    (h : execPulseExpiry out s = .next t) :
    t = s ∨ (s.cue.outputs[out] = .pulsing 0 ∧ t = setOutput out .off s) := by
  unfold execPulseExpiry at h
  (repeat' split at h) <;> cases h <;> simp_all

theorem execPollRoundStart_next {s t : State}
    (h : execPollRoundStart s = .next t) :
    t = s ∨ (s.seat.loop = .started ∧ s.seat.roundTimer.isRunning = true ∧ s.seat.round = none ∧
      t = beginRound s) := by
  unfold execPollRoundStart at h
  (repeat' split at h) <;> cases h <;> simp_all

theorem execSeatTransaction_next {w : BitVec 24} {s t : State}
    (h : execSeatTransaction w s = .next t) :
    t = s ∨ (s.seat.loop ≠ .stopped ∧ t = roundTransact w s) := by
  unfold execSeatTransaction at h
  (repeat' split at h) <;> cases h <;> simp_all

theorem execRoundEnd_next {s t : State}
    (h : execRoundEnd s = .next t) :
    t = s ∨ ∃ c, s.seat.round = some c ∧ c.remaining = [] ∧ t = endRound s := by
  unfold execRoundEnd at h
  (repeat' split at h) <;> cases h <;> simp_all

theorem execReleaseWindowExpiry_next {s t : State}
    (h : execReleaseWindowExpiry s = .next t) :
    t = s ∨ (s.seat.window.isRunning = true ∧ t = endWindow .time s) := by
  unfold execReleaseWindowExpiry at h
  (repeat' split at h) <;> cases h <;> simp_all

theorem execStageIdleExpiry_next {s t : State}
    (h : execStageIdleExpiry s = .next t) :
    t = s ∨ (s.clip.stage.idle = .running 0 ∧ t = commitWaiting s) := by
  unfold execStageIdleExpiry at h
  (repeat' split at h) <;> cases h <;> simp_all

theorem execCommitBurstComplete_next {s t : State}
    (h : execCommitBurstComplete s = .next t) :
    t = s ∨ ∃ r d, s.clip.arb.port = some ⟨.commit r, d⟩ ∧ blocksExist r.mem r.data.length = true ∧
      (d = true ∧ t = writeCommit r (freePort s) ∨
        d = false ∧ t = flushTest (leaveStage r (writeCommit r (freePort s)))) := by
  unfold execCommitBurstComplete at h
  (repeat' split at h) <;> cases h <;> simp_all

theorem execReadBackBurstComplete_next {s t : State}
    (h : execReadBackBurstComplete s = .next t) :
    t = s ∨ ∃ r d, s.clip.arb.port = some ⟨.readBack r, d⟩ ∧ blocksExist r.mem r.count = true ∧
      (d = true ∧ t = freePort s ∨
        d = false ∧ r.prefetch = true ∧
          t = fillBuffer r (Memory.readBlocks s.clip.mem r.mem r.count) (freePort s) ∨
        d = false ∧ r.prefetch = false ∧
          t = answerFromMemory (Memory.readBlocks s.clip.mem r.mem r.count) (freePort s)) := by
  unfold execReadBackBurstComplete at h
  (repeat' split at h) <;> cases h <;> simp_all

theorem execVerifyBlockComplete_next {s t : State}
    (h : execVerifyBlockComplete s = .next t) :
    t = s ∨ ∃ n m d, s.clip.arb.port = some ⟨.verify n m, d⟩ ∧ blocksExist m 1 = true ∧
      (t = freePort s ∨ ∃ c, d = false ∧ (freePort s).clipAt n = some c ∧
        t = feedBlock n c (Memory.readBlock s.clip.mem m) (freePort s)) := by
  unfold execVerifyBlockComplete at h
  dsimp only at h
  (repeat' split at h) <;> cases h <;> simp_all

theorem execRefillComplete_next {s t : State}
    (h : execRefillComplete s = .next t) :
    t = s ∨ ∃ v r d, s.clip.arb.port = some ⟨.refill v r, d⟩ ∧ blocksExist r.mem r.count = true ∧
      (d = true ∧ t = freePort s ∨
        d = false ∧ t = joinRing v (Memory.readBlocks s.clip.mem r.mem r.count) (freePort s)) := by
  unfold execRefillComplete at h
  (repeat' split at h) <;> cases h <;> simp_all

theorem execArbiterChoice_next {s t : State}
    (h : execArbiterChoice s = .next t) :
    t = s ∨ (s.clip.arb.port = none ∧ t = s.setArb s.clip.arb.choose) := by
  unfold execArbiterChoice at h
  (repeat' split at h) <;> cases h <;> simp_all

theorem execWaysideUnknownKind_next {frame : List Byte} {s t : State}
    (h : execWaysideUnknownKind frame s = .next t) :
    t = s ∨ t = countDiscard (validFrame s) := by
  unfold execWaysideUnknownKind at h
  split at h
  · exact .inl (by cases h; rfl)
  · split at h
    · exact .inl (by cases h; rfl)
    · exact onWayside_next h
theorem execSeatLoopClosingRound_next {ws : List (BitVec 24)} {s t : State}
    (h : execSeatLoopClosingRound ws s = .next t) :
    t = s ∨ ∃ s1 s2 ws', s.seat.loop = .closing ∧ s1 = endRound (finishRound s.seat.left ws s).1 ∧
      s2 = closingRound (s1.seat.records.map (·.addr)) ws' s1 ∧
      t = s2.setSeat { s2.seat with loop := .stopped, roundTimer := .stopped } := by
  unfold execSeatLoopClosingRound at h
  split at h
  · cases h
    exact .inr ⟨_, _, _, ‹_›, rfl, rfl, rfl⟩
  · exact .inl (by cases h; rfl)

end Sys2Proof.Machine
end

