-- ==== Sys2Proof/Laws/Memory.lean ====
section
/-! SUPPORT. Sample memory: what a byte reads after a write, that every memory operation keeps the
canonical form, and that memory at reset has it. -/

namespace Sys2Proof.Machine

namespace Memory

/-- In a canonical memory no entry stands below the head's address, so a lower address is unlisted. -/
theorem read_below {m : List Host.Cell} {a : Nat} (h : ∀ c ∈ m, a < c.1) : read m a = blank := by
  induction m with
  | nil => rfl
  | cons c m ih =>
    obtain ⟨x, y⟩ := c
    have hx : a < x := h (x, y) (by simp)
    have ht : ∀ c ∈ m, a < c.1 := fun c hc => h c (by simp [hc])
    simp [read, ih ht, Nat.ne_of_gt hx]

theorem wf_tail {c : Host.Cell} {m : List Host.Cell} (h : wf (c :: m)) : wf m :=
  ⟨(List.pairwise_cons.1 h.1).2, fun d hd => h.2 d (by simp [hd])⟩

theorem wf_head {c : Host.Cell} {m : List Host.Cell} (h : wf (c :: m)) : ∀ d ∈ m, c.1 < d.1 :=
  (List.pairwise_cons.1 h.1).1

/-- The byte written is the byte read. -/
theorem read_write_same {m : List Host.Cell} (h : wf m) (a : Nat) (b : Byte) :
    read (write m a b) a = b := by
  induction m with
  | nil =>
    unfold write
    split
    · simp [read, *]
    · simp [read]
  | cons c m ih =>
    obtain ⟨x, y⟩ := c
    have ht := wf_head h
    have hm := ih (wf_tail h)
    have hb : ∀ k, k ≤ x → read m k = blank :=
      fun k hk => read_below fun d hd => Nat.lt_of_le_of_lt hk (ht d hd)
    unfold write
    split
    · rename_i hlt
      split
      · rename_i hz
        simp [read, Nat.ne_of_gt hlt, hb a (Nat.le_of_lt hlt), hz]
      · simp [read]
    · split
      · rename_i hge he
        subst he
        split
        · rename_i hz
          simp [hb a (Nat.le_refl a), hz]
        · simp [read]
      · rename_i hge hne
        simp [read, Ne.symm hne, hm]

/-- A write leaves every other address as it was. -/
theorem read_write_other {m : List Host.Cell} (h : wf m) {a k : Nat} (b : Byte) (hk : k ≠ a) :
    read (write m a b) k = read m k := by
  induction m with
  | nil =>
    unfold write
    split
    · rfl
    · simp [read, Ne.symm hk]
  | cons c m ih =>
    obtain ⟨x, y⟩ := c
    have ht := wf_head h
    have hm := ih (wf_tail h)
    unfold write
    split
    · split
      · rfl
      · rw [read, if_neg (Ne.symm hk)]
    · split
      · rename_i hge he
        subst he
        split
        · rw [read, if_neg (Ne.symm hk)]
        · rw [read, if_neg (Ne.symm hk), read, if_neg (Ne.symm hk)]
      · simp only [read, hm]

theorem mem_write {m : List Host.Cell} {a : Nat} {b : Byte} {c : Host.Cell} (hc : c ∈ write m a b) :
    c ∈ m ∨ (c = (a, b) ∧ b ≠ blank) := by
  induction m with
  | nil =>
    unfold write at hc
    split at hc
    · exact absurd hc (by simp)
    · exact .inr ⟨by simpa using hc, ‹_›⟩
  | cons d m ih =>
    obtain ⟨x, y⟩ := d
    unfold write at hc
    split at hc
    · split at hc
      · exact .inl hc
      · rcases List.mem_cons.1 hc with h | h
        · exact .inr ⟨h, ‹_›⟩
        · exact .inl h
    · split at hc
      · split at hc
        · exact .inl (by simp [hc])
        · rcases List.mem_cons.1 hc with h | h
          · exact .inr ⟨h, ‹_›⟩
          · exact .inl (by simp [h])
      · rcases List.mem_cons.1 hc with h | h
        · exact .inl (by simp [h])
        · rcases ih h with h | h
          · exact .inl (by simp [h])
          · exact .inr h

/-- A write keeps the canonical form. -/
theorem wf_write {m : List Host.Cell} (h : wf m) (a : Nat) (b : Byte) : wf (write m a b) := by
  refine ⟨?_, fun c hc => ?_⟩
  · induction m with
    | nil =>
      unfold write
      split <;> simp
    | cons d m ih =>
      obtain ⟨x, y⟩ := d
      have ht := wf_head h
      have hm := ih (wf_tail h)
      unfold write
      split
      · rename_i hlt
        split
        · exact h.1
        · refine List.pairwise_cons.2 ⟨fun c hc => ?_, h.1⟩
          rcases List.mem_cons.1 hc with hc | hc
          · simpa [hc] using hlt
          · exact Nat.lt_trans hlt (ht c hc)
      · split
        · rename_i hge he
          subst he
          split
          · exact (wf_tail h).1
          · exact List.pairwise_cons.2 ⟨ht, (wf_tail h).1⟩
        · rename_i hge hne
          refine List.pairwise_cons.2 ⟨fun c hc => ?_, hm⟩
          rcases mem_write hc with hc | hc
          · exact ht c hc
          · simp only [hc.1]
            omega
  · rcases mem_write hc with hc | hc
    · exact h.2 c hc
    · simpa [hc.1] using hc.2

/-- Writing bytes keeps the canonical form. -/
theorem wf_writeBytes {m : List Host.Cell} (h : wf m) (a : Nat) (bs : List Byte) :
    wf (writeBytes m a bs) := by
  induction bs generalizing m a with
  | nil => exact h
  | cons b bs ih => exact ih (wf_write h a b) (a + 1)

/-- Writing blocks keeps the canonical form. -/
theorem wf_writeBlocks {m : List Host.Cell} (h : wf m) (block : Nat) (ds : List (List Byte)) :
    wf (writeBlocks m block ds) := by
  induction ds generalizing m block with
  | nil => exact h
  | cons d ds ih => exact ih (wf_writeBytes h _ d) (block + 1)

/-- What an address reads after bytes were written from `a` upward. -/
theorem read_writeBytes {m : List Host.Cell} (h : wf m) (a : Nat) (bs : List Byte) (k : Nat) :
    read (writeBytes m a bs) k =
      if a ≤ k ∧ k < a + bs.length then bs.getD (k - a) 0 else read m k := by
  induction bs generalizing m a with
  | nil =>
    rw [if_neg (by simp)]
    rfl
  | cons b bs ih =>
    rw [writeBytes, ih (wf_write h a b)]
    simp only [List.length_cons]
    by_cases hk : k = a
    · subst hk
      rw [if_neg (by omega), if_pos (by omega), read_write_same h]
      simp
    · by_cases hin : a + 1 ≤ k ∧ k < a + 1 + bs.length
      · rw [if_pos hin, if_pos (by omega)]
        obtain ⟨j, rfl⟩ : ∃ j, k = a + 1 + j := ⟨k - (a + 1), by omega⟩
        have e1 : a + 1 + j - (a + 1) = j := by omega
        have e2 : a + 1 + j - a = j + 1 := by omega
        rw [e1, e2, List.getD_cons_succ]
      · rw [if_neg hin, if_neg (by omega), read_write_other h b hk]

/-- Blocks of 512 bytes written from `block` upward leave every address outside them as it was. -/
theorem read_writeBlocks_other {m : List Host.Cell} (h : wf m) (block : Nat) (ds : List (List Byte))
    (hd : ∀ d ∈ ds, d.length = Config.blockBytes) (k : Nat)
    (hk : k < block * Config.blockBytes ∨ (block + ds.length) * Config.blockBytes ≤ k) :
    read (writeBlocks m block ds) k = read m k := by
  induction ds generalizing m block with
  | nil => rfl
  | cons d ds ih =>
    have hl : d.length = Config.blockBytes := hd d (List.mem_cons_self ..)
    have hds : ∀ e ∈ ds, e.length = Config.blockBytes := fun e he => hd e (List.mem_cons_of_mem _ he)
    rw [List.length_cons] at hk
    have h1 : k < (block + 1) * Config.blockBytes ∨
        (block + 1 + ds.length) * Config.blockBytes ≤ k := by
      rcases hk with hk | hk
      · exact .inl (Nat.lt_of_lt_of_le hk (Nat.mul_le_mul_right _ (Nat.le_succ block)))
      · exact .inr (by rwa [Nat.add_right_comm])
    have h2 : ¬(block * Config.blockBytes ≤ k ∧ k < block * Config.blockBytes + d.length) := by
      rw [hl, ← Nat.succ_mul]
      rintro ⟨h3, h4⟩
      rcases hk with hk | hk
      · exact absurd h3 (Nat.not_le.2 hk)
      · exact absurd (Nat.le_trans (Nat.mul_le_mul_right _ (by omega)) hk) (Nat.not_le.2 h4)
    have h3 := ih (wf_writeBytes h (block * Config.blockBytes) d) (block + 1) hds h1
    have h4 := read_writeBytes h (block * Config.blockBytes) d k
    rw [if_neg h2] at h4
    exact h3.trans h4

end Memory

/-- Sample memory at reset is canonical. -/
theorem reset_memory_wf : Memory.wf State.reset.clip.mem := by
  exact ⟨List.Pairwise.nil, fun _ h => absurd h (by simp [State.reset, ClipStore.reset])⟩

end Sys2Proof.Machine
end

