-- ==== Sys2Proof/Laws/Motion.lean ====
section
/-! SUPPORT. A change of motion state and the stops: the motion record, the seat unit and the voice
engine after them. -/

namespace Sys2Proof.Machine

/-- The show pause after its working out (R66). -/
@[simp] theorem evalPause_motion (s : State) :
    (evalPause s).motion =
      { s.motion with
        record :=
          { s.motion.record with paused := !(decide (s.mstate = .run) && !s.motion.standstill) } } := by
  unfold evalPause
  dsimp only
  split
  · rename_i h
    rw [h]
  · split <;> simp [showPauseBegin, showPauseEnd]

/-- The voice engine hears of a change of the show pause only (R66). -/
theorem evalPause_voice (s : State)
    (h : s.motion.record.paused = !(decide (s.mstate = .run) && !s.motion.standstill)) :
    (evalPause s).voice = s.voice := by
  unfold evalPause
  dsimp only
  rw [if_pos h.symm]

/-- The end of the window leaves the check, the permit and the loop alone (R116). -/
theorem endWindow_seat (r : WindowEnd) (s : State) :
    (endWindow r s).seat.check = s.seat.check ∧ (endWindow r s).seat.permit = s.seat.permit ∧
      (endWindow r s).seat.loop = s.seat.loop ∧ (endWindow r s).seat.window = .stopped ∧
      (s.seat.window = .stopped → (endWindow r s).seat = s.seat) := by
  unfold endWindow
  split <;> simp_all

/-- A change of one seat's record leaves the rest of the seat unit alone. -/
@[simp] theorem putSeat_seat (r : SeatRecord) (s : State) :
    (putSeat r s).seat =
      { s.seat with records := s.seat.records.map fun x => if x.addr = r.addr then r else x } := by
  unfold putSeat reportSeat
  dsimp only
  split <;> simp

/-- Changes of the seats' records leave the rest of the seat unit alone. -/
theorem mapSeats_seat (f : SeatRecord → SeatRecord) (s : State) :
    ∃ rs, (mapSeats f s).seat = { s.seat with records := rs } := by
  unfold mapSeats
  generalize s.seat.records.map (·.addr) = l
  induction l generalizing s with
  | nil => exact ⟨s.seat.records, rfl⟩
  | cons a l ih =>
    obtain ⟨rs, h⟩ := ih (changeSeat f s a)
    refine ⟨rs, ?_⟩
    rw [List.foldl_cons, h]
    unfold changeSeat
    split <;> simp

/-- The end of a check leaves the permit, the loop and the window alone (R112). -/
theorem abortCheck_seat (c : CheckCause) (s : State) :
    (abortCheck c s).seat.check = none ∧ (abortCheck c s).seat.permit = s.seat.permit ∧
      (abortCheck c s).seat.loop = s.seat.loop ∧ (abortCheck c s).seat.window = s.seat.window ∧
      (s.seat.check = none → (abortCheck c s).seat = s.seat) := by
  unfold abortCheck
  split
  · simp_all
  · rename_i k hk
    obtain ⟨rs, h⟩ := mapSeats_seat SeatRecord.unchecking (s.setSeat { s.seat with check := none })
    dsimp only
    split <;> simp [h, hk]

/-- What leaving HOLD does to the seat unit (R112, R116). -/
theorem seatLeavesHold_seat (e : Bool) (s : State) :
    (seatLeavesHold e s).seat.check = none ∧ (seatLeavesHold e s).seat.permit = s.seat.permit ∧
      (seatLeavesHold e s).seat.loop = s.seat.loop ∧ (seatLeavesHold e s).seat.window = .stopped ∧
      (s.seat.check = none → s.seat.window = .stopped → (seatLeavesHold e s).seat = s.seat) := by
  unfold seatLeavesHold
  obtain ⟨a1, a2, a3, a4, a5⟩ :=
    abortCheck_seat (if e = true then .stop else .motion) s
  obtain ⟨b1, b2, b3, b4, b5⟩ :=
    endWindow_seat .motion (abortCheck (if e = true then .stop else .motion) s)
  refine ⟨b1.trans a1, b2.trans a2, b3.trans a3, b4, fun hc hw => ?_⟩
  rw [b5 (a4.trans hw), a5 hc]

/-- The motion unit after a change of motion state (R48, R57, R66). -/
theorem changeMotion_motion (new : MotionState) (resume : Bool) (s : State) :
    (changeMotion new resume s).motion =
      { s.motion.enter new resume with
        record :=
          { (s.motion.enter new resume).record with
            paused := !(decide (new = .run) && !s.motion.standstill) } } := by
  unfold changeMotion
  dsimp only
  rw [evalPause_motion]
  have h (x : State) (y : State) (h : x.motion = y.motion) : x.mstate = y.mstate := by
    unfold State.mstate
    rw [h]
  have m : ∀ (x : State), (zeroRollback x).motion = x.motion := fun x => by simp
  have o : ∀ (x : State), (outputsOff x).motion = x.motion := fun x => by simp
  split <;> split <;> split <;> simp [State.mstate, Motion.enter]

@[simp] theorem changeMotion_mstate (new : MotionState) (resume : Bool) (s : State) :
    (changeMotion new resume s).mstate = new := by
  have m : (changeMotion new resume s).mstate = (changeMotion new resume s).motion.record.state := rfl
  rw [m, changeMotion_motion]
  rfl

/-- The guidance unit after a change of motion state (R12). -/
theorem changeMotion_guide (new : MotionState) (resume : Bool) (s : State) :
    (changeMotion new resume s).guide =
      if new.noRollback = true then { s.guide with est := { s.guide.est with rollback := 0 } }
      else s.guide := by
  unfold changeMotion
  dsimp only
  split <;> split <;> split <;> simp [zeroRollback]

/-- The cue unit after a change of motion state (R135). -/
theorem changeMotion_cue (new : MotionState) (resume : Bool) (s : State) :
    (changeMotion new resume s).cue =
      if new = .estop then { s.cue with outputs := Vector.replicate 8 .off } else s.cue := by
  unfold changeMotion
  dsimp only
  split <;> split <;> split <;> simp_all [outputsOff]

/-- The seat unit after a change of motion state (R112, R116). -/
theorem changeMotion_seat (new : MotionState) (resume : Bool) (s : State) :
    (changeMotion new resume s).seat.permit = s.seat.permit ∧
      (changeMotion new resume s).seat.loop = s.seat.loop ∧
      (s.mstate ≠ .hold → (changeMotion new resume s).seat = s.seat) ∧
      (s.mstate = .hold →
        (changeMotion new resume s).seat.check = none ∧
          (changeMotion new resume s).seat.window = .stopped) ∧
      (s.seat.check = none → s.seat.window = .stopped →
        (changeMotion new resume s).seat = s.seat) := by
  have z : ∀ (x : State), (zeroRollback x).seat = x.seat := fun x => by simp
  by_cases hold : s.mstate = .hold
  · obtain ⟨x, hx, h⟩ : ∃ x : State, x.seat = s.seat ∧
        (changeMotion new resume s).seat = (seatLeavesHold (decide (new = .estop)) x).seat := by
      unfold changeMotion
      dsimp only
      rw [if_pos hold]
      by_cases hn : new.noRollback = true
      · refine ⟨zeroRollback (postState .motionState 0 (s.setMotion (s.motion.enter new resume))),
          by simp, ?_⟩
        rw [if_pos hn]
        split <;> simp [outputsOff]
      · refine ⟨postState .motionState 0 (s.setMotion (s.motion.enter new resume)), by simp, ?_⟩
        rw [if_neg hn]
        split <;> simp [outputsOff]
    obtain ⟨a1, a2, a3, a4, a5⟩ := seatLeavesHold_seat (decide (new = .estop)) x
    rw [h]
    rw [hx] at a2 a3 a5
    exact ⟨a2, a3, fun n => absurd hold n, fun _ => ⟨a1, a4⟩, a5⟩
  · have h : (changeMotion new resume s).seat = s.seat := by
      unfold changeMotion
      dsimp only
      rw [if_neg hold]
      split <;> split <;> simp [outputsOff]
    simp [h, hold]

/-- The voice engine after a change of motion state that leaves the show pause as it was (R66). -/
theorem changeMotion_voice {new : MotionState} {s : State} (resume : Bool)
    (h : s.motion.record.paused = !(decide (new = .run) && !s.motion.standstill)) :
    (changeMotion new resume s).voice = s.voice := by
  unfold changeMotion
  dsimp only
  rw [evalPause_voice]
  · split <;> split <;> split <;> simp
  · split <;> split <;> split <;> simp [State.mstate, Motion.enter, h]

/-- Leaving HOLD touches no fault record (R112). -/
@[simp] theorem seatLeavesHold_fault (e : Bool) (s : State) :
    (seatLeavesHold e s).fault = s.fault := by
  unfold seatLeavesHold abortCheck
  cases e <;> dsimp only <;> cases s.seat.check <;> simp

/-- The fault table after a change of motion state that lets the rollback distance stand. -/
theorem changeMotion_fault {new : MotionState} (h : new.noRollback = false) (resume : Bool) (s : State) :
    (changeMotion new resume s).fault = s.fault := by
  have e : new ≠ .estop := by
    rintro rfl
    cases h
  unfold changeMotion
  simp only [h]
  by_cases hold : s.mstate = .hold <;> simp [hold, e]

/-- The motion state a STOP-class raising other than F01 leaves (R58). -/
def MotionState.stopsTo : MotionState → MotionState
  | .hold | .run | .creep => .stopping
  | .parked => .parked
  | .stopping => .stopping
  | .stopped => .stopped
  | .estop => .estop

/-- The motion unit after a stop cause: only its record changes (R58). -/
theorem stopCause_motion (cause : StopCause) (s : State) :
    (stopCause cause s).mstate = s.mstate.stopsTo ∧
      (stopCause cause s).motion = { s.motion with record := (stopCause cause s).motion.record } := by
  have m (x : State) : x.mstate = x.motion.record.state := rfl
  unfold stopCause takeStop
  split <;> rename_i h <;>
    simp [h, moveTo, changeMotion_motion, Motion.enter, MotionState.zeroSpeed, MotionState.stopsTo,
      creepEnd, setStopRecord, furtherCause, m (changeMotion _ _ _)]

/-- A stop that is not an ESTOP leaves the guidance unit and the outputs alone. -/
theorem stopCause_others (cause : StopCause) (s : State) :
    (stopCause cause s).guide = s.guide ∧ (stopCause cause s).cue = s.cue := by
  unfold stopCause takeStop
  split <;> (try dsimp only) <;> (try split) <;>
    simp [moveTo, changeMotion_guide, changeMotion_cue, MotionState.noRollback, creepEnd,
      setStopRecord, furtherCause]

/-- The motion unit after the raising of a fault other than F01: only its record changes, and only when
the class is STOP; the guidance and cue units are left alone (R186, R187). -/
theorem raiseAs_motion {c : FaultCode} (hc : c ≠ .f01) (cls : FaultClass) (d : FaultDetail) (s : State) :
    (raiseAs c cls d s).mstate = (if cls = .stop then s.mstate.stopsTo else s.mstate) ∧
      (raiseAs c cls d s).motion =
        { s.motion with record := (raiseAs c cls d s).motion.record } ∧
      (raiseAs c cls d s).guide = s.guide ∧ (raiseAs c cls d s).cue = s.cue := by
  unfold raiseAs actByClass
  cases cls with
  | stop =>
    simp only [if_neg hc]
    obtain ⟨h1, h2⟩ := stopCause_motion (.fault c) (recordRaise c .stop d s)
    obtain ⟨h3, h4⟩ := stopCause_others (.fault c) (recordRaise c .stop d s)
    refine ⟨by simpa using h1, ?_, by simpa using h3, by simpa using h4⟩
    simp only [noteSummary_frame, endMomentary_frame]
    rw [h2]
    simp
  | hold => simp
  | note => simp

theorem raiseFault_motion {c : FaultCode} (hc : c ≠ .f01) (d : FaultDetail) (s : State) :
    (raiseFault c d s).mstate = (if c.cls = .stop then s.mstate.stopsTo else s.mstate) ∧
      (raiseFault c d s).motion =
        { s.motion with record := (raiseFault c d s).motion.record } ∧
      (raiseFault c d s).guide = s.guide ∧ (raiseFault c d s).cue = s.cue :=
  raiseAs_motion hc c.cls d s

end Sys2Proof.Machine
end

