-- ==== Sys2Proof/Laws/Reports.lean ====
section
/-! SUPPORT. The report queue and the reply transmitter: what posting a report and handing over a reply
do, said once. -/

namespace Sys2Proof.Machine

/-! ### Reports -/

/-- The three things that can happen to a report that is to join the tail (R210). -/
theorem HostLink.joinTail_cases (h : HostLink) (r : Report) :
    (h.reports.length < Config.reportMax ∧ h.joinTail r = { h with reports := h.reports ++ [r] }) ∨
      (Config.reportMax ≤ h.reports.length ∧ h.reports.any Report.isState = true ∧
        h.joinTail r = { h with reports := h.reports.eraseP Report.isState ++ [r] }) ∨
      (Config.reportMax ≤ h.reports.length ∧ h.reports.any Report.isState = false ∧
        h.joinTail r = { h with dropped := bump 255 h.dropped }) := by
  unfold HostLink.joinTail
  split
  · exact .inl ⟨‹_›, rfl⟩
  · split
    · exact .inr (.inl ⟨Nat.le_of_not_lt ‹_›, ‹_›, rfl⟩)
    · exact .inr (.inr ⟨Nat.le_of_not_lt ‹_›, Bool.eq_false_iff.2 ‹_›, rfl⟩)

/-- The queue never grows past 48 (R209, R210). -/
theorem HostLink.joinTail_length {h : HostLink} (r : Report) (hl : h.reports.length ≤ Config.reportMax) :
    (h.joinTail r).reports.length ≤ Config.reportMax := by
  rcases h.joinTail_cases r with ⟨h1, e⟩ | ⟨-, h2, e⟩ | ⟨-, -, e⟩ <;> rw [e]
  · simpa using h1
  · rw [List.any_eq_true] at h2
    obtain ⟨x, hx, hs⟩ := h2
    have := List.length_eraseP_of_mem hx hs
    have := List.length_pos_of_mem hx
    simp only [List.length_append, List.length_cons, List.length_nil]
    omega
  · exact hl

/-- An event report in the queue is not removed to make room (R210). -/
theorem HostLink.joinTail_event {h : HostLink} {e : EventReport} (r : Report)
    (he : Report.event e ∈ h.reports) : Report.event e ∈ (h.joinTail r).reports := by
  rcases h.joinTail_cases r with ⟨-, q⟩ | ⟨-, -, q⟩ | ⟨-, -, q⟩ <;> rw [q]
  · simp [he]
  · exact List.mem_append_left _ ((List.mem_eraseP_of_neg (by simp [Report.isState])).2 he)
  · exact he

/-- An event report found in the queue after a report joined was there before, or is that report. -/
theorem HostLink.mem_of_joinTail {h : HostLink} {x r : Report} (hx : x ∈ (h.joinTail r).reports) :
    x ∈ h.reports ∨ x = r := by
  rcases h.joinTail_cases r with ⟨-, q⟩ | ⟨-, -, q⟩ | ⟨-, -, q⟩ <;> rw [q] at hx
  · simpa using hx
  · rcases List.mem_append.1 hx with hx | hx
    · exact .inl (List.mem_of_mem_eraseP hx)
    · exact .inr (by simpa using hx)
  · exact .inl hx

/-- A report joins a queue with room. -/
theorem HostLink.joinTail_room {h : HostLink} {r : Report} (hl : h.reports.length < Config.reportMax) :
    h.joinTail r = { h with reports := h.reports ++ [r] } := by
  simp [HostLink.joinTail, hl]

@[simp] theorem postEvent_host (e : EventReport) (s : State) :
    (postEvent e s).host = s.host.joinTail (.event e) := rfl

theorem postState_host (k : StateKind) (src : Nat) (s : State) :
    (postState k src s).host =
      if Report.state k src ∈ s.host.reports then s.host else s.host.joinTail (.state k src) := by
  unfold postState
  split <;> rfl

/-- A state report leaves the event reports in the queue, and adds none. -/
@[simp] theorem postState_event (k : StateKind) (src : Nat) (e : EventReport) (s : State) :
    Report.event e ∈ (postState k src s).host.reports ↔ Report.event e ∈ s.host.reports := by
  rw [postState_host]
  split
  · rfl
  · refine ⟨fun h => ?_, HostLink.joinTail_event _⟩
    rcases HostLink.mem_of_joinTail h with h | h
    · exact h
    · cases h

/-- An event report that is posted leaves those in the queue. -/
theorem postEvent_event (e d : EventReport) (s : State) (h : Report.event e ∈ s.host.reports) :
    Report.event e ∈ (postEvent d s).host.reports := HostLink.joinTail_event _ h

/-- An event report is in the queue after it was posted with room. -/
theorem postEvent_self (e : EventReport) (s : State) (h : s.host.reports.length < Config.reportMax) :
    Report.event e ∈ (postEvent e s).host.reports := by
  rw [postEvent_host, HostLink.joinTail_room h]
  simp

/-- The summary's report leaves the event reports as they were. -/
@[simp] theorem noteSummary_event (b : FaultSummary) (e : EventReport) (s : State) :
    Report.event e ∈ (noteSummary b s).host.reports ↔ Report.event e ∈ s.host.reports := by
  unfold noteSummary
  split
  · rfl
  · exact postState_event ..

/-! ### Replies -/

/-- A reply handed to a free transmitter is sent (R207). -/
theorem sendReply_free {s : State} (h : s.host.sending = none) (f : RxFrame) (a : Answer) :
    sendReply f a s = s.setHost { s.host with sending := some (replyTo f a) } := by
  simp [sendReply, handReply, h]

/-- A reply handed to a transmitter that is sending waits behind the others (R207). -/
theorem sendReply_busy {s : State} {r : Reply} (h : s.host.sending = some r) (f : RxFrame) (a : Answer) :
    sendReply f a s = s.setHost { s.host with waiting := s.host.waiting ++ [replyTo f a] } := by
  simp [sendReply, handReply, h]

/-- A reply leaves the reports alone. -/
@[simp] theorem sendReply_reports (f : RxFrame) (a : Answer) (s : State) :
    (sendReply f a s).host.reports = s.host.reports ∧
      (sendReply f a s).host.dropped = s.host.dropped ∧
      (sendReply f a s).host.silence = s.host.silence := by
  unfold sendReply handReply
  split <;> simp

/-- Two host link units with the same port differ in their reports only. -/
theorem HostLink.eq_of_port {a b : HostLink} (h : a.port = b.port) :
    a = { b with reports := a.reports, dropped := a.dropped } := by
  cases a
  cases b
  simpa [HostLink.port] using h

end Sys2Proof.Machine
end

