-- ==== Sys2Proof/Laws/Sample.lean ====
section
/-! SUPPORT. What the zone unit's work on a position update leaves of the motion, guidance and cue units
(R8, R71, R84). -/

namespace Sys2Proof.Machine

/-- The motion unit is as it was, but for its record, whose state is the same or a stop's. -/
def StopsOnly (s t : State) : Prop :=
  (t.mstate = s.mstate ∨ t.mstate = s.mstate.stopsTo) ∧
    t.motion = { s.motion with record := t.motion.record } ∧ t.guide = s.guide ∧ t.cue = s.cue

theorem StopsOnly.of_eq {s t : State} (hm : t.motion = s.motion) (hg : t.guide = s.guide)
    (hc : t.cue = s.cue) : StopsOnly s t := by
  refine ⟨.inl ?_, by rw [hm], hg, hc⟩
  unfold State.mstate
  rw [hm]

theorem MotionState.stopsTo_stopsTo (m : MotionState) : m.stopsTo.stopsTo = m.stopsTo := by
  cases m <;> rfl

theorem StopsOnly.trans {s t u : State} (h : StopsOnly s t) (k : StopsOnly t u) : StopsOnly s u := by
  obtain ⟨h1, h2, h3, h4⟩ := h
  obtain ⟨k1, k2, k3, k4⟩ := k
  refine ⟨?_, ?_, k3.trans h3, k4.trans h4⟩
  · rcases h1 with h1 | h1 <;> rcases k1 with k1 | k1 <;>
      simp [k1, h1, MotionState.stopsTo_stopsTo]
  · rw [k2, h2]

theorem raiseAs_stopsOnly {c : FaultCode} (hc : c ≠ .f01) (cls : FaultClass) (d : FaultDetail)
    (s : State) : StopsOnly s (raiseAs c cls d s) := by
  obtain ⟨h1, h2, h3, h4⟩ := raiseAs_motion hc cls d s
  refine ⟨?_, h2, h3, h4⟩
  split at h1
  · exact .inr h1
  · exact .inl h1

theorem testF10_stopsOnly (d : FaultDetail) (s : State) : StopsOnly s (testF10 d s) := by
  unfold testF10
  split
  · split
    · exact .of_eq rfl rfl rfl
    · exact raiseAs_stopsOnly (by simp) _ _ _
  · exact .of_eq (by simp) (by simp) (by simp)

/-- The zone unit's work on a position update may stop the vehicle, and leaves the rest of the motion
unit, the guidance unit and the cue unit alone (R71, R79, R84). -/
theorem zoneUpdate_stopsOnly (u : PosUpdate) (s : State) : StopsOnly s (zoneUpdate u s) := by
  have sort : StopsOnly s (sortTable s) := .of_eq (by simp) (by simp) (by simp)
  have rel (x : State) : StopsOnly x (releaseTest x) := by
    unfold releaseTest
    exact .trans (.of_eq (by simp) (by simp) (by simp)) (testF10_stopsOnly _ _)
  have claim (x : State) : StopsOnly x (claimTest x) := .of_eq (by simp) (by simp) (by simp)
  have hold (x : State) : StopsOnly x (recomputeHold x) := .of_eq (by simp) (by simp) (by simp)
  have viol (x : State) : StopsOnly x (violationTest u x) := by
    unfold violationTest
    split
    · split
      · exact .of_eq rfl rfl rfl
      · exact .trans (.of_eq (by simp) (by simp) (by simp)) (raiseAs_stopsOnly (by simp) _ _ _)
    · exact .of_eq rfl rfl rfl
  unfold zoneUpdate
  dsimp only
  refine .trans ?_ (viol _)
  refine .trans ?_ (hold _)
  split
  · exact (sort.trans (rel _)).trans (claim _)
  · exact sort

end Sys2Proof.Machine
end

