-- ==== Sys2Proof/WellFormed.lean ====
section
/-! DEFINITION. Which commands are well formed: every operand lies in what the wire, the sensor or the
timer it stands for can give. The checks that a rule answers with a refusal are not made here. -/

namespace Sys2Proof

/-- The bytes a guide sample's offset field can give: a signed 16-bit value (R14 clamps it). -/
def GuideSample.wellFormed (g : GuideSample) : Bool :=
  decide (-32768 ≤ g.offset) && decide (g.offset ≤ 32767)

/-- A run that one request body of at most 1,100 bytes can carry (R204). -/
def runFits {α : Type} (b : Body (Load α)) : Bool :=
  match b with
  | .fit l => decide (l.run.length ≤ Config.hostBodyMax)
  | .misfit => true

/-- A list that one request body of at most 1,100 bytes can carry (R204). -/
def listFits {α : Type} (b : Body (List α)) : Bool :=
  match b with
  | .fit l => decide (l.length ≤ Config.hostBodyMax)
  | .misfit => true

/-- Seat entries that one request body can carry (R204). -/
def seatsFit (b : Body SeatMap) : Bool :=
  match b with
  | .fit m => decide (m.entries.length ≤ Config.hostBodyMax)
  | .misfit => true

/-- Clip data that one request body can carry (R204). -/
def dataFits (b : Body ClipDataReq) : Bool :=
  match b with
  | .fit r => decide (r.data.length ≤ Config.hostBodyMax)
  | .misfit => true

/-- A wayside frame: start, four header bytes, at most 255 body bytes and the CRC (Layouts). -/
def waysideFits255 (frame : List Byte) : Bool := decide (frame.length ≤ 262)

/-- A zone id (R1). -/
def zoneIdFits (z : Nat) : Bool := decide (z ≤ 127)

/-- The operands of a command lie in what their source can give. -/
def Instr.wellFormed (i : Instr) : Bool :=
  match i with
  | .powerOn _ _ => true
  | .hostFrameReceived _ => true
  | .lineBreak => true
  | .hostSilenceTimeout => true
  | .replySent => true
  | .unknownKind => true
  | .beginConfig _ => true
  | .pathLoad b => runFits b
  | .markerLoad b => runFits b
  | .cueLoad b => runFits b
  | .seatMap b => seatsFit b
  | .limits b => listFits b
  | .setMix _ => true
  | .setGains _ => true
  | .commit _ => true
  | .restart _ => true
  | .enableDrive _ => true
  | .disableDrive _ => true
  | .dispatch _ => true
  | .hold _ => true
  | .resume _ => true
  | .stop _ => true
  | .clearStop _ => true
  | .creep _ => true
  | .setPosition _ _ => true
  | .reclaim _ => true
  | .zoneStatus _ => true
  | .check _ => true
  | .release _ => true
  | .seatStatus _ => true
  | .flagSet _ => true
  | .flagExchange _ => true
  | .cueStatus _ => true
  | .clipDefine _ => true
  | .clipData b => dataFits b
  | .clipSeal _ => true
  | .clipRead _ => true
  | .clipErase _ => true
  | .clipStatus _ => true
  | .voiceStart _ => true
  | .voiceStop _ => true
  | .voiceGain _ => true
  | .mixStatus _ => true
  | .faults _ => true
  | .clearFaults _ => true
  | .status _ => true
  | .fetchReports _ => true
  | .odometerCount _ => true
  | .guideSample g _ => g.wellFormed
  | .guideTimeout => true
  | .feedback frame => decide (frame.length ≤ 7)
  | .estopAsserted => true
  | .estopReleased => true
  | .waysideFrameDiscard frame => waysideFits255 frame
  | .waysideUnknownKind frame => waysideFits255 frame
  | .grant _ _ _ => true
  | .deny _ _ _ _ => true
  | .zoneFree _ _ => true
  | .released _ _ _ => true
  | .revoke _ _ => true
  | .linkCheck _ => true
  | .waysideDispatch _ => true
  | .rideHold _ => true
  | .rideResume _ => true
  | .waysideCheck _ => true
  | .showFlag _ _ _ => true
  | .cueAck _ _ _ => true
  | .claimTimerExpiry zone => zoneIdFits zone
  | .backoffTimerExpiry zone => zoneIdFits zone
  | .releaseTimerExpiry zone => zoneIdFits zone
  | .linkTimeout => true
  | .beacon => true
  | .waysideTransmit => true
  | .ackTimerExpiry cueId _ => decide (cueId ≤ 65535)
  | .pulseExpiry _ => true
  | .pollRoundStart => true
  | .seatTransaction _ => true
  | .roundEnd => true
  | .seatLoopClosingRound responses => decide (responses.length ≤ 32)
  | .releaseWindowExpiry => true
  | .stageIdleExpiry => true
  | .arbiterChoice => true
  | .commitBurstComplete => true
  | .readBackBurstComplete => true
  | .verifyBlockComplete => true
  | .refillComplete => true
  | .sampleTick => true
  | .waysideFrameSent => true

end Sys2Proof
end

