-- ==== Sys2Proof/Tests/Slice0.lean ====
section
/-! SUPPORT. The model's own tests: the checks of WellFormed, the spec's check values and worked
examples, and for each statement with hypotheses a state that meets them. -/

namespace Sys2Proof.Tests

open Sys2Proof Sys2Proof.Machine Sys2Proof.Claims

/-! ### WellFormed refuses an ill-formed term at each check -/

theorem test_wellFormed_guideSample_low :
    Instr.wellFormed (.guideSample ⟨-32769, 0, false, none⟩ .motionZoneCue) = false := by decide

theorem test_wellFormed_guideSample_high :
    Instr.wellFormed (.guideSample ⟨32768, 0, false, none⟩ .motionZoneCue) = false := by decide

theorem test_wellFormed_runs :
    Instr.wellFormed (.pathLoad (.fit ⟨0, List.replicate 1101 ⟨100, 0, 0, 0, 0, false⟩⟩)) = false ∧
      Instr.wellFormed (.markerLoad (.fit ⟨0, List.replicate 1101 ⟨0, 0⟩⟩)) = false ∧
      Instr.wellFormed
          (.cueLoad (.fit ⟨0, List.replicate 1101 ⟨0, 0, 0, .unknown, none, none, false⟩⟩)) =
        false := by
  decide +kernel

theorem test_wellFormed_lists :
    Instr.wellFormed (.seatMap (.fit ⟨List.replicate 1101 ⟨0, 0⟩, false, none⟩)) = false ∧
      Instr.wellFormed (.limits (.fit (List.replicate 1101 (1, 0)))) = false ∧
      Instr.wellFormed (.clipData (.fit ⟨0, 0, List.replicate 1101 0⟩)) = false := by
  decide +kernel

theorem test_wellFormed_frames :
    Instr.wellFormed (.feedback (List.replicate 8 0)) = false ∧
      Instr.wellFormed (.waysideFrameDiscard (List.replicate 263 0)) = false ∧
      Instr.wellFormed (.waysideUnknownKind (List.replicate 263 0)) = false ∧
      Instr.wellFormed (.seatLoopClosingRound (List.replicate 33 0)) = false := by
  decide +kernel

theorem test_wellFormed_numbers :
    Instr.wellFormed (.claimTimerExpiry 128) = false ∧
      Instr.wellFormed (.backoffTimerExpiry 128) = false ∧
      Instr.wellFormed (.releaseTimerExpiry 128) = false ∧
      Instr.wellFormed (.ackTimerExpiry 65536 0) = false := by
  decide

/-! ### Check values of the Layouts section -/

/-- The ASCII digits "123456789". -/
def digits : List Byte := [0x31, 0x32, 0x33, 0x34, 0x35, 0x36, 0x37, 0x38, 0x39]

theorem test_crc16_digits : crc16 digits = 0x29B1 := by decide +kernel

theorem test_crc8_digits : crc8 digits = 0xF4 := by decide +kernel

/-- R156's check value. -/
theorem test_crc32_digits : crc32Feed 0xFFFFFFFF digits ^^^ 0xFFFFFFFF = 0xCBF43926 := by
  decide +kernel

/-- An absent module's response fails its check (R217). -/
theorem test_absentModule_fails :
    crc8 [0xFF, 0xFF] = 0x24 ∧ (SeatResponse.ofBits noResponse).crcOk = false := by
  decide +kernel

/-! ### Worked examples of the spec -/

/-- One field of the state a command answers. -/
def field {α : Type} (f : State → α) (o : Out) : Option α :=
  match o with
  | .next t => some (f t)
  | _ => none

/-- The table of signed distances with P = 240,000 (R4). -/
theorem test_signedDist :
    Machine.signedDist 240000 239000 1000 = 2000 ∧ Machine.signedDist 240000 1000 239000 = -2000 ∧
      Machine.signedDist 240000 0 119999 = 119999 ∧
      Machine.signedDist 240000 0 120000 = -120000 := by
  decide

/-- What the odometry sequence shows of an estimate. -/
def shown (e : Estimate) : Nat × Nat × Half × Int := (e.front, e.frac, e.lap, e.speed)

/-- Arrivals A and B of the odometry sequence (R10, R11). -/
theorem test_odometry_lapBoundary :
    shown (Estimate.move { Estimate.reset with front := 239990, frac := 900, lap := 41 } 240000 600 25) =
        (5, 540, 42, 1464) ∧
      shown (Estimate.move { Estimate.reset with front := 5, frac := 540, lap := 42 } 240000 600 (-12)) =
        (239998, 508, 41, -703) := by
  decide +kernel

/-- Rollback after arrivals B and C (R12). -/
theorem test_rollback : rollbackAfter 0 (-7) = 7 ∧ rollbackAfter 7 6 = 1 := by decide

/-- A path whose segment of case 1 starts at 12,000 (R26). -/
def steerPath : List Segment :=
  [⟨12000, 0, 0, 1000, 0, true⟩, ⟨1500, 0, 1200, 1000, 1, false⟩]

/-- A vehicle in RUN at case 1's front. -/
def steered (kp kd : Nat) (e ePrev delta : Int) : State :=
  { State.reset with
    guide :=
      { Guidance.reset with
        path := steerPath, est := { Estimate.reset with front := 12345 }
        reading := { GuideReading.reset with e := e, ePrev := ePrev }
        steer := { Guidance.reset.steer with delta := delta }, gains := ⟨kp, kd⟩ }
    motion := { Motion.reset with record := { Motion.reset.record with state := .run } } }

/-- Case 1 of the worked steering cases (R26 to R28). -/
theorem test_steer_case1 :
    (steer (steered 512 1024 18 12 180)).guide.steer = ⟨205, 276, -60, 216, false⟩ := by
  decide +kernel

/-- Case 3, saturation and slew (R28). -/
theorem test_steer_case3 :
    (steer (steered 4095 4095 250 230 205)).guide.steer = ⟨180, 276, -4318, -4042, true⟩ := by
  decide +kernel

/-- The worked envelopes, a = 800 (R32, R33). -/
theorem test_envelopes :
    envelope 800 0 2000 = 1788 ∧ envelope 800 0 500 = 894 ∧ envelope 800 400 3000 = 2227 ∧
      envelope 800 400 600 = 1058 := by
  decide +kernel

/-- The braking sequence steps by 8, and the hard clamp case by the segment limit (R35). -/
theorem test_speedSteps :
    stepSpeed 1200 1191 10 8 = 1192 ∧ min (stepSpeed 420 400 10 8) 400 = 400 := by
  decide

/-- The backoff times of the contested claim, B = 40 (R74). -/
theorem test_backoff : (List.range 7).map (fun k => backoffMs 40 (k + 1)) =
    [40, 80, 160, 320, 640, 1280, 1280] := by
  decide

/-- The effective triggers of cues 12 and 13 at 1,500 mm/s (R126). -/
theorem test_effectiveTrigger :
    Cue.effective ⟨700, 40000, 800, .flag 0 true, none, .fireLate, true, none⟩ 1500 = 38800 ∧
      Cue.effective ⟨710, 40100, 2000, .flag 0 true, none, .fireLate, true, none⟩ 1500 = 37100 := by
  decide

/-- The gain step of the worked ramp (R174). -/
theorem test_gainStep :
    field (fun t => t.voice.voices[0].step)
      (.next
        (gainVoice 0 1024 100
          (State.reset.putVoice 0 { Voice.reset with state := .playing, gain := 1048576 }))) =
      some 164 := by
  decide +kernel

/-- The ducking table (R177). -/
theorem test_ducking :
    [(4096, 1024), (3002, 1024), (4096, 0), (2000, 4096)].map
        (fun p => Voice.mixGain { Voice.reset with gain := p.1 * 256, duckable := true } true p.2) =
      [1024, 751, 0, 2000] := by
  decide +kernel

/-- Two voices into output 1 (R178, R179). -/
theorem test_mixer :
    mixOutput
        [⟨12000, 4096, #v[0, 256, 0, 0]⟩, ⟨-3000, 2048, #v[0, 128, 0, 0]⟩] 200 1 = (8789, 0) := by
  decide +kernel

/-- The arbiter of the worked sequence, refills waiting for voices 1 and 6 after voice 4. -/
def arb4 : Arbiter :=
  { Arbiter.reset with
    lastVoice := 4
    refills := #v[none, some ⟨0, 0, 2⟩, none, none, none, none, some ⟨0, 0, 2⟩, none] }

/-- The arbiter with the port free again and a refill of voice 4 waiting. -/
def withVoice4 (a : Arbiter) : Arbiter :=
  { a with port := none, refills := a.refills.set 4 (some ⟨0, 0, 2⟩) }

/-- The first choices of the arbiter's sequence: voices 6, 1 and 4 (R159). -/
theorem test_arbiterOrder :
    arb4.choose.lastVoice = 6 ∧ (withVoice4 arb4.choose).choose.lastVoice = 1 ∧
      (withVoice4 (withVoice4 arb4.choose).choose).choose.lastVoice = 4 := by
  decide +kernel

/-! ### States for the witnesses -/

/-- A request frame of a kind. -/
def req (kind : Byte) : RxFrame := ⟨0x21, kind, []⟩

/-- A state with a frame of a kind at the head of the receive queue. -/
def asked (kind : Byte) (s : State) : State := s.setHost { s.host with rxQueue := [req kind] }

theorem asked_taken (kind : Byte) (s : State) (h : s.host.held = none) :
    Taken kind (asked kind s) (req kind) [] := ⟨h, rfl, rfl⟩

/-- Three segments, three zones, the first in the load zone; P = 75,000. -/
def path : List Segment :=
  [⟨20000, 0, 0, 1500, 0, true⟩, ⟨30000, 0, 0, 1500, 1, false⟩, ⟨25000, 0, 0, 1500, 2, false⟩]

/-- A seat at address 3, occupied, locked and CHECKED. -/
def seat : SeatRecord :=
  { SeatRecord.fresh ⟨3, 100⟩ with
    occupied := .yes, state := .checked, lockA := true, lockB := true, lampPending := false
    latchPending := false, lastCounter := some 4, lastClean := some true }

/-- A vehicle at rest in HOLD in the load zone, LOCATED, the link UP, one seat CHECKED. -/
def up : State :=
  { State.reset with
    config :=
      { ConfigUnit.reset with
        record := { ConfigUnit.reset.record with state := .ready }
        committedMap := ⟨[⟨3, 100⟩], false, none⟩ }
    guide :=
      { Guidance.reset with
        path := path, markers := [⟨0xAB, 4000⟩], timer := .running 30
        est := { Estimate.reset with front := 5000, posState := .located } }
    motion :=
      { Motion.reset with record := { Motion.reset.record with state := .hold }, standstill := true }
    zone :=
      { ZoneUnit.reset with
        zmap := zoneMap path, link := .up, linkTimer := .running 500, sinceFrame := some 0 }
    seat :=
      { SeatUnit.reset with records := [seat], loop := .started, roundTimer := .running 20 } }

/-- The same vehicle in another motion state. -/
def inState (m : MotionState) (s : State) : State :=
  s.setMotion { s.motion with record := { s.motion.record with state := m } }

/-- The same vehicle with a fault latched and active. -/
def faulted (c : FaultCode) (s : State) : State := s.setFaultRec c ⟨true, true, c.cls, 1, .none⟩

/-- A session is open on the sound tables of `up`. -/
def open_ : State :=
  { inState .parked up with
    config :=
      { up.config with
        record := { up.config.record with state := .configuring }
        loadedMap := up.config.committedMap } }

theorem noLatch {s : State} (h : s.fault = FaultUnit.reset) (c : FaultCode) :
    (s.faultRec c).latched = false := by
  unfold State.faultRec
  rw [h]
  cases c <;> rfl

theorem noLatch_class {s : State} (h : s.fault = FaultUnit.reset) (k : FaultClass) :
    ∀ c, (s.faultRec c).latched = true → (s.faultRec c).cls ≠ k :=
  fun c hc => absurd hc (by rw [noLatch h]; decide)

/-! ### A state that meets the hypotheses of each statement -/

/-- A vehicle whose host silence timer is due, with the host silent or not. -/
def quiet (silent : Bool) : State :=
  up.setHost { up.host with silence := .running 0, silent := silent }

theorem witness_IdleTimePassesAndSilenceRaisesF18 :
    (up.pending = [] ∧ up.guide.timer = .running 30 ∧ up.zone.link ≠ .stopped ∧
        State.reset.pending = [] ∧ State.reset.zone.link = .stopped) ∧
      ((quiet false).host.silence = .running 0 ∧ (quiet false).host.silent = false ∧
        (quiet false).faultActive .f18 = false ∧ (quiet false).host.reports.length ≤ 40) ∧
      (quiet true).host.silence = .running 0 ∧ (quiet true).host.silent = true := by
  decide

/-- The same vehicle with a command waiting. -/
def queued : State := { up with pending := [.odometerCount true] }

/-- A state with every invariant, from which a step answers a next state. -/
theorem witness_invariants :
    (queued.StopRespected ∧ queued.ParkedUnlessReady ∧ queued.MemoryCanonical) ∧
      (queued.SteerBounded ∧ queued.ReportsBounded ∧ queued.RxBounded ∧ queued.StageBounded ∧
        queued.AcksBounded ∧ queued.TableBounded ∧ queued.QueuesBounded ∧ queued.SeatsDistinct) ∧
      ∃ t, step queued = .next t := by
  refine ⟨⟨fun _ => by decide +kernel, fun h => absurd h (by decide), by
    unfold State.MemoryCanonical; decide⟩, ?_, _, rfl⟩
  unfold State.SteerBounded State.ReportsBounded State.RxBounded State.StageBounded State.AcksBounded
    State.TableBounded State.QueuesBounded State.SeatsDistinct
  decide +kernel

theorem witness_LatchedStopKeepsVehicleStopped : queued.StopRespected ∧ ∃ t, step queued = .next t :=
  ⟨witness_invariants.1.1, witness_invariants.2.2⟩

theorem witness_MotionParkedUnlessReady : queued.ParkedUnlessReady ∧ ∃ t, step queued = .next t :=
  ⟨witness_invariants.1.2.1, witness_invariants.2.2⟩

theorem witness_SampleMemoryStaysCanonical : queued.MemoryCanonical ∧ ∃ t, step queued = .next t :=
  ⟨witness_invariants.1.2.2, witness_invariants.2.2⟩

theorem witness_SteeringDemandStaysInRange : queued.SteerBounded ∧ ∃ t, step queued = .next t :=
  ⟨witness_invariants.2.1.1, witness_invariants.2.2⟩

theorem witness_HostQueuesStageAndAcksStayBounded :
    (queued.ReportsBounded ∧ queued.RxBounded) ∧ (queued.StageBounded ∧ queued.AcksBounded) ∧
      ∃ t, step queued = .next t :=
  have h := witness_invariants.2.1.2
  ⟨⟨h.1, h.2.1⟩, ⟨h.2.2.1, h.2.2.2.1⟩, witness_invariants.2.2⟩

theorem witness_ZoneAndSeatTablesStayBounded :
    (queued.TableBounded ∧ queued.QueuesBounded ∧ queued.SeatsDistinct) ∧ ∃ t, step queued = .next t :=
  ⟨witness_invariants.2.1.2.2.2.2.2, witness_invariants.2.2⟩

theorem witness_RequestNotAtHeadChangesNothing :
    kindOf (.hold (.fit ())) = some 0x13 ∧
      (up.setHost { up.host with held := some (.erase (req 0x44) 0) }).host.held ≠ none ∧
      up.host.rxQueue = [] ∧
      ((asked 0x14 up).host.rxQueue = req 0x14 :: [] ∧ (req 0x14).kind ≠ 0x13) := by
  decide

theorem witness_MisfitBodyAnsweredMalformed :
    kindOf (.hold .misfit) = some 0x13 ∧ misfit (.hold .misfit) ∧
      Taken 0x13 (asked 0x13 up) (req 0x13) [] ∧
      misfit (.pathLoad (.fit { start := 0, run := List.replicate 65 ⟨100, 0, 0, 0, 0, false⟩ })) :=
  ⟨rfl, rfl, asked_taken _ _ rfl, .inr ⟨_, rfl, by decide⟩⟩

theorem witness_EveryRequestGetsOneReply :
    kindOf (.hold (.fit ())) = some 0x13 ∧ ¬ mayWait (.hold (.fit ())) ∧
      Taken 0x13 (asked 0x13 up) (req 0x13) [] :=
  ⟨rfl, id, asked_taken _ _ rfl⟩

/-- A receive queue of some frames and some OVERRUN replies that wait. -/
def crowded (frames replies : Nat) : State :=
  up.setHost
    { up.host with
      rxQueue := List.replicate frames (req 0x60)
      sending := some (reply (req 0x60) .refused .overrun .empty)
      waiting := List.replicate replies (reply (req 0x60) .refused .overrun .empty) }

theorem witness_ValidFrameJoinsQueueOrOverruns :
    ((∀ b ∈ ([0x00] : List Byte), b ≠ 0xC3) ∧ (List.replicate 1100 (0 : Byte)).length ≤ 1100 ∧
        (crowded 3 0).host.framer = [] ∧ (crowded 3 0).host.rxQueue.length < 4) ∧
      ((crowded 4 3).host.framer = [] ∧ (crowded 4 3).host.rxQueue.length = 4 ∧
        ((crowded 4 3).host.waiting.filter fun r => r.detail = .overrun).length < 4) ∧
      (crowded 4 4).host.framer = [] ∧ (crowded 4 4).host.rxQueue.length = 4 ∧
        4 ≤ ((crowded 4 4).host.waiting.filter fun r => r.detail = .overrun).length := by
  decide +kernel

theorem witness_BreakDropsWaitingFrames : Taken 0x60 (asked 0x60 up) (req 0x60) [] :=
  asked_taken _ _ rfl

theorem witness_ReplySentAndUnknownKind :
    up.host.waiting = [] ∧
      (crowded 0 1).host.waiting = reply (req 0x60) .refused .overrun .empty :: [] ∧
      ((asked 0x7F up).host.held = none ∧ (asked 0x7F up).host.rxQueue = req 0x7F :: [] ∧
        ∀ c, kindOf c ≠ some (req 0x7F).kind) :=
  ⟨rfl, rfl, rfl, rfl, fun c => by cases c <;> simp [kindOf, req]⟩

theorem witness_StatusRequestsChangeNothing :
    Taken 0x60 (asked 0x60 up) (req 0x60) [] ∧ Taken 0x21 (asked 0x21 up) (req 0x21) [] ∧
      Taken 0x2A (asked 0x2A up) (req 0x2A) [] ∧ Taken 0x32 (asked 0x32 up) (req 0x32) [] ∧
      Taken 0x45 (asked 0x45 up) (req 0x45) [] ∧ Taken 0x61 (asked 0x61 up) (req 0x61) [] ∧
      511 < 512 ∧ [7, 511] = [7] ++ (511 : Fin 512).val :: [] ∧ (511 : Fin 512).val ∉ [7] ∧
      (511 : Fin 512).val ∉ up.clip.verify.queue :=
  ⟨asked_taken _ _ rfl, asked_taken _ _ rfl, asked_taken _ _ rfl, asked_taken _ _ rfl,
    asked_taken _ _ rfl, asked_taken _ _ rfl, by decide, rfl, by decide, by decide⟩

/-- A full report queue, and reports dropped. -/
def fullReports : State :=
  up.setHost { up.host with reports := List.replicate 48 (.event (.release (.running 3000))), dropped := 1 }

theorem witness_FetchReportsTakesTheHead :
    Taken 0x63 (asked 0x63 fullReports) (req 0x63) [] ∧
      fullReports.host.reports[15]? = some (.event (.release (.running 3000))) ∧
      (0 < fullReports.host.dropped ∧ (fullReports.host.reports.drop 16).length < 48) :=
  ⟨asked_taken _ _ rfl, by decide +kernel⟩

theorem witness_ClearFaultsKeepsActiveLatches :
    Taken 0x62 (asked 0x62 (faulted .f13 up)) (req 0x62) [] := asked_taken _ _ rfl

theorem witness_BeginConfigOpensSession :
    Taken 0x01 (asked 0x01 (inState .parked up)) (req 0x01) [] ∧
      (asked 0x01 (inState .parked up)).config.record.state ≠ .configuring ∧
      (asked 0x01 (inState .parked up)).mstate = .parked ∧ up.zone.long = [] :=
  ⟨asked_taken _ _ rfl, by decide⟩

/-- A segment with every number at the end of its range. -/
def edgeSegment : Segment := ⟨65535, -4500, 4500, 2000, 127, false⟩

theorem witness_LoadsReplaceRunsAndLoadedSets :
    (Taken 0x02 (asked 0x02 open_) (req 0x02) [] ∧ open_.config.record.state = .configuring ∧
        [edgeSegment].length ≤ 64 ∧ 3 ≤ open_.guide.path.length ∧ 3 + [edgeSegment].length ≤ 512 ∧
        ∀ g ∈ [edgeSegment],
          100 ≤ g.len ∧ g.len ≤ 65535 ∧ -4500 ≤ g.biasIn ∧ g.biasIn ≤ 4500 ∧ -4500 ≤ g.biasOut ∧
            g.biasOut ≤ 4500 ∧ g.limit ≤ 2000 ∧ g.zone ≤ 127) ∧
      (Taken 0x03 (asked 0x03 open_) (req 0x03) [] ∧
        [(⟨0, 16777214⟩ : Marker)].length ≤ 64 ∧ 1 ≤ open_.guide.markers.length ∧
        1 + [(⟨0, 16777214⟩ : Marker)].length ≤ 256 ∧
        ∀ m ∈ [(⟨0, 16777214⟩ : Marker)], m.pos ≤ 16777214) ∧
      (Taken 0x05 (asked 0x05 open_) (req 0x05) [] ∧
        [(⟨255, 255⟩ : SeatEntry)].length ≤ 16 ∧ (∀ e ∈ [(⟨255, 255⟩ : SeatEntry)], e.addr ≤ 255) ∧
        ∀ c, some 511 = some c → c ≤ 511) ∧
      Taken 0x06 (asked 0x06 open_) (req 0x06) [] ∧ [(27, 60), (1, 64)] ≠ [] ∧
        [(27, 60), (1, 64)].length ≤ 27 ∧ ([(27, 60), (1, 64)].map (·.1)).Nodup ∧
        ∀ p ∈ [(27, 60), (1, 64)],
          ∃ i : Fin 27, p.1 = i + 1 ∧ Limits.lows[i] ≤ p.2 ∧ p.2 ≤ Limits.highs[i] :=
  ⟨⟨asked_taken _ _ rfl, by decide⟩, ⟨asked_taken _ _ rfl, by decide⟩,
    ⟨asked_taken _ _ rfl, by decide, by decide, fun c h => by cases h; decide⟩,
    asked_taken _ _ rfl, by decide, by decide, by decide, by decide⟩

/-- A cue record whose lead is past its range. -/
def lateCue : CueIn := ⟨700, 40000, 5001, .flag 31 true, some (0, false), some .skipLate, false⟩

theorem witness_CueLoadStoresRunAndLoadsNeedConfiguring :
    (Taken 0x04 (asked 0x04 open_) (req 0x04) [] ∧ open_.config.record.state = .configuring ∧
        [lateCue].length ≤ 64 ∧ 0 ≤ open_.cue.cues.length ∧ 0 + [lateCue].length ≤ 256 ∧
        ∀ c ∈ [lateCue], (acceptCue c).isSome) ∧
      up.config.record.state ≠ .configuring ∧ Taken 0x02 (asked 0x02 up) (req 0x02) [] ∧
      Taken 0x03 (asked 0x03 up) (req 0x03) [] ∧ Taken 0x04 (asked 0x04 up) (req 0x04) [] ∧
      Taken 0x05 (asked 0x05 up) (req 0x05) [] ∧ Taken 0x06 (asked 0x06 up) (req 0x06) [] ∧
      (List.replicate 64 lateCue).length ≤ 64 :=
  ⟨⟨asked_taken _ _ rfl, by decide⟩, by decide, asked_taken _ _ rfl, asked_taken _ _ rfl,
    asked_taken _ _ rfl, asked_taken _ _ rfl, asked_taken _ _ rfl, by decide⟩

/-- A run of 65 records outside CONFIGURING is answered MALFORMED, one of 64 CONFIG (R206, R197). -/
theorem test_cueLoad_longRun :
    ([65, 64].map fun n =>
        field (fun t => t.host.sending.map (·.detail))
          (exec (.cueLoad (.fit { start := 0, run := List.replicate n lateCue })) (asked 0x04 up))) =
      [some (some .malformed), some (some .config)] := by
  decide +kernel

theorem witness_LiveSettingsClampToRange :
    Taken 0x07 (asked 0x07 up) (req 0x07) [] ∧ Taken 0x08 (asked 0x08 up) (req 0x08) [] :=
  ⟨asked_taken _ _ rfl, asked_taken _ _ rfl⟩

theorem witness_CommitPutsSetsInForceOrFails :
    (Taken 0x09 (asked 0x09 open_) (req 0x09) [] ∧ open_.config.record.state = .configuring ∧
        (asked 0x09 open_).commitFailure = none ∧ open_.zone.long = []) ∧
      let s := asked 0x09 (open_.setGuide { open_.guide with markers := [⟨1, 75000⟩] })
      Taken 0x09 s (req 0x09) [] ∧ s.config.record.state = .configuring ∧
        s.commitFailure = some (.markers, 0) :=
  ⟨⟨asked_taken _ _ rfl, by decide +kernel⟩, asked_taken _ _ rfl, by decide +kernel⟩

theorem witness_CommitPassesOnlySoundTables : open_.commitFailure = none := by decide +kernel

theorem witness_RestartKeepsConfiguration :
    (Taken 0x64 (asked 0x64 up) (req 0x64) [] ∧ (asked 0x64 up).mstate = .hold) ∧
      (asked 0x64 (inState .estop up)).mstate = .estop ∧
      (let s := asked 0x64 (faulted .f10 (up.setZone { up.zone with link := .lost }));
        Taken 0x64 s (req 0x64) [] ∧ s.mstate = .hold ∧ s.zone.link = .lost ∧
          s.config.record.state = .ready) :=
  ⟨⟨asked_taken _ _ rfl, rfl⟩, rfl, asked_taken _ _ rfl, rfl, rfl, rfl⟩

/-! ### Motion and guidance -/

theorem witness_DriveEnableAndDisable :
    (let s := asked 0x10 (inState .parked up);
      Taken 0x10 s (req 0x10) [] ∧ s.mstate = .parked ∧ s.config.record.state = .ready ∧
        s.motion.record.estopIn = false ∧ s.motion.record.paused = true ∧
        ∀ c, (s.faultRec c).latched = true → (s.faultRec c).cls = .note) ∧
      Taken 0x11 (asked 0x11 up) (req 0x11) [] ∧ (asked 0x11 up).mstate = .hold ∧
      (asked 0x11 (inState .stopped up)).mstate = .stopped :=
  ⟨⟨asked_taken _ _ rfl, rfl, rfl, rfl, rfl, fun c h => absurd h (by rw [noLatch rfl]; decide)⟩,
    asked_taken _ _ rfl, rfl, rfl⟩

/-- The vehicle with the dispatch permit held. -/
def permitted : State := up.setSeat { up.seat with permit := true }

theorem witness_DispatchStartsRun :
    (permitted.mstate = .hold ∧ permitted.guide.est.posState = .located ∧
        permitted.inLoadZone = true ∧ permitted.seat.permit = true ∧
        ∀ c, (permitted.faultRec c).latched = true → (permitted.faultRec c).cls ≠ .hold) ∧
      Taken 0x12 (asked 0x12 permitted) (req 0x12) [] ∧ permitted.zone.link = .up ∧
      Addressed permitted 1 ∧ Addressed permitted 255 :=
  ⟨⟨rfl, rfl, by decide, rfl, noLatch_class rfl _⟩, asked_taken _ _ rfl, rfl, .inl rfl, .inr rfl⟩

/-- The vehicle on the ride, past the load zone, with resume target RUN. -/
def ride (m : MotionState) : State :=
  let s := inState m up
  { s with
    guide := { s.guide with est := { s.guide.est with front := 20000 } }
    motion := { s.motion with record := { s.motion.record with resumeRun := true } } }

theorem witness_HoldAndResumeSwitchMotion :
    ((ride .run).mstate = .run ∧ Taken 0x13 (asked 0x13 (ride .run)) (req 0x13) [] ∧
        (ride .run).zone.link = .up ∧ Addressed (ride .run) 1) ∧
      (ride .creep).mstate = .creep ∧
      ((ride .hold).mstate = .hold ∧ (ride .hold).motion.record.resumeRun = true ∧
        (ride .hold).inLoadZone = false ∧ (ride .hold).guide.est.posState = .located ∧
        Taken 0x14 (asked 0x14 (ride .hold)) (req 0x14) [] ∧
        ∀ c, ((ride .hold).faultRec c).latched = true → ((ride .hold).faultRec c).cls ≠ .hold) :=
  ⟨⟨rfl, asked_taken _ _ rfl, rfl, .inl rfl⟩, rfl, rfl, rfl, by decide, rfl, asked_taken _ _ rfl,
    noLatch_class rfl _⟩

/-- The vehicle with its position not known. -/
def unlocated (s : State) : State :=
  s.setGuide { s.guide with est := { s.guide.est with posState := .unlocated } }

theorem witness_StopClearStopAndCreep :
    (Taken 0x15 (asked 0x15 (ride .run)) (req 0x15) [] ∧ (asked 0x15 (ride .run)).mstate = .run ∧
        (asked 0x15 (ride .stopping)).mstate = .stopping ∧
        (asked 0x15 (ride .parked)).mstate = .parked) ∧
      (let s := asked 0x16 (ride .stopped);
        Taken 0x16 s (req 0x16) [] ∧ s.mstate = .stopped ∧
          ∀ c, (s.faultRec c).latched = true → (s.faultRec c).cls ≠ .stop) ∧
      (let s := asked 0x17 (unlocated up);
        Taken 0x17 s (req 0x17) [] ∧ s.mstate = .hold ∧ s.guide.est.posState = .unlocated ∧
          s.motion.standstill = true) :=
  ⟨⟨asked_taken _ _ rfl, rfl, rfl, rfl⟩, ⟨asked_taken _ _ rfl, rfl, noLatch_class rfl _⟩,
    asked_taken _ _ rfl, rfl, rfl, rfl⟩

/-- The ESTOP input held asserted. -/
def estopped (m : MotionState) : State :=
  let s := ride m
  s.setMotion { s.motion with record := { s.motion.record with estopIn := true } }

theorem witness_EstopInputStopsAtOnce :
    ((ride .run).motion.record.estopIn = false ∧ (ride .run).mstate = .run) ∧
      ((ride .parked).motion.record.estopIn = false ∧ (ride .parked).mstate = .parked) ∧
      ((estopped .estop).motion.record.estopIn = true ∧ (estopped .estop).mstate = .estop) := by
  decide

theorem witness_LatchedFaultsRefuseMotion :
    (let s := asked 0x10 (faulted .f13 (inState .parked up));
      Taken 0x10 s (req 0x10) [] ∧ s.mstate = .parked ∧ s.config.record.state = .ready ∧
        s.motion.record.estopIn = false ∧
        ∃ c, (s.faultRec c).latched = true ∧ (s.faultRec c).cls ≠ .note) ∧
      (let s := asked 0x12 (faulted .f13 up);
        Taken 0x12 s (req 0x12) [] ∧ s.mstate = .hold ∧ s.guide.est.posState = .located ∧
          ∃ c, (s.faultRec c).latched = true ∧ (s.faultRec c).cls = .hold) ∧
      (let s := asked 0x14 (faulted .f13 (ride .hold));
        Taken 0x14 s (req 0x14) [] ∧ s.mstate = .hold ∧ s.motion.record.resumeRun = true ∧
          s.inLoadZone = false ∧ s.guide.est.posState = .located ∧
          ∃ c, (s.faultRec c).latched = true ∧ (s.faultRec c).cls = .hold) ∧
      let s := asked 0x16 (faulted .f08 (ride .stopped))
      Taken 0x16 s (req 0x16) [] ∧ s.mstate = .stopped ∧
        ∃ c, (s.faultRec c).latched = true ∧ (s.faultRec c).cls = .stop :=
  ⟨⟨asked_taken _ _ rfl, rfl, rfl, rfl, .f13, by decide⟩,
    ⟨asked_taken _ _ rfl, rfl, rfl, .f13, by decide⟩,
    ⟨asked_taken _ _ rfl, rfl, rfl, by decide, rfl, .f13, by decide⟩,
    asked_taken _ _ rfl, rfl, .f08, by decide⟩

/-- A vehicle in RUN that waits for the answer to DEMAND 7. -/
def waiting7 : State :=
  let s := ride .run
  s.setMotion
    { s.motion with
      drive := { s.motion.drive with last := some ⟨7, 25, true, false⟩, miss := 4, track := 9 } }

/-- A FEEDBACK frame (Layouts). -/
def feedbackFrame (seq lo hi flags fault : Byte) : List Byte :=
  [0xA5, seq, lo, hi, flags, fault, crc8 [seq, lo, hi, flags, fault]]

theorem witness_FeedbackAnswersDemand :
    (waiting7.motion.drive.last = some ⟨7, 25, true, false⟩ ∧
        (⟨7, 25, true, false⟩ : SentDemand).answered = false ∧
        (7 : Byte) = (⟨7, 25, true, false⟩ : SentDemand).seq) ∧
      ∀ d seq lo hi flags fault, waiting7.motion.drive.last = some d → d.answered = false →
        seq = d.seq → [] ≠ feedbackFrame seq lo hi flags fault :=
  ⟨by decide, fun _ _ _ _ _ _ _ _ _ h => by cases h⟩

/-- An answer to DEMAND 7 with fault code 0x2A raises F07 and stops the vehicle (R42, R58). -/
theorem test_feedback_fault :
    (field (fun t => (t.faultActive .f07, t.motion.drive.miss, t.mstate))
      (exec (.feedback (feedbackFrame 7 25 0 1 0x2A)) waiting7)) = some (true, 0, .stopping) := by
  decide +kernel

theorem witness_OdometerAndGuideTimer : up.guide.timer = .running 30 := rfl

/-- A guide sample with a good offset. -/
def sample (marker : Option Code) : GuideSample := ⟨18, 200, false, marker⟩

theorem witness_GuideSampleMovesEstimate :
    up.config.record.state = .ready ∧ (sample none).marker = none ∧
      ((sample (some 0xAB)).marker = some 0xAB ∧ (⟨0xAB, 4000⟩ : Marker) ∈ up.guide.markers ∧
        (∀ x ∈ up.guide.markers, x.code = 0xAB → x = ⟨0xAB, 4000⟩) ∧
        up.guide.est.posState = .located ∧
        let s := up.setGuide { up.guide with est := { up.guide.est with front := 4300 } }
        let reader : Nat := (((4300 : Int) - s.lim.readerOffset) % 75000).toNat
        (let d : Int := ((reader : Int) - 4000) % 75000;
          if d ≥ 75000 / 2 then d - 75000 else d).natAbs ≤ s.lim.captureWindow) ∧
      State.reset.config.record.state ≠ .ready := by
  decide +kernel

theorem witness_SteeringFollowsRangeAndSlew :
    up.config.record.state = .ready ∧ (ride .run).mstate = .run ∧ (ride .creep).mstate = .creep ∧
      (ride .stopped).mstate = .stopped ∧
      segmentAt path 20000 = some ⟨1, 20000, ⟨30000, 0, 0, 1500, 1, false⟩⟩ := by
  decide +kernel

theorem witness_SampleSendsDemandFrame :
    (ride .run).config.record.state = .ready ∧
      segmentAt path 19999 = some ⟨0, 0, ⟨20000, 0, 0, 1500, 0, true⟩⟩ := by
  decide +kernel

/-- A vehicle at rest in a motion state at a front, armed or not, the still count at 49. -/
def resting (m : MotionState) (front : Nat) (armed : Option Half) : State :=
  let s := inState m up
  { s with
    guide := { s.guide with est := { s.guide.est with front := front } }
    motion := { s.motion with still := 49, standstill := false, armed := armed } }

/-- The vehicle after counts back, with a rollback distance, and so far from its last marker. -/
def rolled (odo : Int) (rollback since mismatch : Nat) : State :=
  let s := ride .run
  s.setGuide
    { s.guide with
      odo := odo
      est := { s.guide.est with rollback := rollback, since := since, mismatch := mismatch } }

theorem witness_GuideSampleTestsConditionsAndMovesDrive :
    ((rolled 0 0 0 0).config.record.state = .ready ∧ (rolled 0 0 0 0).mstate = .run ∧
        (rolled (-1) 200 0 0).guide.est.rollback ≤ (rolled (-1) 200 0 0).lim.rollbackLimit ∧
        (rolled (-1) 200 0 0).lim.rollbackLimit < 200 + (moved (rolled (-1) 200 0 0)).natAbs ∧
        Known (rolled 1 0 20000 0) ∧
        (rolled 1 0 20000 0).lim.gapLimit < sinceNext (rolled 1 0 20000 0) ∧
        ¬ (rolled 0 0 20000 0).lim.gapLimit < sinceNext (rolled 0 0 20000 0)) ∧
      ((sample (some 0xAB)).marker = some 0xAB ∧ (⟨0xAB, 4000⟩ : Marker) ∈ up.guide.markers ∧
        (∀ x ∈ up.guide.markers, x.code = 0xAB → x = ⟨0xAB, 4000⟩) ∧ Known up ∧
        up.lim.captureWindow < (Machine.signedDist 75000 4000 5000).natAbs ∧
        (rolled 0 0 0 1).guide.est.mismatch = 1) ∧
      (¬ ZoneFirst .cueMotionZone ∧ ¬ Known (unlocated (ride .creep)) ∧
        (unlocated (ride .creep)).mstate = .creep ∧
        (unlocated (ride .creep)).motion.drive.miss < 4 ∧
        Calm (unlocated (ride .creep)) (sample none) ∧ 0 ≤ moved (unlocated (ride .creep)) ∧
        up.lim.strengthThreshold ≤ (sample (some 0xAB)).strength.toNat) ∧
      (resting .stopping 100 none).mstate = .stopping ∧
      (Calm (resting .run 100 (some 0)) (sample none) ∧ (resting .run 100 (some 0)).mstate = .run ∧
        segmentAt path 100 = some ⟨0, 0, ⟨20000, 0, 0, 1500, 0, true⟩⟩ ∧ 100 ≤ 250 ∧
        Calm (resting .run 20000 none) (sample none) ∧
        segmentAt path 20000 = some ⟨1, 20000, ⟨30000, 0, 0, 1500, 1, false⟩⟩ ∧
        (resting .run 20000 none).motion.drive.miss < 4) := by
  unfold ZoneFirst Calm Known
  decide +kernel

/-- The 50th still sample of an armed vehicle in RUN at front 250 is its arrival; at 251 it is none
(R13, R36, R38). -/
theorem test_guideSample_arrival :
    ([250, 251].map fun x =>
        field (fun t => (t.motion.standstill, t.mstate, t.motion.record.resumeRun, t.motion.armed))
          (exec (.guideSample (sample none) .motionZoneCue) (resting .run x (some 0)))) =
      [some (true, .hold, false, none), some (true, .run, false, some 0)] := by
  decide +kernel

theorem witness_SetPositionPlacesFront :
    let s := asked 0x18 up
    Taken 0x18 s (req 0x18) [] ∧ s.config.record.state = .ready ∧
      74999 < (s.guide.path.map (·.len)).sum ∧ s.mstate = .hold ∧ s.motion.standstill = true ∧
      (asked 0x18 (inState .parked up)).mstate = .parked :=
  ⟨asked_taken _ _ rfl, by decide⟩

/-! ### Zones -/

/-- A full long queue gives the place of its last SCENE CUE to a REVOKE answer (R86). -/
theorem test_revoke_displaces :
    (let scene (n : Nat) : LongFrame := .scene ⟨1, n, n, 4, false, true, 1⟩;
      let s :=
        up.setZone
          { up.zone with long := List.replicate 14 (scene 3) ++ [scene 5, .revokeAccept 1] };
      field (fun t => (t.zone.long.drop 14, t.zone.long.length)) (exec (.revoke 1 7) s)) =
      some ([.revokeRefuse 7 .unknown, .revokeAccept 1], 16) := by
  decide +kernel

/-- A vehicle with one reservation. -/
def holding (r : Reservation) : State := up.setZone { up.zone with table := [r] }

/-- An entry for zone 7 with tag 49 in a state. -/
def zone7 (st : ResState) (timer : ResTimer) (outstanding : Bool) : Reservation :=
  ⟨7, st, 49, 0, 0, timer, outstanding, false, false⟩

theorem zone7_entry (r : Reservation) (h : r.zone = 7) : EntryOf (holding r) 7 r :=
  ⟨List.mem_singleton.mpr rfl, h, fun _ hx _ => List.mem_singleton.mp hx⟩

theorem witness_WaysideFrameIsHeardFirst :
    State.reset.zone.link = .stopped ∧ ¬ Addressed up 2 ∧
      (up.zone.link ≠ .stopped ∧ Addressed up 1 ∧ up.zone.link = .up) ∧
      (let s := up.setZone { up.zone with link := .lost };
        s.zone.link ≠ .stopped ∧ Addressed s 255 ∧ s.zone.link ≠ .up ∧
          ∀ r ∈ s.zone.table, r.failed = false) :=
  ⟨rfl, by unfold Addressed; decide, ⟨by decide, .inl rfl, rfl⟩, by decide, .inr rfl, by decide,
    by decide⟩

theorem witness_LinkTimeoutAndBadFrames :
    (up.zone.link ≠ .stopped ∧ up.zone.linkTimer = .running 500 ∧ up.mstate = .hold) ∧
      ((ride .run).faultActive .f10 = false ∧ (ride .run).mstate = .run) ∧
      (up.zone.link ≠ .stopped ∧ waysideCheck [] = none) ∧
      (up.zone.link = .up ∧ Addressed up 1 ∧ (List.replicate 48 (0 : Byte)).length ≤ 48 ∧
        (0x07 : Byte) ∉
          ([0x01, 0x02, 0x03, 0x04, 0x05, 0x06, 0x08, 0x09, 0x0A, 0x0B, 0x0C, 0x0D, 0x21, 0x22, 0x23,
            0x24, 0x25, 0x26, 0x27] : List Byte)) :=
  ⟨by decide +kernel, by decide +kernel, by decide +kernel, rfl, .inl rfl, by decide, by decide⟩

theorem witness_GrantAndDenyAnswerClaims :
    let r := zone7 .requested (.claim 250) true
    ((holding r).zone.link = .up ∧ Addressed (holding r) 1 ∧ EntryOf (holding r) (7 : Byte).toNat r ∧
        r.state = .requested ∧ r.outstanding = true ∧ r.tag = 49) ∧
      (EntryOf (holding (zone7 .held .stopped false)) (7 : Byte).toNat (zone7 .held .stopped false)) ∧
      (let w := holding (zone7 .waiting .stopped false);
        (∀ r ∈ w.zone.table, r.zone = (7 : Byte).toNat →
          r.state = .waiting ∨ r.state = .closed ∨
            r.state = .requested ∧ (r.outstanding = false ∨ r.tag ≠ 49)) ∧
          w.zone.mailbox.length < 4) ∧
      EntryOf (holding (zone7 .releasing .stopped false)) (7 : Byte).toNat
        (zone7 .releasing .stopped false) ∧
      (∀ x ∈ (holding r).zone.table,
        x.zone = (7 : Byte).toNat → ¬(x.state = .requested ∧ x.outstanding = true ∧ x.tag = 50)) ∧
      (min 31 (6 + 1) < (holding { r with deny := 6 }).lim.denyLimit ∧
        ¬ min 31 (7 + 1) < (holding { r with deny := 7 }).lim.denyLimit ∧
        EntryOf (holding { r with deny := 7 }) (7 : Byte).toNat { r with deny := 7 }) :=
  ⟨⟨rfl, .inl rfl, zone7_entry _ rfl, rfl, rfl, rfl⟩, zone7_entry _ rfl, by decide,
    zone7_entry _ rfl, by decide, by decide, by decide, zone7_entry _ rfl⟩

/-- The contested claim: DENY(7, 49, BUSY) starts a backoff of 40 ms (R74). -/
theorem test_deny_backoff :
    field (fun t => t.zone.table.map fun r => (r.deny, r.timer, r.outstanding))
      (exec (.deny 1 7 49 .busy) (holding (zone7 .requested (.claim 250) true))) =
      some [(1, .backoff 40, false)] := by
  decide +kernel

theorem witness_ZoneFreeAndReclaimClaimAfresh :
    let r := zone7 .waiting .stopped false
    let failed : Reservation := { zone7 .requested .stopped true with failed := true }
    (EntryOf (holding r) 7 r ∧ MailRoom (holding r) 7 ∧ r.state = .waiting ∧
        (holding r).zone.link = .up ∧ Addressed (holding r) 1 ∧ (7 : Byte).toNat = 7) ∧
      (EntryOf (holding failed) 7 failed ∧ failed.state = .requested ∧ failed.failed = true) ∧
      Taken 0x20 (asked 0x20 (holding r)) (req 0x20) [] ∧
      (holding r).config.record.state = .ready ∧ (holding r).zone.link ≠ .stopped ∧ 7 ≤ 127 ∧
      (holding r).zone.table.Nodup :=
  ⟨⟨zone7_entry _ rfl, by unfold MailRoom; decide, rfl, rfl, .inl rfl, rfl⟩,
    ⟨zone7_entry _ rfl, rfl, rfl⟩, asked_taken _ _ rfl, by decide⟩

/-- The vehicle past the load zone, its zone and the last zone left behind in the table. -/
def passing (behind : ResState) (outstanding : Bool) : State :=
  let s := ride .run
  s.setZone
    { s.zone with
      table :=
        [{ zone7 behind .stopped outstanding with zone := 2 },
          { zone7 .held .stopped false with zone := 1 }] }

theorem witness_GuideSampleClaimsAndReleasesZones :
    let z0 : ZoneInfo := ⟨0, 0, 20000, 1⟩
    let z1 : ZoneInfo := ⟨1, 20000, 50000, 2⟩
    let z2 : ZoneInfo := ⟨2, 50000, 0, 0⟩
    (zoneMap path = [z0, z1, z2] ∧ zonesAhead (zoneMap path) 1 = [z2, z0]) ∧
      (let s := passing .held false;
        s.config.record.state = .ready ∧ segmentAt path 20000 = some ⟨1, 20000, ⟨30000, 0, 0, 1500, 1, false⟩⟩ ∧
          ZoneFirst .zoneMotionCue ∧ Calm s (sample none) ∧ Known s ∧ s.mstate = .run ∧
          s.zone.link ≠ .lost ∧ (∀ r ∈ s.zone.table, r.failed = false) ∧
          (s.zone.table.map (·.zone)).Nodup ∧ s.zone.table.length ≤ 4 ∧ s.zone.link ≠ .stopped ∧
          s.zone.mailbox = [] ∧ (s.zone.zmap.map (·.zone)).Nodup ∧
          0 < Machine.signedDist 75000 z2.exit ((20000 - s.lim.vehicleLength : Int) % 75000)) ∧
      (let s := resting .run 19999 none;
        ¬ 0 < Machine.signedDist 75000 z0.exit ((19999 - s.lim.vehicleLength : Int) % 75000) ∧
          (s.entryOf 0).isNone = true ∧ s.zone.table.length < 4) ∧
      (let s := rolled 1 0 0 0;
        moved s = 1 ∧ 0 < Machine.signedDist 75000 19999 z1.entry ∧
          Machine.signedDist 75000 20000 z1.entry ≤ 0 ∧ s.zoneHeld 1 = false) := by
  unfold ZoneFirst Calm Known
  decide +kernel

/-- The rear has left zone 2 behind, which is released; zone 1 is the front's own, and zone 0, with the
signed distance -20,000, is claimed; the table is in path order (R70, R71, R79). A front that comes over the entry of zone 1 without holding it raises F09 and stops (R84). -/
theorem test_guideSample_zones :
    field (fun t => (t.zone.table.map fun r => (r.zone, r.state), t.zone.hold, t.faultLatched .f09))
        (exec (.guideSample (sample none) .zoneMotionCue) (passing .held false)) =
        some ([(0, .requested), (1, .held), (2, .releasing)], some ⟨49500, 2⟩, false) ∧
      field (fun t => (t.faultLatched .f09, t.mstate, t.zone.hold))
          (exec (.guideSample (sample none) .zoneMotionCue)
            (let s := resting .run 19999 (some 0);
              s.setGuide { s.guide with odo := 1 })) =
        some (true, .stopping, some ⟨20000, 1⟩) := by
  decide +kernel

/-- A vehicle with zone 1 reserved, which lies 15,000 mm ahead of the front. -/
def ahead (st : ResState) : State := holding { zone7 st .stopped false with zone := 1 }

theorem witness_ReleasedAndRevokeRemoveEntries :
    let r := zone7 .releasing (.release 250) true
    ((holding r).zone.link = .up ∧ Addressed (holding r) 1 ∧ EntryOf (holding r) (7 : Byte).toNat r ∧
        r.state = .releasing ∧ r.tag = 49) ∧
      (∀ x ∈ (holding r).zone.table,
        x.zone = (7 : Byte).toNat → ¬(x.state = .releasing ∧ x.tag = 50)) ∧
      up.zone.long.length < 16 ∧
      (16 ≤ (List.replicate 16 (LongFrame.revokeAccept 1)).length ∧
        ∀ x, LongFrame.scene x ∉ List.replicate 16 (LongFrame.revokeAccept 1)) ∧
      (let scene : LongFrame := .scene ⟨1, 2, 3, 4, false, true, 1⟩;
        let long := List.replicate 14 scene ++ scene :: [.revokeAccept 1];
        16 ≤ long.length ∧ ∀ x, LongFrame.scene x ∉ [LongFrame.revokeAccept 1]) ∧
      (∀ x ∈ (holding r).zone.table, x.zone ≠ (8 : Byte).toNat) ∧
      ((holding { r with zone := 0, state := .held }).frontZone = some (0 : Byte).toNat) ∧
      (EntryOf (ahead .held) (1 : Byte).toNat { zone7 .held .stopped false with zone := 1 } ∧
        ((ahead .held).zone.table.map (·.zone)).Nodup ∧
        (ahead .held).frontZone ≠ some (1 : Byte).toNat ∧
        max 1 (ceilDiv (0 * 0) (2 * (ahead .held).lim.deceleration)) ≤
          (ahead .held).revokeDist (1 : Byte).toNat) :=
  ⟨⟨rfl, .inl rfl, zone7_entry _ rfl, rfl, rfl⟩, by decide, by decide,
    ⟨by decide, fun _ h => by simp at h⟩, ⟨by decide, fun _ h => by simp at h⟩, by decide,
    by decide +kernel,
    ⟨List.mem_singleton.mpr rfl, rfl, fun _ hx _ => List.mem_singleton.mp hx⟩, by decide +kernel⟩

theorem witness_EntryTimersResendThenFail :
    let claim := zone7 .requested (.claim 0) true
    let release : Reservation := { zone7 .releasing (.release 0) true with resend := 3 }
    let backoff := zone7 .requested (.backoff 0) false
    (EntryOf (holding claim) 7 claim ∧ (holding claim).zone.link ≠ .stopped ∧ claim.resend < 3 ∧
        MailRoom (holding claim) 7 ∧ claim.state = .requested ∧ claim.timer = .claim 0) ∧
      (EntryOf (holding release) 7 release ∧ 3 ≤ release.resend ∧ release.state = .releasing ∧
        release.timer = .release 0) ∧
      (EntryOf (holding backoff) 7 backoff ∧ backoff.state = .requested ∧
        backoff.timer = .backoff 0 ∧ MailRoom (holding backoff) 7) :=
  ⟨⟨zone7_entry _ rfl, by decide, by decide, by unfold MailRoom; decide, rfl, rfl⟩,
    ⟨zone7_entry _ rfl, by decide, rfl, rfl⟩, zone7_entry _ rfl, rfl, rfl,
    by unfold MailRoom; decide⟩

/-- A vehicle whose transmit queues hold these frames. -/
def sendingOf (box : List Mail) (long : List LongFrame) (took : Bool) : State :=
  up.setZone { up.zone with mailbox := box, long := long, tookMailbox := took }

theorem witness_TransmitterTakesTurns :
    (up.zone.link ≠ .stopped ∧ up.zone.sending = none ∧ up.zone.mailbox = [] ∧ up.zone.long = []) ∧
      (let s := sendingOf [⟨none, .vehicleReset⟩] [.revokeAccept 1] false;
        s.zone.mailbox = ⟨none, .vehicleReset⟩ :: [] ∧ s.zone.tookMailbox = false ∧
          ∀ r ∈ s.zone.table, r.sendDue = false) ∧
      (let s := sendingOf [⟨none, .vehicleReset⟩] [.scene ⟨1, 2, 3, 4, false, true, 1⟩] true;
        s.zone.long = .scene ⟨1, 2, 3, 4, false, true, 1⟩ :: [] ∧ s.zone.tookMailbox = true) ∧
      (∀ b, LongFrame.beacon b ∉ up.zone.long) ∧
      let b := up.beaconNow
      let s := sendingOf [] [.revokeAccept 1, .beacon b, .revokeAccept 2] false
      s.zone.long = [.revokeAccept 1] ++ [.beacon b] ++ [.revokeAccept 2] ∧
        ∀ x, LongFrame.beacon x ∉ [LongFrame.revokeAccept 1] ++ [.revokeAccept 2] :=
  ⟨by decide, by decide, by decide, fun _ h => (by cases h), rfl, fun _ h => by
    simp at h⟩

/-- This state with the vehicle id 7 in force. -/
def renamed (s : State) : State :=
  s.setConfig { s.config with committed := s.lim.set 14 7 }

/-- A BEACON that the transmitter took keeps the id it was built with through a change of the committed
id, and one built after that has the new id (R87, R88); byte 2 of a wayside frame is its source
(R216). -/
theorem test_beacon_keepsVehicleId :
    (match execWaysideTransmit (sendingOf [] [.beacon up.beaconNow] false) with
      | .next t => (renamed t).waysidePort.map (·.getD 2 0)
      | _ => none) = some 1 ∧
      (renamed up).beaconNow.vehicle = 7 := by decide +kernel

/-! ### Seats -/

theorem up_atStation : AtStation up := by
  unfold AtStation
  decide +kernel

/-- A vehicle at the station with a seat that makes a check fail at once. -/
def blockedUp : State := up.setSeat { up.seat with records := [{ seat with state := .fault }] }

theorem witness_CheckStartsOrFailsAtOnce :
    (AtStation up ∧ up.seat.check = none ∧ up.seat.window = .stopped ∧ up.SeatsDistinct ∧
        Taken 0x28 (asked 0x28 up) (req 0x28) [] ∧ up.zone.link = .up ∧ Addressed up 255) ∧
      (∀ r ∈ up.seat.records, ¬(r.state = .unknown ∨ r.state = .fault ∨ r.state = .alarm)) ∧
      AtStation blockedUp ∧
        ∃ r ∈ blockedUp.seat.records, r.addr ∈ [3] ∧ r.state = .fault :=
  ⟨⟨up_atStation, rfl, rfl, by unfold State.SeatsDistinct; decide, asked_taken _ _ rfl, rfl, .inr rfl⟩,
    by decide, by unfold AtStation; decide +kernel, by decide⟩

/-- The release window active. -/
def released (left : Nat) : State := up.setSeat { up.seat with window := .running left }

theorem witness_ReleaseWindowOpensAndEnds :
    (Taken 0x29 (asked 0x29 up) (req 0x29) [] ∧ AtStation up ∧ up.seat.window = .stopped) ∧
      (AtStation (released 1) ∧ (released 1).seat.window ≠ .stopped) ∧
      (released 0).seat.window = .running 0 ∧ (released 0).host.reports.length ≤ 40 :=
  ⟨⟨asked_taken _ _ rfl, up_atStation, rfl⟩, ⟨by unfold AtStation; decide +kernel, by decide⟩, rfl,
    by decide⟩

/-- A check that runs, at the end of a confirm round. -/
def checkingUp (rounds : Nat) (rejected : List Nat) : State :=
  up.setSeat
    { up.seat with
      records := [{ seat with state := .checking }]
      round := some ⟨[], true⟩, check := some ⟨.host, [3], rejected, rounds⟩ }

/-- The loop with a round in progress, in a loop state. -/
def polling (loop : LoopState) (left : List Nat) : State :=
  up.setSeat { up.seat with loop := loop, round := some ⟨left, false⟩ }

theorem witness_SeatRoundsCarryTheCheck :
    (up.seat.loop = .started ∧ up.seat.roundTimer = .running 20 ∧ up.seat.round = none) ∧
      (polling .started []).seat.round = some ⟨[], false⟩ ∧
      ((checkingUp 3 []).seat.round = some ⟨[], true⟩ ∧
        (checkingUp 3 []).seat.check = some ⟨.host, [3], [], 3⟩ ∧
        3 + 1 < (checkingUp 3 []).lim.confirmRounds) ∧
      ((checkingUp 4 []).lim.confirmRounds ≤ 4 + 1 ∧ (checkingUp 4 []).SeatsDistinct) ∧
      ((checkingUp 4 [3]).seat.check = some ⟨.host, [3], [3], 4⟩ ∧ [3] ≠ [] ∧
        (checkingUp 4 [3]).config.committedMap.clip = none) ∧
      ((polling .closing [3]).seat.loop = .closing ∧ (polling .closing [3]).SeatsDistinct ∧
        (polling .closing [3]).seat.records.getLast? = some seat) := by
  unfold State.SeatsDistinct
  decide +kernel

/-- A check that ends its last round without a rejected seat passes (R111). -/
theorem test_roundEnd_passes :
    field (fun t => (t.seat.permit, t.seat.records.map (·.state))) (exec .roundEnd (checkingUp 4 [])) =
      some (true, [.checked]) := by
  decide +kernel

/-- A seat that became known as occupied while the check ran keeps the permit clear (R113). -/
theorem test_roundEnd_unchecked :
    (let s := checkingUp 4 [];
      let other : SeatRecord := { seat with addr := 4, state := .fault }
      field (fun t => (t.seat.permit, t.seat.records.map (·.state)))
        (exec .roundEnd (s.setSeat { s.seat with records := s.seat.records ++ [other] }))) =
      some (false, [.checked, .fault]) := by
  decide +kernel

/-- The seat's response with lock A set, lock B clear, travel 20 and counter 5. -/
def badResponse : BitVec 24 :=
  BitVec.ofNat 8 20 ++ (0xA5 : BitVec 8) ++ crc8 [20, 0xA5]

/-- A vehicle on the ride whose CHECKED seat gave one bad read, and is polled next. -/
def barLoose : State :=
  let s := ride .run
  s.setSeat { s.seat with records := [{ seat with alarm := 1 }], round := some ⟨[3], false⟩ }

theorem witness_SeatTransactionWatchesLocks :
    let r : SeatRecord := { seat with alarm := 1 }
    let x := SeatResponse.ofBits badResponse
    (barLoose.seat.loop ≠ .stopped ∧
        barLoose.seat.round = some { remaining := 3 :: [], confirm := false } ∧
        r ∈ barLoose.seat.records ∧ r.addr = 3 ∧ barLoose.SeatsDistinct ∧
        barLoose.seat.check = none ∧ barLoose.seat.window = .stopped) ∧
      barLoose.mstate = .run ∧ r.state = .checked ∧ r.alarm = 1 ∧ x.crcOk = true ∧
      r.lastCounter ≠ some x.counter ∧ (x.lockA = false ∨ x.lockB = false) ∧
      ∀ y ∈ barLoose.seat.records, y.state ≠ .alarm := by
  unfold State.SeatsDistinct
  decide +kernel

/-- A bar lets go on the ride: the second bad read stops the vehicle (R104, R105). -/
theorem test_seatTransaction_alarm :
    field (fun t => (t.mstate, t.faultActive .f11, t.voice.alarm, t.seat.records.map (·.state)))
      (exec (.seatTransaction badResponse) barLoose) = some (.stopping, true, true, [.alarm]) := by
  decide +kernel

/-! ### Cues -/

theorem witness_FlagCommandsWriteOneFlag :
    (Taken 0x30 (asked 0x30 up) (req 0x30) [] ∧ Taken 0x31 (asked 0x31 up) (req 0x31) [] ∧
        up.cue.flags[(31 : Fin 32)] = false ∧ up.cue.flags[(31 : Fin 32)] ≠ true ∧
        up.host.reports.length ≤ 40) ∧
      (up.zone.link = .up ∧ Addressed up 1 ∧ (31 : Byte).toNat = (31 : Fin 32)) ∧
      31 < (32 : Byte).toNat :=
  ⟨⟨asked_taken _ _ rfl, asked_taken _ _ rfl, by decide⟩, ⟨rfl, .inl rfl, rfl⟩, by decide⟩

/-- An acknowledgement entry for cue 700, tag 9. -/
def ack (sends : Nat) (stage : AckStage) : AckEntry := ⟨700, 9, 1, 2, false, sends, stage⟩

/-- A vehicle with one acknowledgement entry, and output 7 pulsing. -/
def acked (e : AckEntry) : State :=
  up.setCue { up.cue with acks := [e], outputs := up.cue.outputs.set 7 (.pulsing 0) }

theorem ack_of (n : Nat) (st : AckStage) : AckOf (acked (ack n st)) (700 : Half).toNat 9 (ack n st) :=
  ⟨List.mem_singleton.mpr rfl, rfl, rfl, fun _ hx _ _ => List.mem_singleton.mp hx⟩

theorem witness_AcksAndPulsesEnd :
    (up.zone.link = .up ∧ Addressed up 1 ∧
        ∀ e ∈ up.cue.acks, ¬(e.cueId = (700 : Half).toNat ∧ e.tag = 9)) ∧
      AckOf (acked (ack 2 .queued)) (700 : Half).toNat 9 (ack 2 .queued) ∧
      (AckOf (acked (ack 1 (.waiting 0))) (700 : Half).toNat 9 (ack 1 (.waiting 0)) ∧
        (ack 1 (.waiting 0)).stage = .waiting 0 ∧ (ack 1 (.waiting 0)).sends = 1 ∧
        (acked (ack 1 (.waiting 0))).zone.link ≠ .stopped ∧
        (acked (ack 1 (.waiting 0))).zone.long.length < 16) ∧
      (AckOf (acked (ack 2 (.waiting 0))) (700 : Half).toNat 9 (ack 2 (.waiting 0)) ∧
        (ack 2 (.waiting 0)).sends = 2) ∧
      (acked (ack 1 .queued)).cue.outputs[(7 : Fin 8)] = .pulsing 0 ∧
        up.cue.outputs[(7 : Fin 8)] ≠ .pulsing 0 :=
  ⟨⟨rfl, .inl rfl, by decide⟩, ack_of _ _, ⟨ack_of _ _, rfl, rfl, by decide, by decide⟩,
    ⟨ack_of _ _, rfl⟩, by decide⟩

/-- Two cues in list order, the first reached by a front at 20,000. -/
def cued : State :=
  let s := ride .run
  s.setCue
    { s.cue with
      cues :=
        [⟨700, 20000, 0, .flag 3 true, none, .fireLate, true, none⟩,
          ⟨710, 20001, 0, .flag 4 true, none, .fireLate, true, none⟩] }

theorem witness_CuesReachedAreTaken :
    cued.config.record.state = .ready ∧ (sample none).marker = none ∧ cued.mstate = .run ∧
      cued.guide.est.posState = .located ∧ cued.guide.est.lap = cued.cue.lap := by
  decide

/-- The cue reached fires late and writes its flag; the next waits (R126, R127). -/
theorem test_guideSample_cue :
    field (fun t => (t.cue.pointer, t.cue.flags[(3 : Fin 32)], t.cue.flags[(4 : Fin 32)]))
        (exec (.guideSample (sample none) .cueMotionZone) cued) =
      some (1, true, false) := by
  decide +kernel

/-! ### Clips -/

/-- A clip of 300 samples at block 131,070, in a state. -/
def clip (st : ClipState) : Clip := ⟨st, 131070, 300, some 299, none, 0⟩

/-- A vehicle with clip 511. -/
def stored (c : Clip) : State := up.setClip { up.clip with dir := up.clip.dir.set 511 (some c) }

/-- A staged block of clip 511. -/
def staged (committing : Bool) : StagedBlock := ⟨511, 0, List.replicate 512 1, committing⟩

/-- A vehicle that loads clip 511, its first block staged. -/
def loading (idle : Timer) : State :=
  let s := stored (clip .loading)
  s.setClip { s.clip with stage := ⟨[staged false], some 511, 1, idle⟩ }

theorem witness_ClipsAreDefinedStagedAndSealed :
    (Taken 0x40 (asked 0x40 up) (req 0x40) [] ∧ (1 ≤ 33554432 ∧ 33554432 ≤ 33554432 ∧ 0 < 131072 ∧
        0 + (33554432 + 255) / 256 ≤ 131072) ∧ up.clip.dir[(511 : Fin 512)] = none ∧
        (∀ l, some 33554431 = some l → l < 33554432) ∧ up.clip.buffer = .empty) ∧
      (Taken 0x44 (asked 0x44 (stored (clip .ready))) (req 0x44) [] ∧
        (stored (clip .ready)).clip.dir[(511 : Fin 512)] = some (clip .ready) ∧
        (clip .ready).plays = 0 ∧ (clip .ready).state ≠ .verifying ∧
        ∀ b ∈ (stored (clip .ready)).clip.stage.blocks, b.clip ≠ 511) ∧
      (let s := loading .stopped;
        Taken 0x41 (asked 0x41 s) (req 0x41) [] ∧
          s.clip.dir[(511 : Fin 512)] = some (clip .loading) ∧
          1 < ((clip .loading).length + 255) / 256 ∧ 1 ≤ [(0 : Byte)].length ∧
          [(0 : Byte)].length ≤ 512 ∧ s.clip.stage.runClip = some (511 : Fin 512).val ∧
          s.clip.stage.next = 1 ∧ s.clip.stage.blocks.length < 8 ∧
          (s.clip.stage.blocks.filter fun b => !b.committing).length < 3) ∧
      (loading (.running 1)).clip.stage.idle ≠ .running 0 ∧ (loading .stopped).clip.stage.idle ≠ .running 0 ∧
      (let s := loading (.running 0);
        s.clip.stage.idle = .running 0 ∧
          (s.clip.stage.blocks.filter fun x => !x.committing) = staged false :: [] ∧
          (staged false).clip = (511 : Fin 512).val) ∧
      (([staged true] ++ List.replicate 3 (staged false)).filter fun x => !x.committing) =
          staged false :: [staged false, staged false] ∧
      [staged false, staged false].length ≤ 2 ∧
      (let s := stored (clip .loading);
        Taken 0x42 (asked 0x42 s) (req 0x42) [] ∧ s.clip.verify.queue.length < 4 ∧
          s.clip.stage.blocks = [] ∧ s.clip.verify.queue = []) :=
  ⟨⟨asked_taken _ _ rfl, by decide, by decide +kernel, fun l h => by cases h; decide, rfl⟩,
    ⟨asked_taken _ _ rfl, by decide +kernel⟩, ⟨asked_taken _ _ rfl, by decide +kernel⟩,
    by decide, by decide, by decide +kernel, by decide +kernel, by decide, asked_taken _ _ rfl,
    by decide +kernel⟩

/-- A vehicle with clip 511 READY and the read-back buffer in a state. -/
def buffered (b : ReadBuffer) : State :=
  let s := stored (clip .ready)
  s.setClip { s.clip with buffer := b }

/-- A vehicle with a burst in progress. -/
def bursting (b : Burst) : State :=
  let s := stored (clip .verifying)
  s.setClip
    { s.clip with
      arb := { s.clip.arb with port := some ⟨b, false⟩ }
      verify := ⟨[511], 0, 0xFFFFFFFF⟩ }

/-- A read of clip 511's first block. -/
def readReq (mem : Nat) : ReadReq := ⟨511, 0, mem, 1, false⟩

/-- A CLIP READ that waits for its burst. -/
def reading (mem : Nat) : State :=
  (bursting (.readBack (readReq mem))).setHeld (some (.read (req 0x43) 511 0 1 false))

theorem witness_ClipReadIsAnswered :
    (Taken 0x43 (asked 0x43 (buffered .empty)) (req 0x43) [] ∧
        (buffered .empty).clip.dir[(511 : Fin 512)] = some (clip .ready) ∧ 0 + 2 ≤ (300 + 255) / 256 ∧
        (∀ b ∈ (buffered .empty).clip.stage.blocks, b.clip ≠ 511) ∧
        (buffered .empty).clip.buffer = .empty) ∧
      ((buffered (.full 511 0 [[], []])).clip.buffer = .full (511 : Fin 512) 0 [[], []] ∧
        Taken 0x43 (asked 0x43 (buffered (.full 511 0 [[], []]))) (req 0x43) []) ∧
      ((reading 131071).clip.arb.port = some ⟨.readBack (readReq 131071), false⟩ ∧
        (readReq 131071).prefetch = false ∧
        (reading 131071).host.held = some (.read (req 0x43) (511 : Fin 512) 0 1 false) ∧
        (reading 131071).clip.dir[(511 : Fin 512)] = some (clip .verifying) ∧
        131071 + (readReq 131071).count ≤ 131072) ∧
      131072 < (readReq 131072).mem + (readReq 131072).count :=
  ⟨⟨asked_taken _ _ rfl, by decide +kernel⟩, ⟨rfl, asked_taken _ _ rfl⟩, by decide +kernel, by decide⟩

/-- A vehicle whose arbiter holds these requests. -/
def wanting (a : Arbiter) : State := up.setClip { up.clip with arb := a }

theorem witness_ArbiterServesInOrder :
    (bursting (.verify 511 0)).clip.arb.port ≠ none ∧
      ((wanting arb4).clip.arb.port = none ∧
        (wanting arb4).clip.arb.refills[(6 : Fin 8)] = some ⟨0, 0, 2⟩ ∧
        ∀ u : Fin 8, arb4.refills[u] ≠ none → (6 + 7 - 4) % 8 ≤ (u.val + 7 - 4) % 8) ∧
      ((∀ v : Fin 8, Arbiter.reset.refills[v] = none) ∧
        { Arbiter.reset with commits := [⟨511, 0, 0, []⟩] }.commits = ⟨511, 0, 0, []⟩ :: [] ∧
        Arbiter.reset.commits = [] ∧
        { Arbiter.reset with readBack := some (readReq 0) }.readBack = some (readReq 0) ∧
        Arbiter.reset.readBack = none ∧
        { Arbiter.reset with verify := some (511, 0) }.verify = some (511, 0) ∧
        Arbiter.reset.verify = none) := by
  decide +kernel

/-- A commit of one block of clip 511. -/
def commitReq (mem : Nat) : CommitReq := ⟨511, 0, mem, [List.replicate 512 1]⟩

theorem witness_CommitAndVerifyBurstsComplete :
    ((bursting (.commit (commitReq 131071))).MemoryCanonical ∧
        (bursting (.commit (commitReq 131071))).clip.arb.port =
          some ⟨.commit (commitReq 131071), false⟩ ∧
        131071 + (commitReq 131071).data.length ≤ 131072 ∧
        (∀ b ∈ (commitReq 131071).data, b.length = 512) ∧
        (bursting (.commit (commitReq 131071))).host.held = none) ∧
      131072 < (commitReq 131072).mem + (commitReq 131072).data.length ∧
      ((bursting (.verify 511 131071)).clip.arb.port = some ⟨.verify (511 : Fin 512) 131071, false⟩ ∧
        (bursting (.verify 511 131071)).clip.dir[(511 : Fin 512)] = some (clip .verifying) ∧
        (bursting (.verify 511 131071)).clip.verify.queue = (511 : Fin 512).val :: [] ∧
        0 + 1 < ((clip .verifying).length + 255) / 256) ∧
      (1 ≤ (clip .verifying).length ∧ 1 + 1 = ((clip .verifying).length + 255) / 256) ∧
      (let s := bursting (.verify 511 131071);
        (s.setClip
            { s.clip with
              dir := s.clip.dir.set 510 (some { clip .verifying with start := 9 })
              verify := ⟨[511, 510], 1, 0xFFFFFFFF⟩ }).clip.dir[(510 : Fin 512)] =
          some { clip .verifying with start := 9 }) :=
  ⟨⟨⟨List.Pairwise.nil, by decide⟩, by decide +kernel⟩, by decide, by decide +kernel, by decide,
    by decide +kernel⟩

/-! ### Voices -/

/-- A vehicle with clip 511 READY and voice 7 in a state, with a gain. -/
def sounding (st : VoiceState) (gain : Nat) : State :=
  (stored (clip .ready)).putVoice 7 { Voice.reset with state := st, clip := some 511, gain := gain }

theorem witness_VoiceRequestsAndRefills :
    (Taken 0x48 (asked 0x48 (sounding .idle 0)) (req 0x48) [] ∧
        (∀ o : Fin 4, (#v[256, 0, 0, 256] : Routes)[o] ≤ 256) ∧
        (sounding .idle 0).config.committedMap.clip = none ∧
        (sounding .idle 0).clip.dir[(511 : Fin 512)] = some (clip .ready) ∧
        (sounding .idle 0).voice.voices[(7 : Fin 8)].state = .idle) ∧
      ((sounding .playing 1).voice.voices[(7 : Fin 8)].state = .playing ∧
        0 < (sounding .playing 1).voice.voices[(7 : Fin 8)].gain) ∧
      (Taken 0x49 (asked 0x49 (sounding .priming 0)) (req 0x49) [] ∧
        (sounding .priming 0).voice.voices[(7 : Fin 8)].state = .priming ∧
        (sounding .priming 0).voice.voices[(7 : Fin 8)].pend = none ∧
        (sounding .priming 0).voice.voices[(7 : Fin 8)].clip = some (511 : Fin 512).val) ∧
      (Taken 0x4A (asked 0x4A (sounding .paused 1)) (req 0x4A) [] ∧
        (sounding .paused 1).voice.voices[(7 : Fin 8)].state = .paused ∧
        (sounding .releasing 1).voice.voices[(7 : Fin 8)].state = .releasing) ∧
      Taken 0x4B (asked 0x4B up) (req 0x4B) [] ∧
      ((bursting (.refill 7 ⟨0, 131070, 2⟩)).clip.arb.port =
          some ⟨.refill 7 ⟨0, 131070, 2⟩, false⟩ ∧ 131070 + 2 ≤ 131072) ∧
      (let s := (bursting (.refill 7 ⟨0, 131070, 2⟩)).putVoice 7 { Voice.reset with state := .priming };
        s.voice.voices[(7 : Fin 8)].state = .priming ∧
          2 ≤ s.voice.voices[(7 : Fin 8)].ring.length + 2) ∧
      131072 < (⟨0, 131071, 2⟩ : RefillReq).mem + (⟨0, 131071, 2⟩ : RefillReq).count :=
  ⟨⟨asked_taken _ _ rfl, by decide +kernel⟩, by decide +kernel,
    ⟨asked_taken _ _ rfl, by decide +kernel⟩, ⟨asked_taken _ _ rfl, by decide +kernel⟩,
    asked_taken _ _ rfl, by decide +kernel, by decide +kernel, by decide⟩

theorem witness_SampleTickMixesDrawnSamples :
    let w : Voice :=
      { Voice.reset with state := .playing, length := 300, pos := 254, ring := [List.replicate 512 1] }
    w.state = .playing ∧ w.ring ≠ [] ∧ (w.pos + 1) % 256 ≠ 0 ∧ w.pos + 1 ≠ w.length ∧
      State.reset.voice.voices[(0 : Fin 8)].state = .idle := by
  decide +kernel

end Sys2Proof.Tests
end

namespace Sys2Proof.Claims

open Sys2Proof.Machine

/-! ### Replies -/

/-- The state with the frame at the head of the receive queue taken (R206). -/
def frameTaken (s : State) (rest : List RxFrame) : State := s.setHost { s.host with rxQueue := rest }

/-- A reply sent from a state whose host link unit differs, but for its reports, only by the frame
taken (R206, R207). -/
theorem answered_sendReply {s u : State} {rest : List RxFrame} (f : RxFrame) (a : Answer)
    (h : u.host.port = (frameTaken s rest).host.port) :
    Answered s (sendReply f a u) f rest a.cls a.detail a.body := by
  have host := HostLink.eq_of_port h
  generalize u.host.reports = reports, u.host.dropped = dropped at host
  unfold Answered replied
  cases sending : s.host.sending with
  | none =>
    have free : u.host.sending = none := by simpa [host, frameTaken] using sending
    simp [sendReply_free free, host, frameTaken, reply, replyTo]
  | some r =>
    have busy : u.host.sending = some r := by simpa [host, frameTaken] using sending
    simp [sendReply_busy busy, host, frameTaken, sending, reply, replyTo]

/-! ### The fault unit -/

/-- The summary is read from the fault table alone (R191). -/
theorem summary_congr {s t : State} (h : s.fault = t.fault) : s.summary = t.summary := by
  have latched : s.faultLatched = t.faultLatched :=
    funext fun c => congrArg FaultRecord.latched (State.faultRec_congr h c)
  unfold State.summary State.latchedCodes
  rw [latched]

/-- The latched codes that pass a test on their records, in order of priority. -/
theorem latchedCodes_filter (s : State) (p : FaultCode → Bool) :
    s.latchedCodes.filter p =
      FaultCode.byPriority.filter fun c => (s.faultRec c).latched && p c := by
  unfold State.latchedCodes
  rw [List.filter_filter]
  exact List.filter_congr fun c _ => Bool.and_comm ..

/-- The codes whose latches CLEAR FAULTS clears, in order of priority (R189). -/
def goneCodes (s : State) : List FaultCode :=
  FaultCode.byPriority.filter fun c => (s.faultRec c).latched && !(s.faultRec c).active

/-- The codes that CLEAR FAULTS leaves latched, in order of priority (R189). -/
def stillCodes (s : State) : List FaultCode :=
  FaultCode.byPriority.filter fun c => (s.faultRec c).latched && (s.faultRec c).active

/-- Every record is cleared on its own (R189). -/
theorem clearFaults_rec (s : State) (c : FaultCode) :
    (clearFaults s).1.faultRec c = (s.faultRec c).cleared := by
  unfold clearFaults
  rw [noteSummary_rec]
  simp [State.faultRec]

/-- What CLEAR FAULTS answers (R189). -/
theorem clearFaults_answer (s : State) :
    (clearFaults s).2 =
      { cls := if stillCodes s = [] then .done else .qualified
        detail := if stillCodes s = [] then .done else .fault
        body := .cleared (goneCodes s) (stillCodes s) (clearFaults s).1.summary } := by
  have gone : (s.latchedCodes.filter fun c => !s.faultActive c) = goneCodes s :=
    latchedCodes_filter s _
  have still : s.latchedCodes.filter s.faultActive = stillCodes s := latchedCodes_filter s _
  unfold clearFaults
  dsimp only
  rw [gone, still]
  by_cases h : stillCodes s = [] <;> simp [h]

/-- CLEAR FAULTS posts no event report of its own. -/
theorem clearFaults_event (e : EventReport) (s : State) :
    Report.event e ∈ (clearFaults s).1.host.reports ↔ Report.event e ∈ s.host.reports :=
  noteSummary_event ..

/-- The state after CLEAR FAULTS was taken and answered. -/
def afterClearFaults (s : State) (f : RxFrame) (rest : List RxFrame) : State :=
  answering (fun _ => clearFaults) f () (frameTaken s rest)

theorem exec_clearFaults {s : State} {f : RxFrame} {rest : List RxFrame} (taken : Taken 0x62 s f rest) :
    exec (.clearFaults (.fit ())) s = .next (afterClearFaults s f rest) := by
  obtain ⟨held, queue, kind⟩ := taken
  exact onRequest_fit held queue kind

section AfterClearFaults

variable (s : State) (f : RxFrame) (rest : List RxFrame)

/-- Only the host link unit and the fault table change. -/
theorem afterClearFaults_frame :
    afterClearFaults s f rest =
      { s with host := (afterClearFaults s f rest).host, fault := (afterClearFaults s f rest).fault } := by
  apply State.ext_fields <;> simp [afterClearFaults, answering, frameTaken]

theorem afterClearFaults_rec (c : FaultCode) :
    (afterClearFaults s f rest).faultRec c = (s.faultRec c).cleared := by
  unfold afterClearFaults answering
  rw [sendReply_rec, clearFaults_rec, frameTaken, State.setHost_rec]

/-- The summary that the reply carries is the one that stands after it. -/
theorem afterClearFaults_summary :
    (clearFaults (frameTaken s rest)).1.summary = (afterClearFaults s f rest).summary :=
  summary_congr (by simp [afterClearFaults, answering])

theorem afterClearFaults_answered :
    Answered s (afterClearFaults s f rest) f rest (if stillCodes s = [] then .done else .qualified)
      (if stillCodes s = [] then .done else .fault)
      (.cleared (goneCodes s) (stillCodes s) (afterClearFaults s f rest).summary) := by
  have gone : goneCodes (frameTaken s rest) = goneCodes s := rfl
  have still : stillCodes (frameTaken s rest) = stillCodes s := rfl
  have answered : Answered s (afterClearFaults s f rest) f rest _ _ _ :=
    answered_sendReply f (clearFaults (frameTaken s rest)).2 (by simp)
  rwa [clearFaults_answer, gone, still, afterClearFaults_summary s f rest] at answered

theorem afterClearFaults_event (e : EventReport) :
    Report.event e ∈ (afterClearFaults s f rest).host.reports ↔ Report.event e ∈ s.host.reports := by
  unfold afterClearFaults answering
  rw [(sendReply_reports ..).1, clearFaults_event, frameTaken, State.setHost_host]

end AfterClearFaults

/-- Settles O19: each record is cleared on its own, and the reply names the codes by the records that
stood before, with the summary of the table after. -/
theorem clearFaultsKeepsActiveLatches : Obligations.ClearFaultsKeepsActiveLatches := by
  unfold Obligations.ClearFaultsKeepsActiveLatches
  intro s f rest taken
  exact ⟨afterClearFaults s f rest, goneCodes s, stillCodes s, exec_clearFaults taken,
    afterClearFaults_frame s f rest, afterClearFaults_rec s f rest, rfl, rfl,
    afterClearFaults_answered s f rest, fun c cause => (afterClearFaults_event s f rest _).1⟩

end Sys2Proof.Claims

namespace Sys2Proof.Claims

open Sys2Proof.Machine

/-! ### A break -/

/-- A free transmitter sends the reply at once (R207). -/
theorem replied_free {h : HostLink} (free : h.sending = none) (rest : List RxFrame) (r : Reply) :
    replied h rest r = { h with rxQueue := rest, sending := some r } := by
  simp [replied, free]

/-- At a transmitter that is sending, the reply waits behind the others (R207). -/
theorem replied_busy {h : HostLink} {r0 : Reply} (busy : h.sending = some r0) (rest : List RxFrame)
    (r : Reply) : replied h rest r = { h with rxQueue := rest, waiting := h.waiting ++ [r] } := by
  simp [replied, busy]

/-- A reply sent with nothing done but taking the frame: the exact host link unit of `replied`
(R206, R207). -/
theorem sendReply_frameTaken (s : State) (f : RxFrame) (rest : List RxFrame) (a : Answer) :
    sendReply f a (frameTaken s rest) =
      { s with host := replied s.host rest (reply f a.cls a.detail a.body) } := by
  cases sending : s.host.sending with
  | none =>
    rw [replied_free sending]
    exact sendReply_free (s := frameTaken s rest) sending f a
  | some r =>
    rw [replied_busy sending]
    exact sendReply_busy (s := frameTaken s rest) sending f a

/-- STATUS, taken, only sends the reply that shows the state (R208). -/
theorem exec_status {s : State} {f : RxFrame} {rest : List RxFrame} (taken : Taken 0x60 s f rest) :
    exec (.status (.fit ())) s =
      .next
        { s with
          host := replied s.host rest (reply f .done .done (.status (frameTaken s rest).statusBody)) } := by
  obtain ⟨held, queue, kind⟩ := taken
  calc exec (.status (.fit ())) s
      = .next (sendReply f ⟨.done, .done, .status (frameTaken s rest).statusBody⟩ (frameTaken s rest)) :=
        onRequest_fit held queue kind
    _ = _ := congrArg _ (sendReply_frameTaken ..)

/-- STATUS shows the host link unit's counts as they stand (R208). -/
@[simp] theorem statusBody_host (s : State) : s.statusBody.host = s.host.counts := rfl

/-- What a break does (R214). -/
theorem exec_lineBreak (s : State) :
    exec .lineBreak s =
      .next
        (s.setHost
          { s.host with
            framer := [], rxQueue := []
            counts := { s.host.counts with breaks := bump 255 s.host.counts.breaks } }) := rfl

/-- Settles O15: the break's update is the whole of its step, and STATUS's reply carries the counts of
the state with the frame taken, which are those before. -/
theorem breakDropsWaitingFrames : Obligations.BreakDropsWaitingFrames := by
  unfold Obligations.BreakDropsWaitingFrames
  intro s
  refine ⟨exec_lineBreak s, fun f rest taken => ?_⟩
  have shown : (frameTaken s rest).statusBody.host.breaks = s.host.counts.breaks := by
    simp [frameTaken]
  exact ⟨(frameTaken s rest).statusBody, exec_status taken, shown⟩

end Sys2Proof.Claims

namespace Sys2Proof.Claims

open Sys2Proof.Machine

/-! ### The checks of COMMIT -/

theorem failIf_none {b : Bool} {i : Nat} (h : failIf b i = none) : b = false := by
  unfold failIf at h
  split at h
  · cases h
  · simpa using ‹¬ b = true›

theorem firstWhere_none {α : Type} {p : α → Bool} {xs : List α} (h : firstWhere p xs = none) :
    ∀ x ∈ xs, p x = false := by
  simpa [firstWhere, List.findIdx?_eq_none_iff] using h

/-- A list in which no value stands earlier holds no value twice (R6, R96, R122). -/
theorem firstRepeat_none {α : Type} [DecidableEq α] {xs : List α} (h : firstRepeat xs = none) :
    xs.Nodup := by
  rw [List.nodup_iff_getElem?_ne_getElem?]
  intro i j hij hj same
  have later := List.find?_eq_none.1 h j (List.mem_range.2 hj)
  have here : xs[j]? = some xs[j] := List.getElem?_eq_getElem hj
  simp only [here, List.contains_iff_mem] at later
  refine later (List.mem_iff_getElem?.2 ⟨i, ?_⟩)
  rw [List.getElem?_take_of_lt hij, same, here]

/-- Triggers that never drop are in order (R122). -/
theorem firstDrop_none {i : Nat} {xs : List Nat} (h : firstDrop i xs = none) :
    xs.Pairwise (· ≤ ·) := by
  induction xs generalizing i with
  | nil => exact .nil
  | cons a xs ih =>
    cases xs with
    | nil => exact List.pairwise_singleton ..
    | cons b rest =>
      unfold firstDrop at h
      split at h
      · cases h
      · have tail := ih h
        refine List.pairwise_cons.2 ⟨fun c hc => ?_, tail⟩
        rcases List.mem_cons.1 hc with rfl | hc
        · omega
        · exact le_trans (by omega) ((List.pairwise_cons.1 tail).1 c hc)

/-- A COMMIT that passes has passed the checks of every table (R199). -/
theorem commitFailure_none {s : State} (h : s.commitFailure = none) :
    checkPath s.guide.path = none ∧ checkMarkers s.P s.guide.markers = none ∧
      checkLimits s.P s.guide.steer.delta s.config.loaded = none ∧
      checkSeatMap s.config.loadedMap = none ∧
      checkCues s.P s.config.loadedMap.clip.isSome s.cue.cues = none := by
  simpa [State.commitFailure, Option.or_eq_none_iff, and_assoc] using h

/-- What the checks of R3 leave: the lap's length, its zones, and the load zone. -/
theorem checkPath_none {path : List Segment} (h : checkPath path = none) :
    1000 ≤ lapLength path ∧ lapLength path ≤ 16777215 ∧
      (∃ g, path.head? = some g ∧ g.load = true) ∧ (∃ g ∈ path, g.load = false) ∧
      (∃ g ∈ path, ∃ k ∈ path, g.zone ≠ k.zone) := by
  simp only [checkPath, Option.or_eq_none_iff] at h
  obtain ⟨-, lap, zones, -, loads, -, head⟩ := h
  have lap := failIf_none lap
  have zones := failIf_none zones
  have loads := failIf_none loads
  have head := failIf_none head
  obtain ⟨first, hf, load⟩ : ∃ g, path.head? = some g ∧ g.load = true := by
    simpa [Option.map_eq_some_iff] using head
  have mem : first ∈ path := List.mem_of_mem_head? hf
  refine ⟨?_, ?_, ⟨first, hf, load⟩, ?_, ?_⟩
  · simp [Config.lapMin] at lap
    omega
  · simp [Config.lapMax] at lap
    omega
  · simp only [Bool.or_eq_false_iff, List.all_eq_false] at loads
    obtain ⟨⟨g, hg, hl⟩, -⟩ := loads
    exact ⟨g, hg, by simpa using hl⟩
  · simp only [List.all_eq_false, List.head?_map, hf] at zones
    obtain ⟨z, hz, ne⟩ := zones
    obtain ⟨g, hg, rfl⟩ := List.mem_map.1 hz
    exact ⟨first, mem, g, hg, by simpa using ne⟩

theorem checkMarkers_none {P : Nat} {ms : List Marker} (h : checkMarkers P ms = none) :
    (ms.map (·.code)).Nodup ∧ ∀ m ∈ ms, m.pos < P := by
  obtain ⟨codes, places⟩ := Option.or_eq_none_iff.1 h
  exact ⟨firstRepeat_none codes, by simpa using firstWhere_none places⟩

theorem checkLimits_none {P : Nat} {delta : Int} {l : Limits} (h : checkLimits P delta l = none) :
    l.brakeStep ≤ l.stopStep ∧ delta.natAbs ≤ l.steerRange ∧ l.vehicleLength < P / 2 := by
  simp only [checkLimits, Option.or_eq_none_iff] at h
  obtain ⟨steps, range, length⟩ := h
  exact ⟨by simpa using failIf_none steps, by simpa using failIf_none range,
    by simpa using failIf_none length⟩

theorem checkSeatMap_none {m : SeatMap} (h : checkSeatMap m = none) :
    (m.entries.map (·.addr)).Nodup ∧ ∀ e ∈ m.entries, e.addr ≤ 15 := by
  obtain ⟨range, repeats⟩ := Option.or_eq_none_iff.1 h
  exact ⟨firstRepeat_none repeats, by simpa using firstWhere_none range⟩

theorem checkCues_none {P : Nat} {a : Bool} {cs : List Cue} (h : checkCues P a cs = none) :
    (∀ c ∈ cs, c.trigger < P) ∧ (cs.map (·.trigger)).Pairwise (· ≤ ·) ∧ (cs.map (·.id)).Nodup := by
  simp only [checkCues, Option.or_eq_none_iff] at h
  obtain ⟨places, order, repeats, -⟩ := h
  exact ⟨by simpa using firstWhere_none places, firstDrop_none order, firstRepeat_none repeats⟩

/-- Settles O25: each clause is what one check of R199 leaves, table by table. -/
theorem commitPassesOnlySoundTables : Obligations.CommitPassesOnlySoundTables := by
  unfold Obligations.CommitPassesOnlySoundTables
  intro s passes
  obtain ⟨path, markers, limits, seats, cues⟩ := commitFailure_none passes
  obtain ⟨lo, hi, head, outside, zones⟩ := checkPath_none path
  obtain ⟨codes, places⟩ := checkMarkers_none markers
  obtain ⟨steps, range, length⟩ := checkLimits_none limits
  obtain ⟨addrs, fitted⟩ := checkSeatMap_none seats
  obtain ⟨triggers, order, ids⟩ := checkCues_none cues
  exact ⟨lo, hi, head, outside, zones, codes, places, steps, range, length, addrs, fitted, triggers,
    order, ids⟩

end Sys2Proof.Claims

namespace Sys2Proof.Claims

open Sys2Proof.Machine

/-! ### What a command keeps

`Keeps s t` says of each invariant that it holds of `t` where it held of `s`. Every operation keeps them
all, so that a command's proof follows its definition, operation by operation. -/

/-- Every invariant but that of the latched stops holds after where it held before. -/
structure KeepsParts (s t : State) : Prop where
  reports : s.ReportsBounded → t.ReportsBounded
  rx : s.RxBounded → t.RxBounded
  stage : s.StageBounded → t.StageBounded
  acks : s.AcksBounded → t.AcksBounded
  table : s.TableBounded → t.TableBounded
  queues : s.QueuesBounded → t.QueuesBounded
  seats : s.SeatsDistinct → t.SeatsDistinct
  steering : s.SteerBounded → t.SteerBounded
  memory : s.MemoryCanonical → t.MemoryCanonical
  parked : s.ParkedUnlessReady → t.ParkedUnlessReady

/-- Every invariant holds after where it held before. -/
structure Keeps (s t : State) : Prop extends KeepsParts s t where
  stops : s.StopRespected → t.StopRespected

theorem KeepsParts.trans {s t u : State} (h : KeepsParts s t) (k : KeepsParts t u) : KeepsParts s u where
  reports x := k.reports (h.reports x)
  rx x := k.rx (h.rx x)
  stage x := k.stage (h.stage x)
  acks x := k.acks (h.acks x)
  table x := k.table (h.table x)
  queues x := k.queues (h.queues x)
  seats x := k.seats (h.seats x)
  steering x := k.steering (h.steering x)
  memory x := k.memory (h.memory x)
  parked x := k.parked (h.parked x)

theorem KeepsParts.refl (s : State) : KeepsParts s s := ⟨id, id, id, id, id, id, id, id, id, id⟩

theorem Keeps.refl (s : State) : Keeps s s := ⟨.refl s, id⟩

theorem Keeps.trans {s t u : State} (h : Keeps s t) (k : Keeps t u) : Keeps s u :=
  ⟨h.toKeepsParts.trans k.toKeepsParts, fun x => k.stops (h.stops x)⟩

/-- A class is latched when a latched record has it (R187). -/
theorem classLatched_iff (s : State) (k : FaultClass) :
    s.classLatched k = true ↔ ∃ c, (s.faultRec c).latched = true ∧ (s.faultRec c).cls = k := by
  have all : ∀ c, c ∈ FaultCode.all := by intro c; cases c <;> decide
  simp [State.classLatched, State.faultLatched, all]

/-- No class is latched anew when each latched record was latched with its class before. -/
theorem classLatched_mono {s t : State} {k : FaultClass}
    (h : ∀ c, (t.faultRec c).latched = true → (t.faultRec c).cls = k →
      (s.faultRec c).latched = true ∧ (s.faultRec c).cls = k)
    (hs : s.classLatched k = false) : t.classLatched k = false := by
  rw [← Bool.not_eq_true, classLatched_iff] at hs ⊢
  rintro ⟨c, latched, cls⟩
  exact hs ⟨c, h c latched cls⟩

section Setters

variable {s t : State}

/-- A fold of operations that each keep the invariants keeps them. -/
protected theorem Keeps.foldl {α : Type} {f : State → α → State} (hf : ∀ t a, Keeps t (f t a))
    (l : List α) (h : Keeps s t) : Keeps s (l.foldl f t) := by
  induction l generalizing t with
  | nil => exact h
  | cons a l ih => exact ih (h.trans (hf t a))

protected theorem Keeps.setPending (h : Keeps s t) (q : List Instr) : Keeps s (t.setPending q) :=
  h.trans ⟨⟨id, id, id, id, id, id, id, id, id, id⟩, id⟩

protected theorem Keeps.setVoice (h : Keeps s t) (u : VoiceEngine) : Keeps s (t.setVoice u) :=
  h.trans ⟨⟨id, id, id, id, id, id, id, id, id, id⟩, id⟩

protected theorem Keeps.setGuide (h : Keeps s t) {g : Guidance}
    (hg : g.steer = t.guide.steer) : Keeps s (t.setGuide g) :=
  h.trans
    ⟨⟨id, id, id, id, id, id, id,
      fun x => (congrArg (fun y : Steering => y.delta.natAbs ≤ t.lim.steerRange) hg).mpr x, id, id⟩, id⟩

protected theorem Keeps.setMotion (h : Keeps s t) {m : Motion}
    (hm : m.record.state = t.mstate) : Keeps s (t.setMotion m) :=
  h.trans
    ⟨⟨id, id, id, id, id, id, id, id, id, fun x y => hm.trans (x y)⟩,
      fun x y => x ((congrArg MotionState.mayMove hm).symm.trans y)⟩

/-- The motion state may change where PARKED or READY, and a move that begins finds no stop latched. -/
theorem Keeps.setMotionTo (h : Keeps s t) {m : Motion}
    (hp : m.record.state = .parked ∨ t.mstate ≠ .parked ∨ t.isReady = true)
    (hs : m.record.state.mayMove = true → t.mstate.mayMove = true ∨ t.classLatched .stop = false) :
    Keeps s (t.setMotion m) := by
  refine h.trans ⟨⟨id, id, id, id, id, id, id, id, id, fun x y => ?_⟩, fun x y => ?_⟩
  · rcases hp with hp | hp | hp
    · exact hp
    · exact absurd (x y) hp
    · exact absurd (hp.symm.trans y) (by decide)
  · exact (hs y).elim x id

protected theorem Keeps.setSeat (h : Keeps s t) {u : SeatUnit}
    (hu : u.records.map (·.addr) = t.seat.records.map (·.addr)) : Keeps s (t.setSeat u) :=
  h.trans
    ⟨⟨id, id, id, id, id, id, fun x => ⟨(congrArg List.Nodup hu).mpr x.1, x.2⟩, id, id, id⟩, id⟩

/-- The seat records change, and no two of them have one address. -/
theorem Keeps.setSeatDistinct (h : Keeps s t) {u : SeatUnit}
    (hu : t.SeatsDistinct → (u.records.map (·.addr)).Nodup) : Keeps s (t.setSeat u) :=
  h.trans ⟨⟨id, id, id, id, id, id, fun x => ⟨hu x, x.2⟩, id, id, id⟩, id⟩

protected theorem Keeps.setCue (h : Keeps s t) {u : CueUnit}
    (hu : u.acks.length ≤ t.cue.acks.length) : Keeps s (t.setCue u) :=
  h.trans ⟨⟨id, id, id, fun x => hu.trans x, id, id, id, id, id, id⟩, id⟩

/-- The acknowledgement table changes within its bound. -/
theorem Keeps.setCueWithin (h : Keeps s t) {u : CueUnit} (hu : t.AcksBounded → u.acks.length ≤ 8) :
    Keeps s (t.setCue u) := h.trans ⟨⟨id, id, id, hu, id, id, id, id, id, id⟩, id⟩

/-- The clip store changes, memory stays and the write stage does not grow. -/
protected theorem Keeps.setClip (h : Keeps s t) {u : ClipStore} (hm : u.mem = t.clip.mem)
    (hu : u.stage.blocks.length ≤ t.clip.stage.blocks.length) :
    Keeps s (t.setClip u) :=
  h.trans
    ⟨⟨id, id, fun x => hu.trans x, id, id, id, id, id, fun x => (congrArg Memory.wf hm).mpr x, id⟩, id⟩

/-- The clip store changes, memory stays and the write stage stays within its bound. -/
theorem Keeps.setClipWithin (h : Keeps s t) {u : ClipStore}
    (hu : t.StageBounded → u.stage.blocks.length ≤ 8) (hm : u.mem = t.clip.mem) :
    Keeps s (t.setClip u) :=
  h.trans
    ⟨⟨id, id, hu, id, id, id, id, id, fun x => (congrArg Memory.wf hm).mpr x, id⟩, id⟩

/-- The host link unit changes within the bounds of its queues. -/
theorem Keeps.setHostWithin (h : Keeps s t) {u : HostLink}
    (hr : t.ReportsBounded → u.reports.length ≤ 48 ∧ (u.reports.filter Report.isState).Nodup)
    (hx : t.RxBounded → u.rxQueue.length ≤ 4) : Keeps s (t.setHost u) :=
  h.trans ⟨⟨hr, hx, id, id, id, id, id, id, id, id⟩, id⟩

/-- The configuration unit changes but for what is in force; its state changes only in PARKED. -/
protected theorem Keeps.setConfig (h : Keeps s t) {c : ConfigUnit}
    (hp : t.mstate = .parked ∨ c.record.state = t.config.record.state)
    (hc : c.committed = t.config.committed)
    (hm : c.committedMap = t.config.committedMap) : Keeps s (t.setConfig c) := by
  refine h.trans ⟨⟨id, id, id, id, id, id, fun x => ?_, fun x => ?_, id, fun x y => ?_⟩, id⟩
  · unfold State.SeatsDistinct at x ⊢
    rwa [State.setConfig_config, hm]
  · unfold State.SteerBounded State.lim at x ⊢
    rwa [State.setConfig_config, hc]
  · rcases hp with hp | hp
    · exact hp
    · exact x (by simpa [State.isReady, hp] using y)

/-- The host link unit changes, the reports stay and the receive queue does not grow. -/
protected theorem Keeps.setHost (h : Keeps s t) {u : HostLink}
    (hr : u.reports = t.host.reports)
    (hx : u.rxQueue.length ≤ t.host.rxQueue.length) : Keeps s (t.setHost u) :=
  h.trans
    ⟨⟨fun x => (congrArg (fun l : List Report => l.length ≤ 48 ∧ (l.filter Report.isState).Nodup) hr).mpr x,
      fun x => hx.trans x, id, id, id, id, id, id, id, id⟩, id⟩

/-- The zone unit changes but for its tables and queues. -/
protected theorem Keeps.setZone (h : Keeps s t) {z : ZoneUnit}
    (hz : (z.table, z.mailbox, z.long) = (t.zone.table, t.zone.mailbox, t.zone.long)) :
    Keeps s (t.setZone z) := by
  obtain ⟨ht, hm, hl⟩ : z.table = t.zone.table ∧ z.mailbox = t.zone.mailbox ∧ z.long = t.zone.long := by
    simpa using hz
  refine h.trans ⟨⟨id, id, id, id, fun x => ?_, fun x => ?_, id, id, id, id⟩, id⟩
  · unfold State.TableBounded at x ⊢
    rwa [State.setZone_zone, ht]
  · unfold State.QueuesBounded at x ⊢
    rwa [State.setZone_zone, hm, hl]

/-- The reservation table and the queues change within their bounds. -/
theorem Keeps.setZoneWithin (h : Keeps s t) {z : ZoneUnit}
    (ht : t.TableBounded → z.table.length ≤ 4 ∧ (z.table.map (·.zone)).Nodup)
    (hq : t.QueuesBounded → z.mailbox.length ≤ 4 ∧ z.long.length ≤ 16) : Keeps s (t.setZone z) :=
  h.trans ⟨⟨id, id, id, id, ht, hq, id, id, id, id⟩, id⟩

/-- The fault table changes, and no STOP-class latch is new. -/
protected theorem Keeps.setFault (h : Keeps s t) {u : FaultUnit}
    (hu : t.classLatched .stop = false → (t.setFault u).classLatched .stop = false) :
    Keeps s (t.setFault u) :=
  h.trans ⟨⟨id, id, id, id, id, id, id, id, id, id⟩, fun x y => hu (x y)⟩

theorem KeepsParts.setFault (s : State) (u : FaultUnit) : KeepsParts s (s.setFault u) :=
  ⟨id, id, id, id, id, id, id, id, id, id⟩

end Setters

/-! ### Reports, replies and faults -/

section Faults

variable {s t : State}

/-- A report that is no event, or a state report not queued yet, joins the tail within the bounds. -/
theorem joinTail_bounded {l : HostLink} {r : Report} (hr : r.isState = true → r ∉ l.reports)
    (h : l.reports.length ≤ Config.reportMax ∧ (l.reports.filter Report.isState).Nodup) :
    (l.joinTail r).reports.length ≤ Config.reportMax ∧
      ((l.joinTail r).reports.filter Report.isState).Nodup := by
  refine ⟨HostLink.joinTail_length r h.1, ?_⟩
  have joined : ∀ x : List Report, x.Sublist l.reports → ((x ++ [r]).filter Report.isState).Nodup := by
    intro x hx
    have nodup := h.2.sublist (hx.filter Report.isState)
    rw [List.filter_append]
    cases hs : r.isState with
    | false => simpa [hs] using nodup
    | true =>
      have fresh : r ∉ x := fun m => hr hs (hx.subset m)
      simp only [hs, List.filter_cons_of_pos, List.filter_nil]
      exact List.nodup_append.2 ⟨nodup, by simp, by
        rintro a ha b hb rfl
        exact fresh (List.mem_singleton.1 hb ▸ List.mem_of_mem_filter ha)⟩
  rcases l.joinTail_cases r with ⟨-, e⟩ | ⟨-, -, e⟩ | ⟨-, -, e⟩ <;> rw [e]
  · exact joined _ (.refl _)
  · exact joined _ List.eraseP_sublist
  · exact h.2

theorem joinTail_rxQueue (l : HostLink) (r : Report) : (l.joinTail r).rxQueue = l.rxQueue := by
  show (l.joinTail r).port.rxQueue = l.port.rxQueue
  rw [HostLink.joinTail_port]

theorem Keeps.joinTail (h : Keeps s t) {r : Report} (hr : r.isState = true → r ∉ t.host.reports) :
    Keeps s (t.setHost (t.host.joinTail r)) :=
  h.trans
    ⟨⟨joinTail_bounded hr, fun x => (congrArg List.length (joinTail_rxQueue ..)).trans_le x,
      id, id, id, id, id, id, id, id⟩, id⟩

protected theorem Keeps.postEvent (h : Keeps s t) (e : EventReport) : Keeps s (postEvent e t) :=
  h.joinTail (fun hs => absurd hs (by simp [Report.isState]))

protected theorem Keeps.postState (h : Keeps s t) (k : StateKind) (i : Nat) :
    Keeps s (postState k i t) := by
  unfold Machine.postState
  split
  · exact h
  · exact h.joinTail fun _ => ‹_›

protected theorem Keeps.sendReply (h : Keeps s t) (f : RxFrame) (a : Answer) :
    Keeps s (sendReply f a t) := by
  unfold Machine.sendReply handReply
  split <;> exact h.setHost (by rfl) (by exact le_rfl)

protected theorem Keeps.noteSummary (h : Keeps s t) (b : FaultSummary) : Keeps s (noteSummary b t) := by
  unfold Machine.noteSummary
  split
  · exact h
  · exact h.postState ..

/-- A record is replaced by one that is latched with class STOP only where it was. -/
protected theorem Keeps.setFaultRec (h : Keeps s t) {c : FaultCode} {r : FaultRecord}
    (hr : r.latched = true → r.cls = .stop →
      (t.faultRec c).latched = true ∧ (t.faultRec c).cls = .stop) : Keeps s (t.setFaultRec c r) := by
  refine h.setFault (classLatched_mono fun d latched cls => ?_)
  change ((t.setFaultRec c r).faultRec d).latched = true at latched
  change ((t.setFaultRec c r).faultRec d).cls = .stop at cls
  rw [State.setFaultRec_rec] at latched cls
  split at latched
  · rename_i e
    subst e
    exact hr latched (by simpa using cls)
  · exact ⟨latched, by simpa [*] using cls⟩

protected theorem Keeps.recordRaise (h : Keeps s t) (c : FaultCode) {k : FaultClass}
    (hk : k ≠ .stop) (d : FaultDetail) : Keeps s (recordRaise c k d t) :=
  (h.setFaultRec fun _ e => absurd e hk).postEvent _

protected theorem Keeps.endMomentary (h : Keeps s t) (c : FaultCode) : Keeps s (endMomentary c t) := by
  unfold Machine.endMomentary
  split
  · exact h.setFaultRec fun latched cls => ⟨latched, cls⟩
  · exact h

protected theorem Keeps.raiseQuiet (h : Keeps s t) (c : FaultCode) {k : FaultClass} (hk : k ≠ .stop)
    (d : FaultDetail) : Keeps s (raiseQuiet c k d t) :=
  ((h.recordRaise c hk d).endMomentary c).noteSummary _

protected theorem Keeps.endCond (h : Keeps s t) (c : FaultCode) : Keeps s (endCond c t) := by
  unfold Machine.endCond
  dsimp only
  split
  · split
    · exact ((h.setFaultRec fun latched _ => by cases latched).postEvent _).noteSummary _
    · exact h.setFaultRec fun latched cls => ⟨latched, cls⟩
  · exact h

protected theorem Keeps.endConds (h : Keeps s t) (cs : List FaultCode) : Keeps s (endConds cs t) :=
  h.foldl (fun u c => (Keeps.refl u).endCond c) cs

protected theorem Keeps.clearFaultTable (h : Keeps s t) : Keeps s (clearFaultTable t) :=
  (h.setFault fun _ => by
    show State.classLatched (t.setFault FaultUnit.reset) .stop = false
    rfl).noteSummary _

end Faults

end Sys2Proof.Claims

namespace Sys2Proof.Claims

open Sys2Proof.Machine

/-! ### Voices -/

section Voices

variable {s t : State}

protected theorem Keeps.putVoice (h : Keeps s t) (v : Fin 8) (w : Voice) : Keeps s (t.putVoice v w) :=
  h.setVoice _

protected theorem Keeps.putClip (h : Keeps s t) (n : Nat) (c : Option Clip) :
    Keeps s (t.putClip n c) := by
  unfold State.putClip
  split
  · exact h.setClip (by rfl) (by exact le_rfl)
  · exact h

protected theorem Keeps.tellCue (h : Keeps s t) (id : Nat) (o : CueOutcome) (r : CueReport) :
    Keeps s (tellCue id o r t) := (h.setCue (by exact le_rfl)).postEvent _

protected theorem Keeps.releasePlayOf (h : Keeps s t) (c : Option Nat) : Keeps s (releasePlayOf c t) := by
  unfold Machine.releasePlayOf releasePlay
  split
  · split
    · exact h.putClip ..
    · exact h
  · exact h

protected theorem Keeps.withdrawRefill (h : Keeps s t) (v : Fin 8) : Keeps s (withdrawRefill v t) :=
  (h.setClip (by rfl) (by exact le_rfl)).putVoice ..

protected theorem Keeps.refillTest (h : Keeps s t) (v : Fin 8) : Keeps s (refillTest v t) := by
  unfold Machine.refillTest
  dsimp only
  split
  · exact h
  · split
    · exact ((h.setClip (by rfl) (by exact le_rfl))).putVoice ..
    · exact h

protected theorem Keeps.startIdle (h : Keeps s t) (v : Fin 8) (r : StartRec) :
    Keeps s (startIdle v r t) := by
  unfold Machine.startIdle
  split
  · split
    · exact ((h.putClip ..).putVoice ..).refillTest v
    · exact h
  · exact h

protected theorem Keeps.reportFailed (h : Keeps s t) (v : Fin 8) (r : StartRec) (k : Option ClipState) :
    Keeps s (reportFailed v r k t) := by
  unfold Machine.reportFailed
  split
  · exact h.tellCue ..
  · exact h.postEvent _

protected theorem Keeps.goIdle (h : Keeps s t) (v : Fin 8) (r : VoiceEndReason) : Keeps s (goIdle v r t) :=
  (((h.releasePlayOf _).withdrawRefill v).putVoice ..).postEvent _

protected theorem Keeps.fadeEnd (h : Keeps s t) (v : Fin 8) : Keeps s (fadeEnd v t) := by
  unfold Machine.fadeEnd
  split
  · exact h.goIdle ..
  · dsimp only
    split
    · exact (h.goIdle ..).startIdle ..
    · exact (h.goIdle ..).reportFailed ..

protected theorem Keeps.fadeTest (h : Keeps s t) (v : Fin 8) : Keeps s (fadeTest v t) := by
  unfold Machine.fadeTest
  split
  · exact h.fadeEnd v
  · exact h

protected theorem Keeps.preempt (h : Keeps s t) (v : Fin 8) (r : StartRec) : Keeps s (preempt v r t) := by
  unfold Machine.preempt
  dsimp only
  split
  · exact ((h.withdrawRefill v).putVoice ..).fadeTest v
  · exact (h.putVoice ..).fadeTest v

protected theorem Keeps.takeStart (h : Keeps s t) (v : Fin 8) (r : StartRec) :
    Keeps s (takeStart v r t) := by
  unfold Machine.takeStart
  split
  · exact h.startIdle ..
  · exact h.preempt ..

protected theorem Keeps.stopVoice (h : Keeps s t) (v : Fin 8) (fade : Nat) :
    Keeps s (stopVoice v fade t) := by
  unfold Machine.stopVoice
  dsimp only
  split
  · exact h
  · exact ((h.withdrawRefill v).putVoice ..).fadeTest v
  · exact ((h.withdrawRefill v).putVoice ..).fadeTest v
  · exact (h.putVoice ..).fadeTest v
  · exact (h.putVoice ..).fadeTest v

protected theorem Keeps.gainVoice (h : Keeps s t) (v : Fin 8) (target ramp : Nat) :
    Keeps s (gainVoice v target ramp t) := by
  unfold Machine.gainVoice
  dsimp only
  split
  · split <;> exact h.putVoice ..
  · exact h

protected theorem Keeps.announce (h : Keeps s t) (c : Nat) : Keeps s (announce c t) := by
  unfold Machine.announce
  split
  · exact h.takeStart ..
  · exact h.postEvent _

end Voices

/-! ### Seats -/

section Seats

variable {s t : State}

/-- A record put in the place of the one with its address leaves the addresses as they were. -/
theorem map_addr_replace (r : SeatRecord) (l : List SeatRecord) :
    (l.map fun x => if x.addr = r.addr then r else x).map (·.addr) = l.map (·.addr) := by
  rw [List.map_map]
  refine List.map_congr_left fun x _ => ?_
  by_cases e : x.addr = r.addr <;> simp [e]

protected theorem Keeps.reportSeat (h : Keeps s t) (b a : SeatRecord) : Keeps s (reportSeat b a t) := by
  unfold Machine.reportSeat
  split
  · exact h
  · exact h.postState ..

protected theorem Keeps.putSeat (h : Keeps s t) (r : SeatRecord) : Keeps s (putSeat r t) :=
  (h.setSeat (map_addr_replace r t.seat.records)).reportSeat ..

protected theorem Keeps.mapSeats (h : Keeps s t) (f : SeatRecord → SeatRecord) : Keeps s (mapSeats f t) := by
  refine h.foldl (fun u a => ?_) _
  unfold changeSeat
  split
  · exact (Keeps.refl u).putSeat _
  · exact .refl u

protected theorem Keeps.clearPermit (h : Keeps s t) (c : PermitCause) : Keeps s (clearPermit c t) := by
  have cleared := h.setSeat (u := { t.seat with permit := false, permitCause := c }) rfl
  unfold Machine.clearPermit
  dsimp only
  split
  · exact cleared.postEvent _
  · exact cleared

protected theorem Keeps.abortCheck (h : Keeps s t) (c : CheckCause) : Keeps s (abortCheck c t) := by
  unfold Machine.abortCheck
  split
  · exact h
  · have ended := (h.setSeat (u := { t.seat with check := none }) rfl).mapSeats SeatRecord.unchecking
    dsimp only
    split
    · exact (ended.raiseQuiet _ (by decide) _).postEvent _
    · exact ended.postEvent _

protected theorem Keeps.endWindow (h : Keeps s t) (r : WindowEnd) : Keeps s (endWindow r t) := by
  unfold Machine.endWindow
  split
  · exact h
  · exact (h.setSeat (by simp [Function.comp_def])).postEvent _

protected theorem Keeps.seatLeavesHold (h : Keeps s t) (e : Bool) : Keeps s (seatLeavesHold e t) :=
  (h.abortCheck _).endWindow _

end Seats

/-! ### Motion -/

section Motions

variable {s t : State}

protected theorem Keeps.evalPause (h : Keeps s t) : Keeps s (evalPause t) := by
  unfold Machine.evalPause
  dsimp only
  split
  · exact h
  · refine Keeps.postState ?_ _ _
    split
    · exact Keeps.setVoice (h.setMotion (by rfl)) _
    · exact Keeps.setVoice (h.setMotion (by rfl)) _

protected theorem Keeps.zeroRollback (h : Keeps s t) : Keeps s (zeroRollback t) :=
  (h.setGuide (g := { t.guide with est := { t.guide.est with rollback := 0 } }) rfl).endCond _

protected theorem Keeps.outputsOff (h : Keeps s t) : Keeps s (outputsOff t) := h.setCue (by exact le_rfl)

/-- A change of motion state from PARKED is a change to PARKED or comes while READY, and a move that
begins finds no STOP-class fault latched. -/
protected theorem Keeps.changeMotion (h : Keeps s t) {new : MotionState} (resume : Bool)
    (hp : new = .parked ∨ t.mstate ≠ .parked ∨ t.isReady = true)
    (hs : new.mayMove = true → t.mstate.mayMove = true ∨ t.classLatched .stop = false) :
    Keeps s (changeMotion new resume t) := by
  unfold Machine.changeMotion
  dsimp only
  refine Keeps.evalPause ?_
  have entered : Keeps s (postState .motionState 0 (t.setMotion (t.motion.enter new resume))) :=
    (h.setMotionTo hp hs).postState ..
  generalize Machine.postState .motionState 0 (t.setMotion (t.motion.enter new resume)) = a at *
  have rolled : Keeps s (if new.noRollback then zeroRollback a else a) := by
    split
    · exact entered.zeroRollback
    · exact entered
  generalize (if new.noRollback then zeroRollback a else a) = b at *
  have left : Keeps s (if t.mstate = .hold then seatLeavesHold (decide (new = .estop)) b else b) := by
    split
    · exact rolled.seatLeavesHold _
    · exact rolled
  split
  · exact left.outputsOff
  · exact left

protected theorem Keeps.moveTo (h : Keeps s t) {new : MotionState}
    (hp : new = .parked ∨ t.mstate ≠ .parked ∨ t.isReady = true)
    (hs : new.mayMove = true → t.mstate.mayMove = true ∨ t.classLatched .stop = false) :
    Keeps s (moveTo new t) := h.changeMotion _ hp hs

protected theorem Keeps.setStopRecord (h : Keeps s t) (r : Option StopRecord) :
    Keeps s (setStopRecord r t) := h.setMotion (by rfl)

protected theorem Keeps.furtherCause (h : Keeps s t) : Keeps s (furtherCause t) := h.setMotion (by rfl)

/-- A stop may be taken in every state but PARKED. -/
protected theorem Keeps.takeStop (h : Keeps s t) {new : MotionState} (hn : new.mayMove = false)
    (cause : StopCause) (hp : t.mstate ≠ .parked) : Keeps s (takeStop new cause t) := by
  have moved := (h.setStopRecord (some (newStopRecord cause t))).moveTo (new := new) (.inr (.inl hp))
    (fun e => absurd (hn.symm.trans e) (by decide))
  unfold Machine.takeStop
  dsimp only
  split
  · exact moved.postEvent _
  · exact moved

protected theorem Keeps.stopCause (h : Keeps s t) (cause : StopCause) : Keeps s (stopCause cause t) := by
  unfold Machine.stopCause
  split <;> rename_i m
  all_goals first | exact h.takeStop rfl cause (by simp [m]) | exact h.furtherCause | exact h

protected theorem Keeps.estopCause (h : Keeps s t) : Keeps s (estopCause t) := by
  unfold Machine.estopCause
  split <;> rename_i m
  all_goals
    first
    | exact h.takeStop rfl _ (by simp [m])
    | exact h.furtherCause.moveTo (.inr (.inl (by simp [m]))) (fun e => by cases e)
    | exact h.furtherCause
    | exact h

@[simp] theorem takeStop_mstate (new : MotionState) (cause : StopCause) (t : State) :
    (takeStop new cause t).mstate = new := by
  unfold Machine.takeStop Machine.moveTo
  dsimp only
  split <;> simp [creepEnd]

/-- The motion state the ESTOP input leaves (R64). -/
theorem estopCause_mstate (t : State) :
    (estopCause t).mstate = if t.mstate = .parked then .parked else .estop := by
  unfold Machine.estopCause
  split <;> rename_i m <;> simp [m, Machine.moveTo]

/-- The motion state a raising of class STOP leaves is none in which the vehicle may move (R58, R64). -/
theorem actByClass_stop_mayMove (c : FaultCode) (t : State) :
    (actByClass c .stop t).mstate.mayMove = false := by
  unfold actByClass
  dsimp only
  split
  · rw [estopCause_mstate]
    split <;> rfl
  · rw [(stopCause_motion _ t).1]
    cases t.mstate <;> rfl

/-- A fault raised with class STOP finds the vehicle stopped, and one of another class latches no STOP. -/
protected theorem Keeps.raiseAs (h : Keeps s t) (c : FaultCode) (k : FaultClass) (d : FaultDetail) :
    Keeps s (raiseAs c k d t) := by
  by_cases hk : k = .stop
  · subst hk
    have recorded : KeepsParts s (recordRaise c .stop d t) :=
      (h.toKeepsParts.trans (KeepsParts.setFault t _)).trans
        ((Keeps.refl (t.setFaultRec c _)).postEvent _).toKeepsParts
    have acted : Keeps (recordRaise c .stop d t) (actByClass c .stop (recordRaise c .stop d t)) := by
      unfold actByClass
      dsimp only
      split
      · exact (Keeps.refl _).estopCause
      · exact (Keeps.refl _).stopCause _
    refine ⟨recorded.trans ((acted.endMomentary c).noteSummary t.summary).toKeepsParts,
      fun _ moves => ?_⟩
    have stands : (raiseAs c .stop d t).mstate =
        (actByClass c .stop (recordRaise c .stop d t)).mstate := by
      simp [Machine.raiseAs]
    rw [stands, actByClass_stop_mayMove] at moves
    cases moves
  · have quiet : raiseAs c k d t = raiseQuiet c k d t := by
      unfold Machine.raiseAs actByClass Machine.raiseQuiet
      cases k
      · exact absurd rfl hk
      · rfl
      · rfl
    rw [quiet]
    exact h.raiseQuiet c hk d

protected theorem Keeps.raiseFault (h : Keeps s t) (c : FaultCode) (d : FaultDetail) :
    Keeps s (raiseFault c d t) := h.raiseAs ..

protected theorem Keeps.enterStopped (h : Keeps s t) (hp : t.mstate ≠ .parked) :
    Keeps s (enterStopped t) :=
  (h.moveTo (.inr (.inl hp)) (fun e => by cases e)).postEvent _

end Motions

end Sys2Proof.Claims

namespace Sys2Proof.Claims

open Sys2Proof.Machine

/-! ### Zones -/

section Zones

variable {s t : State}

/-- The table changes and the queues do not; its zones are some of those before. -/
theorem Keeps.setTable (h : Keeps s t) {z : ZoneUnit}
    (ht : (z.table.map (·.zone)).Subperm (t.zone.table.map (·.zone)))
    (hq : (z.mailbox, z.long) = (t.zone.mailbox, t.zone.long)) :
    Keeps s (t.setZone z) := by
  refine h.setZoneWithin (fun ⟨length, nodup⟩ => ⟨?_, ?_⟩) fun bounds => ?_
  · simpa using ht.length_le.trans (by simpa using length)
  · obtain ⟨l, perm, sub⟩ := ht
    exact perm.nodup_iff.1 (nodup.sublist sub)
  · obtain ⟨hm, hl⟩ := Prod.mk.injEq .. ▸ hq
    rw [hm, hl]
    exact bounds

/-- The queues change within their bounds and the table does not. -/
theorem Keeps.setQueues (h : Keeps s t) {z : ZoneUnit}
    (hm : t.zone.mailbox.length ≤ 4 → z.mailbox.length ≤ 4)
    (hl : t.zone.long.length ≤ 16 → z.long.length ≤ 16)
    (ht : z.table = t.zone.table) : Keeps s (t.setZone z) := by
  refine h.setZoneWithin (fun bounds => ?_) fun ⟨mail, long⟩ => ⟨hm mail, hl long⟩
  rw [ht]
  exact bounds

theorem insertRes_perm (key : Nat → Int) (r : Reservation) (l : List Reservation) :
    (insertRes key r l).Perm (r :: l) := by
  induction l with
  | nil => exact .refl _
  | cons x l ih =>
    unfold insertRes
    split
    · exact .refl _
    · exact (ih.cons x).trans (.swap ..)

theorem sortRes_perm (key : Nat → Int) (l : List Reservation) :
    (l.foldr (insertRes key) []).Perm l := by
  induction l with
  | nil => exact .refl _
  | cons x l ih => exact (insertRes_perm key x _).trans (ih.cons x)

protected theorem Keeps.sortTable (h : Keeps s t) : Keeps s (sortTable t) :=
  h.setTable ((sortRes_perm _ _).map _).subperm (by rfl)

/-- The zones of a table in which the entry of a zone is replaced by one of that zone. -/
theorem map_zone_replace {z : Nat} {f : Reservation → Reservation}
    (hf : ∀ r, r.zone = z → (f r).zone = z) (l : List Reservation) :
    (l.map fun r => if r.zone = z then f r else r).map (·.zone) = l.map (·.zone) := by
  rw [List.map_map]
  refine List.map_congr_left fun x _ => ?_
  by_cases e : x.zone = z <;> simp [e, hf x]

protected theorem Keeps.modEntry (h : Keeps s t) {z : Nat} {f : Reservation → Reservation}
    (hf : ∀ r, r.zone = z → (f r).zone = z) : Keeps s (modEntry z f t) :=
  h.setTable (by rw [map_zone_replace hf]) (by rfl)

protected theorem Keeps.reportTable (h : Keeps s t) : Keeps s (reportTable t) := h.postState ..

protected theorem Keeps.nextTag (h : Keeps s t) : Keeps s (nextTag t) := h.setZone (by rfl)

protected theorem Keeps.reportZone (h : Keeps s t) (r : ZoneReport) : Keeps s (reportZone r t) :=
  h.postEvent _

protected theorem Keeps.removeEntry (h : Keeps s t) (z : Nat) : Keeps s (removeEntry z t) := by
  refine Keeps.reportTable
    (h.setZoneWithin (fun ⟨length, nodup⟩ => ⟨?_, ?_⟩) fun ⟨mail, long⟩ => ⟨?_, long⟩)
  · exact (List.length_filter_le ..).trans length
  · exact nodup.sublist (List.filter_sublist.map _)
  · simpa using mail

theorem mailPut_length {m : Mail} {box box' : List Mail} (h : mailPut m box = some box')
    (hl : box.length ≤ 4) : box'.length ≤ 4 := by
  unfold mailPut at h
  split at h
  · cases h
    simpa using hl
  · split at h <;> cases h
    rename_i room
    simp only [List.length_append, List.length_singleton, Config.mailboxMax] at room ⊢
    omega

/-- A mailbox that a frame was put in, the link not being stopped, holds at most 4. -/
theorem mailPut_started_length {p : Prop} [Decidable p] {m : Mail} {box box' : List Mail}
    (h : (if p then none else mailPut m box) = some box') (hl : box.length ≤ 4) : box'.length ≤ 4 := by
  split at h
  · cases h
  · exact mailPut_length h hl

protected theorem Keeps.sendEntry (h : Keeps s t) (z : Nat) : Keeps s (sendEntry z t) := by
  unfold Machine.sendEntry
  split
  · exact h
  · split
    · rename_i box put
      have mailed : Keeps s (t.setZone { t.zone with mailbox := box }) :=
        h.setQueues (mailPut_started_length put) id (by rfl)
      exact mailed.modEntry (by exact fun _ e => e)
    · exact h.modEntry (by exact fun _ e => e)

protected theorem Keeps.serveSendDue (h : Keeps s t) : Keeps s (serveSendDue t) := by
  refine h.foldl (fun u z => ?_) _
  unfold serveEntry
  split
  · exact (Keeps.refl u).sendEntry z
  · exact .refl u

protected theorem Keeps.returnRelease (h : Keeps s t) (z : Nat) (tag : Byte) :
    Keeps s (returnRelease z tag t) := by
  unfold Machine.returnRelease
  split
  · rename_i put
    exact h.setQueues (mailPut_started_length put) id (by rfl)
  · exact Keeps.reportZone (h.setZone (by rfl)) _

protected theorem Keeps.closeAck (h : Keeps s t) (id : Nat) (tag : Byte) : Keeps s (closeAck id tag t) :=
  h.setCue (List.length_filter_le ..)

protected theorem Keeps.cueNotSent (h : Keeps s t) (f : SceneFrame) (n : Option Nat) :
    Keeps s (cueNotSent f n t) := (h.closeAck ..).tellCue ..

protected theorem Keeps.cueSent (h : Keeps s t) (f : SceneFrame) : Keeps s (cueSent f t) :=
  h.setCue (by simp)

protected theorem Keeps.putScene (h : Keeps s t) (f : SceneFrame) : Keeps s (putScene f t) := by
  unfold Machine.putScene
  split
  · rename_i room
    refine h.setQueues id (fun _ => ?_) (by rfl)
    simpa using Nat.succ_le_of_lt room.1
  · exact h.cueNotSent ..

theorem displaceScene_length {a : LongFrame} {l : List LongFrame} {p : SceneFrame × List LongFrame}
    (h : displaceScene a l = some p) : p.2.length = l.length := by
  induction l generalizing p with
  | nil => cases h
  | cons x l ih =>
    have later : ∀ q, (displaceScene a l).map (fun p => (p.1, x :: p.2)) = some q →
        q.2.length = (x :: l).length := by
      intro q hq
      obtain ⟨r, hr, rfl⟩ := Option.map_eq_some_iff.1 hq
      simp [ih hr]
    cases x with
    | scene f =>
      cases h
      rfl
    | beacon _ => exact later p h
    | revokeAccept _ => exact later p h
    | revokeRefuse _ _ => exact later p h

protected theorem Keeps.putAnswer (h : Keeps s t) (a : LongFrame) : Keeps s (putAnswer a t) := by
  unfold Machine.putAnswer
  split
  · rename_i room
    refine h.setQueues id (fun _ => ?_) (by rfl)
    simpa using Nat.succ_le_of_lt room
  · split
    · rename_i rest displaced
      have placed : Keeps s (t.setZone { t.zone with long := rest.reverse }) :=
        h.setQueues id (fun long => by simpa [displaceScene_length displaced] using long) (by rfl)
      exact placed.cueNotSent ..
    · exact h.setZone (by rfl)

protected theorem Keeps.putBeacon (h : Keeps s t) (b : BeaconFrame) : Keeps s (putBeacon b t) := by
  unfold Machine.putBeacon
  split
  · exact h.setQueues id (by simp) (by rfl)
  · split
    · rename_i room
      refine h.setQueues id (fun _ => ?_) (by rfl)
      simpa using Nat.succ_le_of_lt room
    · exact h.setZone (by rfl)

protected theorem Keeps.recomputeHold (h : Keeps s t) : Keeps s (recomputeHold t) := h.setZone (by rfl)

protected theorem Keeps.testF10 (h : Keeps s t) (d : FaultDetail) : Keeps s (testF10 d t) := by
  unfold Machine.testF10
  split
  · split
    · exact h
    · exact h.raiseAs ..
  · exact h.endCond _

/-- A zone is claimed only where it has no entry and the table has room (R71). -/
protected theorem Keeps.claimZone (h : Keeps s t) {z : Nat} (none : t.entryOf z = none)
    (room : t.zone.table.length < Config.tableMax) : Keeps s (claimZone z t) := by
  have absent : ∀ r ∈ t.zone.table, r.zone ≠ z := by
    simpa [State.entryOf] using none
  refine Keeps.sendEntry (Keeps.reportTable (Keeps.sortTable ?_)) z
  refine h.nextTag.setZoneWithin (fun ⟨_, nodup⟩ => ⟨?_, ?_⟩) id
  · simpa using Nat.succ_le_of_lt room
  · simp only [List.map_append, List.map_cons, List.map_nil]
    exact List.nodup_append.2 ⟨nodup, by simp, by
      rintro a ha b hb rfl
      obtain ⟨r, hr, rfl⟩ := List.mem_map.1 ha
      exact absent r hr (List.mem_singleton.1 hb)⟩

protected theorem Keeps.restartClaim (h : Keeps s t) (z : Nat) : Keeps s (restartClaim z t) := by
  have fresh := h.nextTag.modEntry (z := z)
    (f := fun r => { r with state := .requested, tag := t.zone.tagCtr, deny := 0, resend := 0,
                            timer := .stopped, outstanding := false, failed := false, sendDue := false })
    fun _ e => e
  unfold Machine.restartClaim
  dsimp only
  refine Keeps.sendEntry ?_ z
  split
  · exact fresh
  · exact fresh.reportTable

protected theorem Keeps.startRelease (h : Keeps s t) (z : Nat) : Keeps s (startRelease z t) :=
  (Keeps.reportTable (h.nextTag.modEntry (by exact fun _ e => e))).sendEntry z

protected theorem Keeps.claimTest (h : Keeps s t) : Keeps s (claimTest t) := by
  unfold Machine.claimTest
  split
  · exact h
  · rename_i fz _
    have first : Keeps s
        (if (t.mstate = .hold ∨ t.mstate = .run) ∧ t.entryOf fz = none ∧
          t.zone.table.length < Config.tableMax then claimZone fz t else t) := by
      split
      · rename_i c
        exact h.claimZone c.2.1 c.2.2
      · exact h
    generalize (if (t.mstate = .hold ∨ t.mstate = .run) ∧ t.entryOf fz = none ∧
          t.zone.table.length < Config.tableMax then claimZone fz t else t) = u at *
    dsimp only
    split
    · exact first
    · rename_i found
      split
      · rename_i room
        have none := List.find?_some found
        exact first.claimZone (by simpa using none) room.2
      · exact first

protected theorem Keeps.releaseOne (h : Keeps s t) (z : Nat) : Keeps s (releaseOne z t) := by
  unfold Machine.releaseOne
  split
  · split
    · split
      · exact h.startRelease z
      · split
        · exact h.startRelease z
        · exact h.removeEntry z
      · exact h.removeEntry z
      · exact h.removeEntry z
      · exact h
    · exact h
  · exact h

protected theorem Keeps.releaseTest (h : Keeps s t) : Keeps s (releaseTest t) :=
  (h.foldl (fun u z => (Keeps.refl u).releaseOne z) _).testF10 _

protected theorem Keeps.violationTest (h : Keeps s t) (u : PosUpdate) : Keeps s (violationTest u t) := by
  unfold Machine.violationTest
  split
  · split
    · exact h
    · exact (h.foldl (fun v x => (Keeps.refl v).reportZone _) _).raiseFault ..
  · exact h

protected theorem Keeps.zoneUpdate (h : Keeps s t) (u : PosUpdate) : Keeps s (zoneUpdate u t) := by
  have tested : Keeps s (if (sortTable t).claimsNow u then claimTest (releaseTest (sortTable t))
      else sortTable t) := by
    split
    · exact h.sortTable.releaseTest.claimTest
    · exact h.sortTable
  exact tested.recomputeHold.violationTest u

protected theorem Keeps.validFrame (h : Keeps s t) : Keeps s (validFrame t) := by
  unfold Machine.validFrame
  dsimp only
  split
  · exact h.setZone (by rfl)
  · exact Keeps.testF10 (h.setZone (by rfl)) _

protected theorem Keeps.countStale (h : Keeps s t) : Keeps s (countStale t) := h.setZone (by rfl)

protected theorem Keeps.countDiscard (h : Keeps s t) : Keeps s (countDiscard t) := h.setZone (by rfl)

protected theorem Keeps.emptyQueues (h : Keeps s t) (w : Bool) : Keeps s (emptyQueues w t) := by
  have emptied : Keeps s (t.setZone { t.zone with mailbox := [], long := [] }) :=
    h.setQueues (by simp) (by simp) (by rfl)
  refine emptied.foldl (fun u f => ?_) _
  unfold dropLong
  split
  · exact (Keeps.refl u).cueNotSent ..
  · exact .refl u

protected theorem Keeps.emptyTable (h : Keeps s t) : Keeps s (emptyTable t) := by
  unfold Machine.emptyTable
  split
  · exact h
  · exact Keeps.reportTable (h.setTable List.nil_subperm (by rfl))

protected theorem Keeps.startLink (h : Keeps s t) : Keeps s (startLink t) :=
  h.setQueues (by simp) id (by rfl)

protected theorem Keeps.stopLink (h : Keeps s t) : Keeps s (stopLink t) :=
  (Keeps.emptyQueues (h.setZone (by rfl)) _).testF10 _

end Zones

/-! ### Cues -/

section Cues

variable {s t : State}

protected theorem Keeps.writeFlag (h : Keeps s t) (i : Fin 32) (v : Bool) : Keeps s (writeFlag i v t) := by
  unfold Machine.writeFlag
  split
  · exact h
  · exact (h.setCue (by exact le_rfl)).postState ..

protected theorem Keeps.setOutput (h : Keeps s t) (o : Fin 8) (x : OutputState) :
    Keeps s (setOutput o x t) := h.setCue (by exact le_rfl)

protected theorem Keeps.markSpan (h : Keeps s t) (lo hi : Nat) (o : CueOutcome) :
    Keeps s (markSpan lo hi o t) := h.setCue (by exact le_rfl)

protected theorem Keeps.newLap (h : Keeps s t) (lap : Half) : Keeps s (newLap lap t) := by
  unfold Machine.newLap
  dsimp only
  split
  · exact h.setCue (by exact le_rfl)
  · exact ((h.markSpan ..).postEvent _).setCue (by exact le_rfl)

protected theorem Keeps.placeCues (h : Keeps s t) (cause : PlacingCause) (front : Nat) :
    Keeps s (placeCues cause front t) := by
  unfold Machine.placeCues
  dsimp only
  split
  · exact h
  · exact Keeps.postEvent ((h.markSpan ..).setCue (by exact le_rfl)) _

protected theorem Keeps.fireScene (h : Keeps s t) (id : Nat) (late : Bool) (controller number : Nat)
    (ack : Bool) : Keeps s (fireScene id late controller number ack t) := by
  have tagged : Keeps s (takeSceneTag t) := h.setCue (by exact le_rfl)
  unfold Machine.fireScene
  dsimp only
  refine Keeps.putScene ?_ _
  split
  · split
    · rename_i room
      exact tagged.setCueWithin fun _ => by simpa using Nat.succ_le_of_lt room
    · exact (tagged.setCue (by exact le_rfl)).tellCue ..
  · exact tagged

protected theorem Keeps.fireCue (h : Keeps s t) (id : Nat) (late : Bool) (k : CueKind) :
    Keeps s (fireCue id late k t) := by
  unfold Machine.fireCue cueVoiceStart
  split
  · split
    · split
      · exact h.takeStart ..
      · exact h.tellCue ..
    · exact h
  · split
    · exact h.stopVoice ..
    · exact h
  · split
    · exact h.gainVoice ..
    · exact h
  · exact h.fireScene ..
  · split
    · exact h.setOutput ..
    · exact h
  · split
    · exact h.writeFlag ..
    · exact h

protected theorem Keeps.takeCue (h : Keeps s t) (i : Nat) (c : Cue) (front : Nat) :
    Keeps s (takeCue i c front t) := by
  have marked := (h.markSpan i (i + 1) (t.judgeCue c front)).setCue
    (u := { (Machine.markSpan i (i + 1) (t.judgeCue c front) t).cue with pointer := i + 1 }) le_rfl
  unfold Machine.takeCue
  dsimp only
  split <;> split
  · exact marked.fireCue ..
  · exact (marked.postEvent _).fireCue ..
  · exact marked
  · exact marked.postEvent _

protected theorem Keeps.takeCues (h : Keeps s t) (n front : Nat) : Keeps s (takeCues n front t) := by
  induction n generalizing t with
  | zero => exact h
  | succ n ih =>
    unfold Machine.takeCues
    split
    · exact h
    · split
      · exact ih (h.takeCue ..)
      · exact h

protected theorem Keeps.cueUpdate (h : Keeps s t) (u : PosUpdate) : Keeps s (cueUpdate u t) := by
  unfold Machine.cueUpdate
  split
  · exact h
  · split
    · exact h
    · dsimp only
      have lapped : Keeps s (if 0 < t.lapDiff u.lapAfter then newLap u.lapAfter t else t) := by
        split
        · exact h.newLap _
        · exact h
      generalize (if 0 < t.lapDiff u.lapAfter then newLap u.lapAfter t else t) = v at *
      split
      · exact lapped.placeCues ..
      · split
        · exact lapped.takeCues ..
        · exact lapped

end Cues

end Sys2Proof.Claims

namespace Sys2Proof.Claims

open Sys2Proof.Machine

/-! ### The motion unit's work on an update -/

section Drives

variable {s t : State}

protected theorem Keeps.updateStill (h : Keeps s t) : Keeps s (updateStill t) := h.setMotion (by rfl)

/-- HOLD is entered from a state in which the vehicle may move. -/
theorem Keeps.moveFrom (h : Keeps s t) {new : MotionState} (ht : t.mstate.mayMove = true) :
    Keeps s (moveTo new t) :=
  h.moveTo (.inr (.inl fun p => by simp [p, MotionState.mayMove] at ht)) fun _ => .inl ht

protected theorem Keeps.creepTest (h : Keeps s t) (u : PosUpdate) : Keeps s (creepTest u t) := by
  unfold Machine.creepTest
  split
  · rename_i creeps
    have grown : Keeps s (t.setMotion
        { t.motion with
          record :=
            { t.motion.record with
              creepDist := min Config.creepMax (t.motion.record.creepDist + u.movement.natAbs) } }) :=
      (h.setMotion (by rfl))
    have held := grown.moveFrom (new := .hold) (by simp [creeps, MotionState.mayMove])
    dsimp only
    split
    · exact held.postEvent _
    · split
      · exact held.postEvent _
      · exact grown
  · exact h

protected theorem Keeps.stoppedTest (h : Keeps s t) : Keeps s (stoppedTest t) := by
  unfold Machine.stoppedTest
  split
  · rename_i c
    exact h.enterStopped (by simp [c.1])
  · exact h

protected theorem Keeps.armingTest (h : Keeps s t) : Keeps s (armingTest t) := by
  unfold Machine.armingTest
  split
  · exact h.setMotion (by rfl)
  · exact h

protected theorem Keeps.arrivalTest (h : Keeps s t) : Keeps s (arrivalTest t) := by
  unfold Machine.arrivalTest
  split
  · rename_i c
    have runs : (t.setMotion { t.motion with armed := none }).mstate = .run := c.1
    have disarmed : Keeps s (t.setMotion { t.motion with armed := none }) := h.setMotion (by rfl)
    exact disarmed.changeMotion _ (.inr (.inl (by rw [runs]; decide)))
      fun _ => .inl (by rw [runs]; rfl)
  · exact h

protected theorem Keeps.speedDemand (h : Keeps s t) : Keeps s (speedDemand t) := by
  unfold Machine.speedDemand
  dsimp only
  split <;> exact h.setMotion (by rfl)

protected theorem Keeps.missTest (h : Keeps s t) : Keeps s (missTest t) := by
  unfold Machine.missTest
  split
  · split
    · exact h
    · dsimp only
      split
      · exact Keeps.raiseFault (h.setMotion (by rfl)) ..
      · exact h.setMotion (by rfl)
  · exact h

protected theorem Keeps.sendDemand (h : Keeps s t) : Keeps s (sendDemand t) := h.setMotion (by rfl)

protected theorem Keeps.motionUpdate (h : Keeps s t) (u : PosUpdate) : Keeps s (motionUpdate u t) := by
  unfold Machine.motionUpdate
  split
  · exact h
  · exact ((((((h.updateStill.creepTest u).stoppedTest).armingTest).arrivalTest).evalPause).speedDemand
      |>.missTest).sendDemand

protected theorem Keeps.discardFeedback (h : Keeps s t) : Keeps s (discardFeedback t) :=
  h.setMotion (by rfl)

protected theorem Keeps.feedbackRecord (h : Keeps s t) (f : FeedbackFields) :
    Keeps s (feedbackRecord f t) := by
  unfold Machine.feedbackRecord
  dsimp only
  split
  · exact Keeps.endCond (h.setMotion (by rfl)) _
  · split
    · exact h.setMotion (by rfl)
    · exact Keeps.raiseFault (h.setMotion (by rfl)) ..

protected theorem Keeps.trackingTest (h : Keeps s t) (f : FeedbackFields) (d : SentDemand) :
    Keeps s (trackingTest f d t) := by
  unfold Machine.trackingTest
  dsimp only
  split
  · split
    · exact Keeps.raiseFault (h.setMotion (by rfl)) ..
    · exact h.setMotion (by rfl)
  · exact Keeps.endCond (h.setMotion (by rfl)) _

protected theorem Keeps.answerDemand (h : Keeps s t) (d : SentDemand) : Keeps s (answerDemand d t) :=
  Keeps.endCond (h.setMotion (by rfl)) _

protected theorem Keeps.restartDrive (h : Keeps s t) : Keeps s (restartDrive t) := by
  unfold Machine.restartDrive
  split
  · exact Keeps.endConds (h.setMotion (by rfl)) _
  · exact h

end Drives

/-! ### Guidance -/

section Guidance

variable {s t : State}

protected theorem Keeps.startGuideTimer (h : Keeps s t) : Keeps s (startGuideTimer t) :=
  Keeps.endCond (h.setGuide (by rfl)) _

protected theorem Keeps.stopGuideTimer (h : Keeps s t) : Keeps s (stopGuideTimer t) :=
  Keeps.endCond (h.setGuide (by rfl)) _

protected theorem Keeps.readOdometer (h : Keeps s t) : Keeps s (readOdometer t) := h.setGuide (by rfl)

protected theorem Keeps.updateRollback (h : Keeps s t) (m : Int) : Keeps s (updateRollback m t) := by
  unfold Machine.updateRollback
  dsimp only
  split
  · exact h.zeroRollback
  · split
    · split
      · exact h.setGuide (by rfl)
      · exact Keeps.raiseFault (h.setGuide (by rfl)) ..
    · exact Keeps.endCond (h.setGuide (by rfl)) _

protected theorem Keeps.odometry (h : Keeps s t) : Keeps s (odometry t) :=
  Keeps.updateRollback (h.readOdometer.setGuide (by rfl)) _

protected theorem Keeps.takeReading (h : Keeps s t) (g : GuideSample) : Keeps s (takeReading g t) := by
  unfold Machine.takeReading
  dsimp only
  split
  · exact Keeps.endCond (h.setGuide (by rfl)) _
  · split
    · exact Keeps.raiseFault (h.setGuide (by rfl)) ..
    · exact h.setGuide (by rfl)

protected theorem Keeps.setEst (h : Keeps s t) (e : Estimate) : Keeps s (setEst e t) := h.setGuide (by rfl)

protected theorem Keeps.reportPosition (h : Keeps s t) : Keeps s (reportPosition t) := h.postState ..

protected theorem Keeps.losePosition (h : Keeps s t) (c : LostCause) : Keeps s (losePosition c t) :=
  ((h.setEst _).raiseFault ..).reportPosition

protected theorem Keeps.acceptMarker (h : Keeps s t) (eps : Int) : Keeps s (acceptMarker eps t) :=
  (h.setEst _).endCond _

protected theorem Keeps.mismatchMarker (h : Keeps s t) (code : Code) (pos : Nat) (eps : Int) :
    Keeps s (mismatchMarker code pos eps t) := by
  unfold Machine.mismatchMarker
  dsimp only
  split
  · exact (((h.setEst _).raiseFault ..).postEvent _).losePosition _
  · exact ((((h.setEst _).raiseFault ..).postEvent _).setEst _).reportPosition

protected theorem Keeps.sampleMarker (h : Keeps s t) (m : Option Code) : Keeps s (sampleMarker m t).1 := by
  unfold Machine.sampleMarker handleMarker
  split
  · split
    · exact (h.postEvent _).raiseFault ..
    · dsimp only
      split
      · split
        · exact ((h.setEst _).acceptMarker _).reportPosition
        · exact (h.setEst _).mismatchMarker ..
      · exact (((h.setEst _).acceptMarker _).postEvent _).reportPosition
  · exact h

protected theorem Keeps.gapTest (h : Keeps s t) : Keeps s (gapTest t) := by
  unfold Machine.gapTest
  split
  · exact h.losePosition _
  · exact h

/-- The demand moved toward a value within the range stays within the range (R28). -/
theorem steeringNext_delta_natAbs (x : Steering) (ff fb : Int) {range slew : Nat}
    (h : x.delta.natAbs ≤ range) : (x.next ff fb range slew).delta.natAbs ≤ range := by
  simp only [Steering.next, clampInt]
  omega

protected theorem Keeps.steer (h : Keeps s t) : Keeps s (steer t) := by
  unfold Machine.steer
  split
  · exact h.trans ⟨⟨id, id, id, id, id, id, id, steeringNext_delta_natAbs _ _ _, id, id⟩, id⟩
  · exact h

protected theorem Keeps.handOn (h : Keeps s t) (o : UnitOrder) (u : PosUpdate) : Keeps s (handOn o u t) := by
  unfold Machine.handOn runUnits
  cases o
  · exact ((h.motionUpdate u).zoneUpdate u).cueUpdate u
  · exact ((h.motionUpdate u).cueUpdate u).zoneUpdate u
  · exact ((h.zoneUpdate u).motionUpdate u).cueUpdate u
  · exact ((h.zoneUpdate u).cueUpdate u).motionUpdate u
  · exact ((h.cueUpdate u).motionUpdate u).zoneUpdate u
  · exact ((h.cueUpdate u).zoneUpdate u).motionUpdate u

protected theorem Keeps.sampleArrival (h : Keeps s t) (g : GuideSample) (o : UnitOrder) :
    Keeps s (sampleArrival g o t) :=
  (((h.startGuideTimer.odometry.takeReading g).sampleMarker g.marker).gapTest.steer).handOn ..

protected theorem Keeps.setPosition (h : Keeps s t) (o : UnitOrder) (front : Nat) :
    Keeps s (setPosition o front t).1 := by
  unfold Machine.setPosition
  split_ifs
  · exact h
  · exact h
  · exact h
  · exact h
  · exact (((h.setEst _).endConds _).reportPosition).handOn ..

end Guidance

/-! ### Motion commands -/

section MotionCommands

variable {s t : State}

protected theorem Keeps.enableDrive (h : Keeps s t) : Keeps s (enableDrive t).1 := by
  unfold Machine.enableDrive
  split_ifs with _ _ ready _ latched
  · exact h
  · exact h
  · exact h
  · exact h
  · exact h
  · have stop : t.classLatched .stop = false := by
      simp only [Bool.or_eq_true, not_or] at latched
      exact Bool.eq_false_iff.2 latched.1
    exact (h.setStopRecord none).moveTo (.inr (.inr (Bool.of_not_eq_false ready))) fun _ => .inr stop

protected theorem Keeps.disableDrive (h : Keeps s t) : Keeps s (disableDrive t).1 := by
  unfold Machine.disableDrive
  split
  · exact h
  · exact h
  · exact h
  · exact h
  · exact h
  · exact h.moveTo (.inl rfl) fun e => by cases e
  · exact h.moveTo (.inl rfl) fun e => by cases e

protected theorem Keeps.judgeDispatch (h : Keeps s t) (c : CommandSource) :
    Keeps s (judgeDispatch c t).1 := by
  unfold Machine.judgeDispatch
  split_ifs with _ hold
  · exact h
  · exact h
  · exact h
  · exact h
  · exact h
  · have holds : t.mstate = .hold := not_not.1 hold
    have counted : Keeps s (t.setMotion
        { t.motion with
          armed := none
          record := { t.motion.record with dispatchCount := t.motion.record.dispatchCount + 1 } }) :=
      (h.setMotion (by rfl))
    exact (counted.moveFrom (by simp [holds, MotionState.mayMove])).postEvent _

protected theorem Keeps.judgeHold (h : Keeps s t) : Keeps s (judgeHold t).1 := by
  unfold Machine.judgeHold
  split <;> rename_i m
  · exact h.moveFrom (by simp [m, MotionState.mayMove])
  · exact (h.moveFrom (by simp [m, MotionState.mayMove])).postEvent _
  · exact h
  · exact h
  · exact h
  · exact h
  · exact h

protected theorem Keeps.judgeResume (h : Keeps s t) : Keeps s (judgeResume t).1 := by
  unfold Machine.judgeResume
  split_ifs with _ hold
  · exact h
  · exact h
  · exact h
  · exact h
  · exact h
  · exact h
  · exact h.moveFrom (by simp [not_not.1 hold, MotionState.mayMove])

protected theorem Keeps.judgeStop (h : Keeps s t) : Keeps s (judgeStop t).1 := by
  unfold Machine.judgeStop
  split
  · exact h.stopCause _
  · exact h.stopCause _
  · exact h.stopCause _
  · exact h.stopCause _
  · exact h.stopCause _
  · exact h.stopCause _
  · exact h

protected theorem Keeps.clearStop (h : Keeps s t) : Keeps s (clearStop t).1 := by
  unfold Machine.clearStop
  split_ifs with _ stopped latched
  · exact h
  · exact h
  · exact h
  · have stop : t.classLatched .stop = false := Bool.eq_false_iff.2 latched
    have st : (setStopRecord none t).mstate = .stopped := not_not.1 stopped
    exact (h.setStopRecord none).moveTo (.inr (.inl (by rw [st]; decide))) fun _ => .inr stop

protected theorem Keeps.judgeCreep (h : Keeps s t) : Keeps s (judgeCreep t).1 := by
  unfold Machine.judgeCreep
  split_ifs with _ hold
  · exact h
  · exact h
  · exact h
  · exact h
  · have begun : Keeps s (t.setMotion
        { t.motion with record := { t.motion.record with creepDist := 0 } }) := h.setMotion (by rfl)
    exact begun.moveFrom (by simp [not_not.1 hold, MotionState.mayMove])

protected theorem Keeps.waysideCommand (h : Keeps s t) (c : MotionCommand) {judge : State → State × Answer}
    (hj : ∀ u, Keeps u (judge u).1) : Keeps s (waysideCommand c judge t) :=
  (h.trans (hj t)).postEvent _

end MotionCommands

end Sys2Proof.Claims

namespace Sys2Proof.Claims

open Sys2Proof.Machine

/-! ### Zone commands -/

section ZoneCommands

variable {s t : State}

protected theorem Keeps.takeGrant (h : Keeps s t) (z : Nat) (tag : Byte) : Keeps s (takeGrant z tag t) := by
  unfold Machine.takeGrant
  split
  · exact (h.returnRelease ..).reportZone _
  · split_ifs
    · have granted : Keeps s (modEntry z Reservation.granted t) := h.modEntry (by exact fun _ e => e)
      exact granted.reportTable.recomputeHold.testF10 _
    · exact h
    · exact h.reportZone _
    · exact (h.returnRelease ..).reportZone _

theorem denied_zone (r : Reservation) (limit base : Nat) : (r.denied limit base).zone = r.zone := by
  unfold Reservation.denied
  dsimp only
  split <;> rfl

protected theorem Keeps.denyBusy (h : Keeps s t) (r : Reservation) : Keeps s (denyBusy r t) := by
  have denied := h.modEntry (z := r.zone) (f := fun _ => r.denied t.lim.denyLimit t.lim.backoffBase)
    fun _ _ => denied_zone ..
  unfold Machine.denyBusy
  dsimp only
  refine Keeps.testF10 (Keeps.recomputeHold ?_) _
  split
  · exact denied.reportTable.reportZone _
  · exact denied

protected theorem Keeps.denyClosed (h : Keeps s t) (r : Reservation) : Keeps s (denyClosed r t) := by
  have closed : Keeps s (modEntry r.zone Reservation.closedBy t) := h.modEntry (by exact fun _ e => e)
  exact (((closed.reportTable).reportZone _).raiseFault ..).recomputeHold.testF10 _

protected theorem Keeps.takeDeny (h : Keeps s t) (z : Nat) (tag : Byte) (reason : DenyReason) :
    Keeps s (takeDeny z tag reason t) := by
  unfold Machine.takeDeny
  split
  · exact h.countStale
  · split
    · cases reason
      · exact h.denyBusy _
      · exact h.denyClosed _
    · exact h.countStale

protected theorem Keeps.takeFree (h : Keeps s t) (z : Nat) : Keeps s (takeFree z t) := by
  unfold Machine.takeFree
  split
  · exact h
  · split
    · exact (h.restartClaim z).recomputeHold.testF10 _
    · exact h

protected theorem Keeps.takeReleased (h : Keeps s t) (z : Nat) (tag : Byte) :
    Keeps s (takeReleased z tag t) := by
  unfold Machine.takeReleased
  split
  · exact h.countStale
  · split
    · exact (h.removeEntry z).recomputeHold.testF10 _
    · exact h.countStale

protected theorem Keeps.carryOutRevoke (h : Keeps s t) (z : Nat) : Keeps s (carryOutRevoke z t) := by
  have withdrawn : Keeps s (withdrawMail ((t.revokedZones z).map (·.zone)) t) :=
    h.setQueues (fun l => (List.length_filter_le ..).trans l) id (by rfl)
  have gone := withdrawn.foldl (f := fun st r => removeEntry r.zone st)
    (fun u r => (Keeps.refl u).removeEntry r.zone) (t.revokedZones z)
  exact (gone.serveSendDue.foldl (fun u r => (Keeps.refl u).returnRelease ..) _).recomputeHold.testF10 _

protected theorem Keeps.acceptRevoke (h : Keeps s t) (z : Nat) : Keeps s (acceptRevoke z t) :=
  (h.putAnswer _).reportZone _

protected theorem Keeps.refuseRevoke (h : Keeps s t) (z : Nat) (w : RefuseReason) :
    Keeps s (refuseRevoke z w t) := (h.putAnswer _).reportZone _

protected theorem Keeps.takeRevoke (h : Keeps s t) (z : Nat) : Keeps s (takeRevoke z t) := by
  unfold Machine.takeRevoke
  split
  · exact h.refuseRevoke ..
  · split_ifs
    · exact h.acceptRevoke z
    · exact h.refuseRevoke ..
    · exact h.refuseRevoke ..
    · exact (h.carryOutRevoke z).acceptRevoke z

protected theorem Keeps.expire (h : Keeps s t) (r : Reservation) (timeout : ZoneReport) :
    Keeps s (expire r timeout t) := by
  unfold Machine.expire
  split
  · exact Keeps.sendEntry (h.modEntry (by exact fun _ e => e)) _
  · exact ((h.modEntry (by exact fun _ e => e)).reportZone _).testF10 _

protected theorem Keeps.reclaimAfterBackoff (h : Keeps s t) (z : Nat) :
    Keeps s (reclaimAfterBackoff z t) := Keeps.sendEntry (h.nextTag.modEntry (by exact fun _ e => e)) z

protected theorem Keeps.transmit (h : Keeps s t) : Keeps s (transmit t) := by
  have mail : ∀ m ms, t.zone.mailbox = m :: ms → Keeps s (takeMail m ms t) := by
    intro m ms box
    refine Keeps.serveSendDue (h.setQueues (fun l => ?_) id (by rfl))
    rw [box] at l
    exact (Nat.le_succ _).trans l
  have long : ∀ f fs, t.zone.long = f :: fs → Keeps s (takeLong f fs t) := by
    intro f fs queue
    have taken : Keeps s (t.setZone
        { t.zone with
          long := fs, sending := some ⟨f.source t.lim.vehicleId, .long f⟩, tookMailbox := false }) := by
      refine h.setQueues id (fun l => ?_) (by rfl)
      rw [queue] at l
      exact (Nat.le_succ _).trans l
    unfold takeLong
    dsimp only
    split
    · exact taken.cueSent _
    · exact taken
  unfold Machine.transmit
  split
  · exact h
  · exact mail _ _ ‹_›
  · exact long _ _ ‹_›
  · split
    · exact long _ _ ‹_›
    · exact mail _ _ ‹_›

protected theorem Keeps.reclaim (h : Keeps s t) (z : Nat) : Keeps s (reclaim z t).1 := by
  unfold Machine.reclaim
  dsimp only
  split_ifs
  · exact h
  · exact h
  · exact h
  · refine ((h.foldl (fun u r => ?_) _).recomputeHold).testF10 _
    unfold reclaimOne
    split
    · exact Keeps.sendEntry ((Keeps.refl u).modEntry (by exact fun _ e => e)) _
    · exact (Keeps.refl u).restartClaim _

end ZoneCommands

/-! ### Seat commands -/

section SeatCommands

variable {s t : State}

protected theorem Keeps.occupancyChanged (h : Keeps s t) (r : SeatRecord) :
    Keeps s (occupancyChanged r t) := by
  unfold Machine.occupancyChanged
  dsimp only
  split
  · exact (((h.abortCheck _).clearPermit _).postState ..).raiseFault ..
  · exact (h.abortCheck _).clearPermit _

protected theorem Keeps.handOccupancy (h : Keeps s t) (a b : SeatRecord) :
    Keeps s (handOccupancy a b t) := by
  unfold Machine.handOccupancy becameKnown
  split_ifs
  · exact h
  · exact h.clearPermit _
  · exact h
  · exact h.occupancyChanged b

protected theorem Keeps.testF13 (h : Keeps s t) (w : Bool) (a : Nat) : Keeps s (testF13 w a t) := by
  unfold Machine.testF13
  split_ifs
  · exact h.raiseFault ..
  · exact h.endCond _
  · exact h

protected theorem Keeps.setAlarm (h : Keeps s t) (on : Bool) : Keeps s (setAlarm on t) := h.setVoice _

protected theorem Keeps.enterAlarm (h : Keeps s t) (r : SeatRecord) (x : AlarmTest) :
    Keeps s (enterAlarm r x t) := by
  unfold Machine.enterAlarm invalidate alarmBegin
  dsimp only
  split_ifs
  · exact (((h.putSeat _).clearPermit _).putSeat _).postEvent _
  · exact (h.putSeat _).clearPermit _
  · exact (((h.putSeat _).clearPermit _).raiseFault ..).setAlarm _

protected theorem Keeps.watchChecked (h : Keeps s t) (r : SeatRecord) (x : Read) :
    Keeps s (watchChecked r x t) := by
  unfold Machine.watchChecked
  dsimp only
  split
  · exact h.enterAlarm ..
  · split
    · exact h.enterAlarm ..
    · split
      · exact h.enterAlarm ..
      · exact h.putSeat _

protected theorem Keeps.followReads (h : Keeps s t) (r : SeatRecord) (x : Read) :
    Keeps s (followReads r x t) := by
  have failed : Keeps s (enterFault r t) := (h.putSeat _).abortCheck _
  unfold Machine.followReads
  split <;> split_ifs
  · exact failed
  · exact h
  · exact failed
  · exact h
  · exact h
  · exact h.putSeat _

protected theorem Keeps.recoverFault (h : Keeps s t) (r : SeatRecord) (x : Read) :
    Keeps s (recoverFault r x t) := by
  unfold Machine.recoverFault
  split_ifs <;> exact h.putSeat _

protected theorem Keeps.recoverAlarm (h : Keeps s t) (r : SeatRecord) (x : Read) :
    Keeps s (recoverAlarm r x t) := by
  unfold Machine.recoverAlarm alarmEnd
  split_ifs
  · exact h.putSeat _
  · exact ((h.putSeat _).endCond _).setAlarm _
  · exact h.putSeat _
  · exact h.putSeat _

protected theorem Keeps.judgeChecking (h : Keeps s t) (r : SeatRecord) (x : Read) (c : Bool) :
    Keeps s (judgeChecking r x c t) := by
  unfold Machine.judgeChecking rejectSeat
  split
  · exact h
  · exact (h.putSeat _).setSeat (by rfl)

protected theorem Keeps.applyState (h : Keeps s t) (r : SeatRecord) (x : Read) (c : Bool) :
    Keeps s (applyState r x c t) := by
  unfold Machine.applyState
  split
  · exact h.followReads ..
  · exact h.followReads ..
  · exact h.followReads ..
  · exact h.recoverFault ..
  · exact h.watchChecked ..
  · exact h.recoverAlarm ..
  · exact h.judgeChecking ..

protected theorem Keeps.transact (h : Keeps s t) (op : SeatOp) (r : SeatRecord) (w : BitVec 24)
    (c : Bool) : Keeps s (transact op r w c t) :=
  (((Keeps.putSeat (h.setSeat (by rfl)) _).handOccupancy ..).applyState ..).testF13 ..

protected theorem Keeps.roundTransact (h : Keeps s t) (w : BitVec 24) : Keeps s (roundTransact w t) := by
  unfold Machine.roundTransact
  split
  · exact h
  · split
    · exact h
    · dsimp only
      split
      · exact h.setSeat (by rfl)
      · exact Keeps.transact (h.setSeat (by rfl)) ..

protected theorem Keeps.beginRound (h : Keeps s t) : Keeps s (beginRound t) := h.setSeat (by rfl)

protected theorem Keeps.passCheck (h : Keeps s t) (c : Check) : Keeps s (passCheck c t) :=
  Keeps.postEvent ((Keeps.mapSeats (h.setSeat (by rfl)) _).setSeat (by rfl)) _

protected theorem Keeps.failCheck (h : Keeps s t) (c : Check) : Keeps s (failCheck c t) := by
  have ended := h.setSeat (u := { t.seat with check := none }) rfl
  have failed := (ended.mapSeats SeatRecord.failCheck).raiseFault .f14 (.check .rejected)
  unfold Machine.failCheck
  dsimp only
  refine Keeps.postEvent ?_ _
  split
  · exact failed.announce _
  · exact failed

protected theorem Keeps.endRound (h : Keeps s t) : Keeps s (endRound t) := by
  unfold Machine.endRound
  split
  · exact h
  · have ended : Keeps s (t.setSeat { t.seat with round := none }) := h.setSeat (by rfl)
    dsimp only
    split
    · split
      · unfold countRound
        dsimp only
        split
        · split
          · exact ended.passCheck _
          · exact ended.failCheck _
        · exact ended.setSeat (by rfl)
      · exact ended
    · exact ended

protected theorem Keeps.finishRound (h : Keeps s t) (n : Nat) (ws : List (BitVec 24)) :
    Keeps s (finishRound n ws t).1 := by
  induction n generalizing ws t with
  | zero => exact h
  | succ n ih => exact ih (h.roundTransact _) _

protected theorem Keeps.closingRound (h : Keeps s t) (addrs : List Nat) (ws : List (BitVec 24)) :
    Keeps s (closingRound addrs ws t) := by
  induction addrs generalizing ws t with
  | nil => exact h
  | cons a rest ih =>
    refine ih ?_ _
    split
    · exact h.transact ..
    · exact h

protected theorem Keeps.startCheck (h : Keeps s t) (source : CommandSource) :
    Keeps s (startCheck source t).1 := by
  unfold Machine.startCheck
  dsimp only
  split
  · exact ((((h.clearPermit _).mapSeats _).mapSeats _).raiseFault ..).postEvent _
  · exact (((h.clearPermit _).mapSeats _).mapSeats _).setSeat (by rfl)

protected theorem Keeps.judgeCheck (h : Keeps s t) : Keeps s (judgeCheck t).1 := by
  unfold Machine.judgeCheck
  split
  · exact h
  · exact h.startCheck _

protected theorem Keeps.waysideCheckFrame (h : Keeps s t) : Keeps s (waysideCheckFrame t) := by
  unfold Machine.waysideCheckFrame
  split
  · exact h.postEvent _
  · exact h.startCheck _

protected theorem Keeps.judgeRelease (h : Keeps s t) : Keeps s (judgeRelease t).1 := by
  unfold Machine.judgeRelease openBars
  split_ifs
  · exact h
  · exact h
  · exact h
  · exact h
  · exact h
  · exact h.setSeat (by rfl)
  · exact Keeps.postEvent ((((h.abortCheck _).clearPermit _).mapSeats _).setSeat (by rfl)) _

end SeatCommands

/-! ### Cue commands -/

section CueCommands

variable {s t : State}

protected theorem Keeps.flagSet (h : Keeps s t) (r : FlagSetReq) : Keeps s (flagSet r t).1 := by
  unfold Machine.flagSet
  split
  · split
    · exact h.writeFlag ..
    · exact h
  · exact h

protected theorem Keeps.flagExchange (h : Keeps s t) (r : FlagExchangeReq) :
    Keeps s (flagExchange r t).1 := by
  unfold Machine.flagExchange
  split
  · split
    · split
      · exact h.writeFlag ..
      · exact h
    · exact h
  · exact h

protected theorem Keeps.showFlagFrame (h : Keeps s t) (i : Nat) (v : Bool) :
    Keeps s (showFlagFrame i v t) := by
  unfold Machine.showFlagFrame
  split
  · exact h.writeFlag ..
  · exact h.postEvent _

protected theorem Keeps.takeAck (h : Keeps s t) (id : Nat) (tag : Byte) : Keeps s (takeAck id tag t) := by
  unfold Machine.takeAck
  split
  · exact h.setCue (by exact le_rfl)
  · dsimp only
    split
    · exact (h.closeAck ..).tellCue ..
    · exact h.closeAck ..

protected theorem Keeps.resendScene (h : Keeps s t) (e : AckEntry) : Keeps s (resendScene e t) :=
  Keeps.putScene (h.setCue (by simp)) _

protected theorem Keeps.unacknowledged (h : Keeps s t) (e : AckEntry) : Keeps s (unacknowledged e t) :=
  ((h.closeAck ..).tellCue ..).raiseFault ..

end CueCommands

end Sys2Proof.Claims

namespace Sys2Proof.Claims

open Sys2Proof.Machine

/-! ### The clip store -/

section Clips

variable {s t : State}

protected theorem Keeps.setHeld (h : Keeps s t) (x : Option Held) : Keeps s (t.setHeld x) :=
  h.setHost (by rfl) (by exact le_rfl)

protected theorem Keeps.setArb (h : Keeps s t) (a : Arbiter) : Keeps s (t.setArb a) :=
  h.setClip (by rfl) (by exact le_rfl)

protected theorem Keeps.setBuffer (h : Keeps s t) (b : ReadBuffer) : Keeps s (t.setBuffer b) :=
  h.setClip (by rfl) (by exact le_rfl)

protected theorem Keeps.setVerify (h : Keeps s t) (v : VerifyState) : Keeps s (t.setVerify v) :=
  h.setClip (by rfl) (by exact le_rfl)

protected theorem Keeps.discardBuffer (h : Keeps s t) : Keeps s (discardBuffer t) :=
  h.setClip (by rfl) (by exact le_rfl)

protected theorem Keeps.discardFor (h : Keeps s t) (c : Nat) : Keeps s (discardFor c t) := by
  unfold Machine.discardFor
  split
  · exact h.discardBuffer
  · exact h

protected theorem Keeps.prefetch (h : Keeps s t) (c o : Nat) : Keeps s (prefetch c o t) := by
  unfold Machine.prefetch
  split
  · exact h.setBuffer _
  · dsimp only
    split
    · exact h.setBuffer _
    · exact h.setClip (by rfl) (by exact le_rfl)

protected theorem Keeps.answerRead (h : Keeps s t) (f : RxFrame) (c o n : Nat) (b : Bool)
    (d : List (List Byte)) : Keeps s (answerRead f c o n b d t) := (h.sendReply ..).prefetch ..

protected theorem Keeps.readMemory (h : Keeps s t) (f : RxFrame) (c o n : Nat) :
    Keeps s (readMemory f c o n t) := (h.discardBuffer.setArb _).setHeld _

protected theorem Keeps.obtainBlocks (h : Keeps s t) (f : RxFrame) (c o n : Nat) :
    Keeps s (obtainBlocks f c o n t) := by
  unfold Machine.obtainBlocks
  split
  · split
    · exact h.answerRead ..
    · exact h.readMemory ..
  · split
    · exact h.setHeld _
    · exact h.readMemory ..
  · exact h.readMemory ..

protected theorem Keeps.commitWaiting (h : Keeps s t) : Keeps s (commitWaiting t) :=
  h.setClip rfl (by simp)

/-- A block is staged where fewer than 8 are (R149). -/
protected theorem Keeps.stageBlock (h : Keeps s t) (room : t.clip.stage.blocks.length < 8) (c o : Nat)
    (d : List Byte) : Keeps s (stageBlock c o d t) := by
  have staged : Keeps s (t.setStage
      { blocks := t.clip.stage.blocks ++ [{ clip := c, offset := o, data := padBlock d,
                                            committing := false }]
        runClip := some c, next := o + 1, idle := .running t.lim.stageIdle }) :=
    h.setClipWithin (fun _ => by simpa using Nat.succ_le_of_lt room) (by rfl)
  unfold Machine.stageBlock
  dsimp only
  split
  · exact staged.commitWaiting
  · exact staged

protected theorem Keeps.finishData (h : Keeps s t) (room : t.clip.stage.blocks.length < 8) (f : RxFrame)
    (c o : Nat) (d : List Byte) : Keeps s (finishData f c o d t) :=
  (h.stageBlock room ..).sendReply ..

protected theorem Keeps.startVerify (h : Keeps s t) : Keeps s (startVerify t) := by
  unfold Machine.startVerify
  split
  · exact h.setArb _
  · exact h.setClip (by rfl) (by exact le_rfl)

protected theorem Keeps.dropRun (h : Keeps s t) (c : Nat) : Keeps s (dropRun c t) := by
  unfold Machine.dropRun
  split
  · exact h.setClip (by rfl) (by exact le_rfl)
  · exact h

protected theorem Keeps.finishSeal (h : Keeps s t) (f : RxFrame) (c : Nat) (crc : Code) :
    Keeps s (finishSeal f c crc t) := by
  have opened : ∀ {u : State}, Keeps s u → ∀ (n : Nat) (v : VerifyState),
      Keeps s (if n = 1 then startVerify (dropRun c (u.setVerify v))
        else dropRun c (u.setVerify v)) := by
    intro u hu n v
    split
    · exact ((hu.setVerify v).dropRun c).startVerify
    · exact (hu.setVerify v).dropRun c
  unfold Machine.finishSeal
  cases t.clipAt c with
  | none => exact (opened h ..).sendReply ..
  | some x => exact (opened (h.putClip ..) ..).sendReply ..

protected theorem Keeps.finishErase (h : Keeps s t) (f : RxFrame) (c : Nat) : Keeps s (finishErase f c t) :=
  (((h.putClip ..).dropRun c).discardFor c).sendReply ..

/-- A held request goes on only where the stage has room. -/
protected theorem Keeps.continueHeld (h : Keeps s t) (room : t.clip.stage.blocks.length < 8) (x : Held) :
    Keeps s (continueHeld x t) := by
  have released : Keeps s (t.setHeld none) := h.setHeld none
  unfold Machine.continueHeld
  split
  · exact released.finishData room ..
  · exact released.finishSeal ..
  · exact released.finishErase ..
  · exact released.obtainBlocks ..
  · exact h

theorem length_lt_of_isEmpty {α : Type} {l : List α} (h : l.isEmpty = true) : l.length < 8 := by
  simp [List.isEmpty_iff.1 h]

protected theorem Keeps.flushFor (h : Keeps s t) (x : Held) : Keeps s (flushFor x t) := by
  unfold Machine.flushFor
  split
  · exact h.continueHeld (length_lt_of_isEmpty ‹_›) x
  · exact h.commitWaiting.setHeld _

protected theorem Keeps.clipDefine (h : Keeps s t) (r : ClipDefineReq) : Keeps s (clipDefine r t).1 := by
  unfold Machine.clipDefine
  dsimp only
  split_ifs
  · exact h
  · exact h
  · exact h
  · exact h
  · exact h
  · exact h
  · split
    · exact h
    · exact (h.putClip ..).discardFor _

theorem discardFor_stage (c : Nat) (t : State) : (discardFor c t).clip.stage = t.clip.stage := by
  unfold Machine.discardFor
  split <;> rfl

protected theorem Keeps.clipData (h : Keeps s t) (f : RxFrame) (r : ClipDataReq) :
    Keeps s (clipData f r t) := by
  unfold Machine.clipData
  split
  · exact h.sendReply ..
  · dsimp only
    split
    · exact Keeps.sendReply (h.setClip (by rfl) (by exact le_rfl)) ..
    · rename_i room
      split
      · exact (h.discardFor _).finishData (by rw [discardFor_stage]; exact Nat.lt_of_not_le room) ..
      · exact (h.discardFor _).flushFor _

protected theorem Keeps.clipSeal (h : Keeps s t) (f : RxFrame) (r : ClipSealReq) :
    Keeps s (clipSeal f r t) := by
  unfold Machine.clipSeal
  split_ifs
  · exact h.sendReply ..
  · exact h.sendReply ..
  · exact h.sendReply ..
  · exact h.flushFor _

protected theorem Keeps.clipRead (h : Keeps s t) (f : RxFrame) (r : ClipReadReq) :
    Keeps s (clipRead f r t) := by
  unfold Machine.clipRead
  split
  · exact h.sendReply ..
  split
  · exact h.sendReply ..
  split
  · exact h.sendReply ..
  split_ifs
  · exact h.sendReply ..
  · exact h.flushFor _
  · exact h.obtainBlocks ..

protected theorem Keeps.clipErase (h : Keeps s t) (f : RxFrame) (c : Nat) : Keeps s (clipErase f c t) := by
  unfold Machine.clipErase
  split
  · exact h.sendReply ..
  split
  · exact h.sendReply ..
  split_ifs
  · exact h.sendReply ..
  · exact h.sendReply ..
  · exact h.flushFor _
  · exact h.finishErase ..

protected theorem Keeps.freePort (h : Keeps s t) : Keeps s (freePort t) := h.setArb _

protected theorem Keeps.writeCommit (h : Keeps s t) (r : CommitReq) : Keeps s (writeCommit r t) :=
  h.trans ⟨⟨id, id, id, id, id, id, id, id, fun x => Memory.wf_writeBlocks x .., id⟩, id⟩

protected theorem Keeps.flushTest (h : Keeps s t) : Keeps s (flushTest t) := by
  unfold Machine.flushTest
  split
  · split
    · exact h.continueHeld (length_lt_of_isEmpty ‹_›) _
    · exact h
  · exact h

protected theorem Keeps.leaveStage (h : Keeps s t) (r : CommitReq) : Keeps s (leaveStage r t) :=
  h.setClip rfl (List.length_filter_le ..)

protected theorem Keeps.fillBuffer (h : Keeps s t) (r : ReadReq) (d : List (List Byte)) :
    Keeps s (fillBuffer r d t) := by
  unfold Machine.fillBuffer
  dsimp only
  split
  · exact ((h.setBuffer _).setHeld _).obtainBlocks ..
  · exact h.setBuffer _

protected theorem Keeps.answerFromMemory (h : Keeps s t) (d : List (List Byte)) :
    Keeps s (answerFromMemory d t) := by
  unfold Machine.answerFromMemory
  split
  · exact (h.setHeld _).answerRead ..
  · exact h

protected theorem Keeps.feedBlock (h : Keeps s t) (n : Nat) (c : Clip) (d : List Byte) :
    Keeps s (feedBlock n c d t) := by
  unfold Machine.feedBlock endVerify
  dsimp only
  split
  · exact h.setClip (by rfl) (by exact le_rfl)
  · refine Keeps.startVerify (Keeps.postEvent ?_ _)
    split
    · exact (h.putClip ..).setVerify _
    · exact ((h.putClip ..).setVerify _).raiseFault ..

protected theorem Keeps.joinRing (h : Keeps s t) (v : Fin 8) (d : List (List Byte)) :
    Keeps s (joinRing v d t) := ((h.putVoice ..).refillTest v).putVoice ..

end Clips

/-! ### Voice commands -/

section VoiceCommands

variable {s t : State}

protected theorem Keeps.voiceStart (h : Keeps s t) (r : VoiceStartReq) : Keeps s (voiceStart r t).1 := by
  unfold Machine.voiceStart
  split
  · split
    · exact h
    · split
      · exact h
      split
      · exact h
      split
      · exact h
      · exact h.takeStart ..
  · exact h

protected theorem Keeps.voiceStop (h : Keeps s t) (r : VoiceStopReq) : Keeps s (voiceStop r t).1 := by
  unfold Machine.voiceStop
  split_ifs
  · exact h
  · exact h
  · exact h.stopVoice ..
  · exact h

protected theorem Keeps.voiceGain (h : Keeps s t) (r : VoiceGainReq) : Keeps s (voiceGain r t).1 := by
  unfold Machine.voiceGain
  split_ifs
  · exact h
  · exact h.gainVoice ..
  · exact h
  · exact h

protected theorem Keeps.moveGain (h : Keeps s t) (v : Fin 8) : Keeps s (moveGain v t) := by
  unfold Machine.moveGain
  split
  · exact h
  · exact (h.putVoice ..).fadeTest v

protected theorem Keeps.underrun (h : Keeps s t) (v : Fin 8) : Keeps s (underrun v t) := by
  unfold Machine.underrun
  dsimp only
  split
  · exact h.putVoice ..
  · exact ((h.putVoice ..).postState ..).raiseFault ..

protected theorem Keeps.advance (h : Keeps s t) (v : Fin 8) : Keeps s (advance v t) := by
  unfold Machine.advance clipEnd
  dsimp only
  split
  · split
    · split_ifs
      · exact ((h.putVoice ..).refillTest v).putVoice ..
      · exact ((h.putVoice ..).refillTest v).fadeEnd v
      · exact ((h.putVoice ..).refillTest v).goIdle ..
    · exact (h.putVoice ..).refillTest v
  · exact h.putVoice ..

protected theorem Keeps.tickVoice (h : Keeps s t) (ducked : Bool) (duck : Nat) (v : Fin 8) :
    Keeps s (tickVoice ducked duck v t).1 := by
  unfold Machine.tickVoice
  dsimp only
  split
  · exact (h.putVoice ..).moveGain v
  · split
    · split
      · exact (h.underrun v).moveGain v
      · exact (h.advance v).moveGain v
    · exact h.moveGain v

protected theorem Keeps.tickVoices (h : Keeps s t) (ducked : Bool) (duck : Nat) (vs : List (Fin 8)) :
    Keeps s (tickVoices ducked duck vs t).1 := by
  induction vs generalizing t with
  | nil => exact h
  | cons v vs ih => exact ih (h.tickVoice ducked duck v)

protected theorem Keeps.sampleTick (h : Keeps s t) : Keeps s (sampleTick t) :=
  (h.tickVoices ..).setVoice _

end VoiceCommands

end Sys2Proof.Claims

namespace Sys2Proof.Claims

open Sys2Proof.Machine

/-! ### Configuration, COMMIT and RESTART -/

section Configuration

variable {s t : State}

protected theorem Keeps.reportConfig (h : Keeps s t) : Keeps s (reportConfig t) := h.postState ..

/-- A session is opened in PARKED only (R195). -/
protected theorem Keeps.openSession (h : Keeps s t) (parked : t.mstate = .parked) :
    Keeps s (openSession t) := (h.setConfig (.inl parked) (by rfl) (by rfl)).reportConfig

protected theorem Keeps.closeLoop (h : Keeps s t) : Keeps s (closeLoop t) := by
  unfold Machine.closeLoop
  split
  · exact h.setSeat (by rfl)
  · exact h

protected theorem Keeps.emptyAcks (h : Keeps s t) : Keeps s (emptyAcks t) := h.setCue (Nat.zero_le _)

protected theorem Keeps.beginConfigBlocks (h : Keeps s t) : Keeps s (beginConfigBlocks t) :=
  (h.stopGuideTimer.stopLink.recomputeHold.closeLoop.clearPermit _).outputsOff.emptyAcks

protected theorem Keeps.beginConfig (h : Keeps s t) : Keeps s (beginConfig t).1 := by
  unfold Machine.beginConfig
  split_ifs with _ parked
  · exact h
  · exact h
  · exact (h.openSession (not_not.1 parked)).beginConfigBlocks

/-- A load acts while CONFIGURING only. -/
protected theorem Keeps.whileConfiguring {judge : State → State × Answer} (h : Keeps s t)
    (hj : Keeps s (judge t).1) : Keeps s (whileConfiguring judge t).1 := by
  unfold Machine.whileConfiguring
  split
  · exact hj
  · exact h

protected theorem Keeps.pathLoad (h : Keeps s t) (l : Load Segment) : Keeps s (pathLoad l t).1 := by
  unfold Machine.pathLoad
  split
  · exact h
  · exact h.setGuide (by rfl)

protected theorem Keeps.markerLoad (h : Keeps s t) (l : Load Marker) : Keeps s (markerLoad l t).1 := by
  unfold Machine.markerLoad
  split
  · exact h
  · exact h.setGuide (by rfl)

protected theorem Keeps.cueLoad (h : Keeps s t) (l : Load CueIn) : Keeps s (cueLoad l t).1 := by
  unfold Machine.cueLoad
  split
  · exact h
  · dsimp only
    split
    · exact h.setCue (by exact le_rfl)
    · exact h.setCue (by exact le_rfl)

protected theorem Keeps.loadSeatMap (h : Keeps s t) (m : SeatMap) : Keeps s (loadSeatMap m t).1 := by
  unfold Machine.loadSeatMap
  split
  · exact h
  · split
    · exact h
    · exact h.setConfig (.inr (by rfl)) (by rfl) (by rfl)

protected theorem Keeps.limitsLoad (h : Keeps s t) (l : List (Nat × Nat)) :
    Keeps s (limitsLoad l t).1 := by
  unfold Machine.limitsLoad
  split
  · exact h
  · split
    · exact h
    · exact h.setConfig (.inr (by rfl)) (by rfl) (by rfl)

protected theorem Keeps.resetGuidance (h : Keeps s t) : Keeps s (resetGuidance t) := by
  unfold Machine.resetGuidance
  dsimp only
  split
  · exact (h.setGuide (by rfl)).endConds _
  · exact ((h.setGuide (by rfl)).endConds _).reportPosition

protected theorem Keeps.resetMotion (h : Keeps s t) : Keeps s (resetMotion t) := by
  have parked : ∀ m : Motion, m.record.state = .parked → Keeps s (t.setMotion m) := fun m hm =>
    h.setMotionTo (.inl hm) fun moves => absurd moves (by rw [hm]; decide)
  unfold Machine.resetMotion
  dsimp only
  split
  · exact parked _ rfl
  · exact (parked _ rfl).postState ..

protected theorem Keeps.resetCue (h : Keeps s t) : Keeps s (resetCue t) :=
  (h.setCue (by exact le_rfl)).outputsOff.emptyAcks

protected theorem Keeps.resetZone (h : Keeps s t) : Keeps s (resetZone t) := by
  unfold Machine.resetZone
  dsimp only
  split
  · exact ((h.emptyTable.emptyQueues false).startLink.testF10 _).recomputeHold
  · exact ((h.emptyTable.emptyQueues false).testF10 _).recomputeHold

theorem insertSeat_perm (e : SeatEntry) (l : List SeatEntry) : (insertSeat e l).Perm (e :: l) := by
  induction l with
  | nil => exact .refl _
  | cons x l ih =>
    unfold insertSeat
    split
    · exact .refl _
    · exact (ih.cons x).trans (.swap ..)

theorem sortSeats_perm (l : List SeatEntry) : (sortSeats l).Perm l := by
  induction l with
  | nil => exact .refl _
  | cons e l ih => exact (insertSeat_perm ..).trans (ih.cons e)

protected theorem Keeps.reportFresh (h : Keeps s t) (before : List SeatRecord) (r : SeatRecord) :
    Keeps s (reportFresh before t r) := by
  unfold Machine.reportFresh
  split
  · exact h.reportSeat ..
  · exact h.postState ..

/-- The records made anew have the distinct addresses of the map in force. -/
theorem map_addr_fresh_nodup (h : t.SeatsDistinct) :
    (((sortSeats t.config.committedMap.entries).map SeatRecord.fresh).map (·.addr)).Nodup := by
  have addresses := ((sortSeats_perm t.config.committedMap.entries).map (·.addr)).nodup_iff.2 h.2
  simpa [SeatRecord.fresh, Function.comp_def] using addresses

protected theorem Keeps.resetSeat (h : Keeps s t) (cause : PermitCause) : Keeps s (resetSeat cause t) := by
  have cleared : Keeps s (clearPermit cause t) := h.clearPermit cause
  have config : (clearPermit cause t).config = t.config := by simp
  have anew : ∀ u : SeatUnit,
      u.records = (sortSeats t.config.committedMap.entries).map SeatRecord.fresh →
        Keeps s ((clearPermit cause t).setSeat u) := fun u hu =>
    cleared.setSeatDistinct fun x => by
      have nodup := map_addr_fresh_nodup x
      rwa [config, ← hu] at nodup
  have reported := fun u hu => (anew u hu).foldl
    (fun x r => (Keeps.refl x).reportFresh t.seat.records r)
    ((sortSeats t.config.committedMap.entries).map SeatRecord.fresh)
  unfold Machine.resetSeat
  dsimp only
  split
  · exact Keeps.beginRound ((reported _ (by rfl)).setSeat (by rfl))
  · exact reported _ rfl

protected theorem Keeps.resetClip (h : Keeps s t) : Keeps s (resetClip t) := h.setClip rfl (Nat.zero_le _)

protected theorem Keeps.resetVoice (h : Keeps s t) : Keeps s (resetVoice t) := h.setVoice _

protected theorem Keeps.startSilence (h : Keeps s t) : Keeps s (startSilence t) := by
  unfold Machine.startSilence
  split
  · exact h
  · exact h.setHost (by rfl) (by exact le_rfl)

protected theorem Keeps.endSilent (h : Keeps s t) : Keeps s (endSilent t) :=
  Keeps.endCond (h.setHost (by rfl) (by exact le_rfl)) _

/-- The loaded sets come in force once they have passed the checks of R199: distinct seats, and a range
that holds the steering demand. -/
protected theorem Keeps.commitRecord (h : Keeps s t) (passed : t.commitFailure = none) (label : Code) :
    Keeps s (commitRecord label t) := by
  obtain ⟨-, -, limits, seats, -⟩ := commitFailure_none passed
  have inForce : Keeps t (t.setConfig
      { t.config with
        committed := t.config.loaded, committedMap := t.config.loadedMap
        record := { state := .ready, label := label, count := t.config.record.count + 1,
                    last := .pass } }) :=
    ⟨⟨id, id, id, id, id, id, fun x => ⟨x.1, (checkSeatMap_none seats).1⟩,
      fun _ => (checkLimits_none limits).2.1, id, fun _ y => by simp [State.isReady] at y⟩, id⟩
  exact (h.trans inForce).reportConfig

protected theorem Keeps.commitSeat (h : Keeps s t) : Keeps s (commitSeat t) := by
  unfold Machine.commitSeat
  dsimp only
  split
  · exact ((h.resetSeat _).endConds _).setAlarm false
  · exact (h.resetSeat _).endConds _

protected theorem Keeps.deriveZoneMap (h : Keeps s t) : Keeps s (deriveZoneMap t) := h.setZone (by rfl)

protected theorem Keeps.commitSilence (h : Keeps s t) : Keeps s (commitSilence t) := by
  unfold Machine.commitSilence
  split
  · exact Keeps.endSilent (h.setHost (by rfl) (by exact le_rfl))
  · exact h.startSilence

protected theorem Keeps.commitBlocks (h : Keeps s t) : Keeps s (commitBlocks t) :=
  h.resetGuidance.resetMotion.restartDrive.resetCue.deriveZoneMap.resetZone.commitSeat.commitSilence

protected theorem Keeps.commit (h : Keeps s t) (label : Code) : Keeps s (commit label t).1 := by
  unfold Machine.commit
  split
  · split
    · exact h.setConfig (.inr (by rfl)) (by rfl) (by rfl)
    · rename_i passed
      dsimp only
      exact (h.commitRecord passed label).commitBlocks
  · exact h

protected theorem Keeps.restartReports (h : Keeps s t) : Keeps s (restartReports t) := by
  have emptied : Keeps s (t.setHost { t.host with reports := [], dropped := 0 }) :=
    h.setHostWithin (fun _ => by simp) id
  exact emptied.postEvent _

protected theorem Keeps.senseEstop (h : Keeps s t) : Keeps s (senseEstop t) := by
  unfold Machine.senseEstop
  split
  · exact h.raiseFault ..
  · exact h

protected theorem Keeps.restart (h : Keeps s t) : Keeps s (restart t) :=
  (h.restartReports.clearFaultTable.resetGuidance.resetMotion.restartDrive.resetCue.resetZone.resetSeat
    _).resetClip.resetVoice.startSilence.senseEstop

protected theorem Keeps.takeRestart (h : Keeps s t) (f : RxFrame) : Keeps s (takeRestart f t) := by
  unfold Machine.takeRestart
  split
  · exact h.sendReply ..
  · exact h.sendReply ..
  · exact h.sendReply ..
  all_goals exact (h.sendReply ..).restart

end Configuration

/-! ### The fault unit's and the host link unit's commands -/

section Links

variable {s t : State}

protected theorem Keeps.clearFaults (h : Keeps s t) : Keeps s (clearFaults t).1 := by
  refine Keeps.noteSummary (h.setFault (classLatched_mono fun c latched cls => ?_)) _
  have record : (t.setFault { table := t.fault.table.map FaultRecord.cleared }).faultRec c =
      (t.faultRec c).cleared := by simp [State.faultRec]
  rw [record] at latched cls
  exact ⟨(Bool.and_eq_true_iff.1 latched).1, cls⟩

/-- Settles O9: each bound is that of an empty list, memory is blank and the vehicle is PARKED. -/
theorem resetMeetsInvariants : Obligations.ResetMeetsInvariants := by
  unfold Obligations.ResetMeetsInvariants
  exact ⟨fun moves => absurd moves (by decide), fun _ => rfl, reset_memory_wf, ⟨by decide, by decide⟩,
    Nat.zero_le _, ⟨Nat.zero_le _, .nil⟩, ⟨Nat.zero_le _, Nat.zero_le _⟩, ⟨.nil, .nil⟩,
    Nat.zero_le _, Nat.zero_le _, Nat.zero_le _⟩

/-- Power-on meets every invariant, whatever stood before, as reset does. -/
theorem Keeps.powered (s : State) (fast estop : Bool) : Keeps s (s.powered fast estop) := by
  obtain ⟨stops, parked, memory, reports, rx, table, queues, seats, stage, acks, steering⟩ :=
    resetMeetsInvariants
  exact ⟨⟨fun _ => reports, fun _ => rx, fun _ => stage, fun _ => acks, fun _ => table,
    fun _ => queues, fun _ => seats, fun _ => steering, fun _ => memory, fun _ => parked⟩,
    fun _ => stops⟩

protected theorem Keeps.setCounts (h : Keeps s t) (c : HostCounts) : Keeps s (setCounts c t) :=
  h.setHost (by rfl) (by exact le_rfl)

protected theorem Keeps.overrun (h : Keeps s t) (f : RxFrame) : Keeps s (overrun f t) := by
  unfold Machine.overrun
  dsimp only
  split
  · exact (h.setCounts _).sendReply ..
  · exact (h.setCounts _).setCounts _

/-- A frame joins the receive queue where fewer than 4 wait (R205). -/
protected theorem Keeps.receiveValid (h : Keeps s t) (f : RxFrame) : Keeps s (receiveValid f t) := by
  unfold Machine.receiveValid
  dsimp only
  split
  · rename_i room
    exact h.startSilence.endSilent.setHostWithin id
      fun _ => by simpa using Nat.succ_le_of_lt room
  · exact h.startSilence.endSilent.overrun f

protected theorem Keeps.receiveFramed (h : Keeps s t) (x : Framed) : Keeps s (receiveFramed t x) := by
  unfold Machine.receiveFramed
  cases x with
  | overLong => exact h.setCounts _
  | badCrc => exact h.setCounts _
  | valid f => exact h.receiveValid f

/-- Up to 16 reports leave, and one event report may join the rest. -/
theorem afterFetch_bounded {l : HostLink}
    (h : l.reports.length ≤ Config.reportMax ∧ (l.reports.filter Report.isState).Nodup) :
    l.afterFetch.reports.length ≤ Config.reportMax ∧
      (l.afterFetch.reports.filter Report.isState).Nodup := by
  have rest : ((l.reports.drop Config.fetchMax).filter Report.isState).Nodup :=
    h.2.sublist ((List.drop_sublist ..).filter _)
  unfold HostLink.afterFetch
  dsimp only
  split
  · rename_i room
    exact ⟨by simpa using Nat.succ_le_of_lt room.2, by simpa [Report.isState] using rest⟩
  · exact ⟨(List.drop_sublist ..).length_le.trans h.1, rest⟩

theorem afterFetch_rxQueue (l : HostLink) : l.afterFetch.rxQueue = l.rxQueue := by
  unfold HostLink.afterFetch
  dsimp only
  split <;> rfl

protected theorem Keeps.fetchReports (h : Keeps s t) : Keeps s (fetchReports t).1 :=
  h.setHostWithin afterFetch_bounded fun x => (congrArg List.length (afterFetch_rxQueue _)).trans_le x

/-- The frame at the head of the receive queue is taken. -/
theorem Keeps.takeFrame (h : Keeps s t) {f : RxFrame} {rest : List RxFrame}
    (queue : t.host.rxQueue = f :: rest) : Keeps s (t.setHost { t.host with rxQueue := rest }) :=
  h.setHost rfl (by simp [queue])

end Links

/-! ### Every command keeps the invariants -/

theorem Keeps.request {α : Type} {k : Byte} {b : Body α} {s t : State}
    {act : RxFrame → α → State → State} (hact : ∀ f a u, Keeps u (act f a u))
    (h : onRequest k b s act = .next t) : Keeps s t := by
  rcases onRequest_next h with rfl | ⟨f, rest, -, queue, -, ⟨-, rfl⟩ | ⟨a, -, rfl⟩⟩
  · exact .refl _
  · exact ((Keeps.refl s).takeFrame queue).sendReply ..
  · exact ((Keeps.refl s).takeFrame queue).trans (hact ..)

theorem Keeps.answered {α : Type} {k : Byte} {b : Body α} {s t : State}
    {judge : α → State → State × Answer} (hj : ∀ a u, Keeps u (judge a u).1)
    (h : onRequest k b s (answering judge) = .next t) : Keeps s t :=
  Keeps.request (fun _ a u => (hj a u).sendReply ..) h

theorem Keeps.wayside {dest : Byte} {s t : State} {act : State → State} (hact : ∀ u, Keeps u (act u))
    (h : onWayside dest s act = .next t) : Keeps s t := by
  rcases onWayside_next h with rfl | rfl
  · exact .refl _
  · exact (Keeps.refl s).validFrame.trans (hact _)

/-- The zone unit's millisecond moves timers only. -/
theorem zone_tick_parts (z : ZoneUnit) :
    z.tick.table.length = z.table.length ∧ z.tick.table.map (·.zone) = z.table.map (·.zone) ∧
      z.tick.mailbox = z.mailbox ∧ z.tick.long = z.long := by
  unfold ZoneUnit.tick
  dsimp only
  split <;> simp [Function.comp_def]

theorem Keeps.idle (s : State) : Keeps s s.idle := by
  obtain ⟨length, zones, mail, long⟩ := zone_tick_parts s.zone
  refine ⟨⟨id, id, id, fun x => ?_, fun x => ?_, fun x => ?_, id, id, id, id⟩, id⟩
  · show (s.cue.acks.map AckEntry.tick).length ≤ Config.ackMax
    rw [List.length_map]
    exact x
  · show s.zone.tick.table.length ≤ Config.tableMax ∧ (s.zone.tick.table.map (·.zone)).Nodup
    rw [length, zones]
    exact x
  · show s.zone.tick.mailbox.length ≤ Config.mailboxMax ∧ s.zone.tick.long.length ≤ Config.longMax
    rw [mail, long]
    exact x

end Sys2Proof.Claims

namespace Sys2Proof.Claims

open Sys2Proof.Machine

protected theorem Keeps.clipStatus (n : Option Nat) (s : State) : Keeps s (clipStatus n s).1 := by
  unfold Machine.clipStatus
  split
  · exact .refl s
  · split
    · exact .refl s
    · exact .refl s

/-- Every command keeps every invariant: command by command, by what its unit's operations keep. -/
theorem exec_keeps {c : Instr} {s t : State} (h : exec c s = .next t) : Keeps s t := by
  have start := Keeps.refl s
  cases c with
  | powerOn fast estop => cases h; exact (Keeps.powered s fast estop).senseEstop
  | hostFrameReceived bytes =>
    cases h
    exact Keeps.foldl (fun u x => (Keeps.refl u).receiveFramed x) _ (start.setHost (by rfl) (by exact le_rfl))
  | lineBreak => cases h; exact start.setHost rfl (Nat.zero_le _)
  | hostSilenceTimeout =>
    rcases execHostSilenceTimeout_next h with rfl | ⟨-, -, rfl⟩ | ⟨-, -, rfl⟩
    · exact start
    · exact start.setHost (by rfl) (by exact le_rfl)
    · exact Keeps.raiseFault (start.setHost (by rfl) (by exact le_rfl)) ..
  | replySent => cases h; exact start.setHost (by rfl) (by exact le_rfl)
  | unknownKind =>
    rcases execUnknownKind_next h with rfl | ⟨f, rest, -, queue, -, rfl⟩
    · exact start
    · exact (start.takeFrame queue).sendReply ..
  | beginConfig b => exact .answered (fun _ u => (Keeps.refl u).beginConfig) h
  | pathLoad b => exact .answered (fun l u => (Keeps.refl u).whileConfiguring ((Keeps.refl u).pathLoad l)) h
  | markerLoad b =>
    exact .answered (fun l u => (Keeps.refl u).whileConfiguring ((Keeps.refl u).markerLoad l)) h
  | cueLoad b => exact .answered (fun l u => (Keeps.refl u).whileConfiguring ((Keeps.refl u).cueLoad l)) h
  | seatMap b =>
    exact .answered (fun m u => (Keeps.refl u).whileConfiguring ((Keeps.refl u).loadSeatMap m)) h
  | limits b =>
    exact .answered (fun l u => (Keeps.refl u).whileConfiguring ((Keeps.refl u).limitsLoad l)) h
  | setMix b => exact .answered (fun _ u => (Keeps.refl u).setVoice _) h
  | setGains b => exact .answered (fun _ u => ((Keeps.refl u).setGuide (by rfl))) h
  | commit b => exact .answered (fun label u => (Keeps.refl u).commit label) h
  | restart b => exact .request (fun f _ u => (Keeps.refl u).takeRestart f) h
  | enableDrive b => exact .answered (fun _ u => (Keeps.refl u).enableDrive) h
  | disableDrive b => exact .answered (fun _ u => (Keeps.refl u).disableDrive) h
  | dispatch b => exact .answered (fun _ u => (Keeps.refl u).judgeDispatch .host) h
  | hold b => exact .answered (fun _ u => (Keeps.refl u).judgeHold) h
  | resume b => exact .answered (fun _ u => (Keeps.refl u).judgeResume) h
  | stop b => exact .answered (fun _ u => (Keeps.refl u).judgeStop) h
  | clearStop b => exact .answered (fun _ u => (Keeps.refl u).clearStop) h
  | creep b => exact .answered (fun _ u => (Keeps.refl u).judgeCreep) h
  | setPosition b order => exact .answered (fun p u => (Keeps.refl u).setPosition order p) h
  | reclaim b => exact .answered (fun z u => (Keeps.refl u).reclaim z) h
  | zoneStatus b => exact .answered (fun _ u => .refl u) h
  | check b => exact .answered (fun _ u => (Keeps.refl u).judgeCheck) h
  | release b => exact .answered (fun _ u => (Keeps.refl u).judgeRelease) h
  | seatStatus b => exact .answered (fun _ u => .refl u) h
  | flagSet b => exact .answered (fun r u => (Keeps.refl u).flagSet r) h
  | flagExchange b => exact .answered (fun r u => (Keeps.refl u).flagExchange r) h
  | cueStatus b => exact .answered (fun _ u => .refl u) h
  | clipDefine b => exact .answered (fun r u => (Keeps.refl u).clipDefine r) h
  | clipData b => exact .request (fun f r u => (Keeps.refl u).clipData f r) h
  | clipSeal b => exact .request (fun f r u => (Keeps.refl u).clipSeal f r) h
  | clipRead b => exact .request (fun f r u => (Keeps.refl u).clipRead f r) h
  | clipErase b => exact .request (fun f c u => (Keeps.refl u).clipErase f c) h
  | clipStatus b => exact .answered (fun n u => Keeps.clipStatus n u) h
  | voiceStart b => exact .answered (fun r u => (Keeps.refl u).voiceStart r) h
  | voiceStop b => exact .answered (fun r u => (Keeps.refl u).voiceStop r) h
  | voiceGain b => exact .answered (fun r u => (Keeps.refl u).voiceGain r) h
  | mixStatus b => exact .answered (fun _ u => (Keeps.refl u).setVoice _) h
  | faults b => exact .answered (fun _ u => .refl u) h
  | clearFaults b => exact .answered (fun _ u => (Keeps.refl u).clearFaults) h
  | status b => exact .answered (fun _ u => .refl u) h
  | fetchReports b => exact .answered (fun _ u => (Keeps.refl u).fetchReports) h
  | odometerCount forward => cases h; exact start.setGuide (by rfl)
  | guideSample g order =>
    rcases execGuideSample_next h with ⟨-, rfl⟩ | ⟨-, rfl⟩
    · exact start.sampleArrival g order
    · exact start.readOdometer.takeReading g
  | guideTimeout =>
    rcases execGuideTimeout_next h with rfl | ⟨-, rfl⟩
    · exact start
    · exact Keeps.raiseFault (start.setGuide (by rfl)) ..
  | feedback frame =>
    rcases execFeedback_next h with rfl | ⟨f, d, -, -, -, -, rfl⟩
    · exact start.discardFeedback
    · exact ((start.answerDemand d).feedbackRecord f).trackingTest f d
  | estopAsserted =>
    rcases execEstopAsserted_next h with rfl | ⟨-, rfl⟩
    · exact start
    · exact Keeps.raiseFault (start.setMotion (by rfl)) ..
  | estopReleased =>
    have released : Keeps s (endCond .f01 (setEstopIn false s)) := Keeps.endCond (start.setMotion (by rfl)) _
    rcases execEstopReleased_next h with rfl | ⟨-, rfl⟩
    · exact start
    · split
      · rename_i stopped
        exact released.enterStopped (by rw [stopped]; decide)
      · exact released
  | waysideFrameDiscard frame =>
    rcases execWaysideFrameDiscard_next h with rfl | ⟨-, -, rfl⟩
    · exact start
    · exact start.countDiscard
  | waysideUnknownKind frame =>
    rcases execWaysideUnknownKind_next h with rfl | rfl
    · exact start
    · exact start.validFrame.countDiscard
  | grant dest zone tag => exact .wayside (fun u => (Keeps.refl u).takeGrant ..) h
  | deny dest zone tag reason => exact .wayside (fun u => (Keeps.refl u).takeDeny ..) h
  | zoneFree dest zone => exact .wayside (fun u => (Keeps.refl u).takeFree _) h
  | released dest zone tag => exact .wayside (fun u => (Keeps.refl u).takeReleased ..) h
  | revoke dest zone => exact .wayside (fun u => (Keeps.refl u).takeRevoke _) h
  | linkCheck dest => exact .wayside (fun u => .refl u) h
  | waysideDispatch dest =>
    exact .wayside (fun u => (Keeps.refl u).waysideCommand _ fun v => (Keeps.refl v).judgeDispatch _) h
  | rideHold dest =>
    exact .wayside (fun u => (Keeps.refl u).waysideCommand _ fun v => (Keeps.refl v).judgeHold) h
  | rideResume dest =>
    exact .wayside (fun u => (Keeps.refl u).waysideCommand _ fun v => (Keeps.refl v).judgeResume) h
  | waysideCheck dest => exact .wayside (fun u => (Keeps.refl u).waysideCheckFrame) h
  | showFlag dest index value => exact .wayside (fun u => (Keeps.refl u).showFlagFrame ..) h
  | cueAck dest cueId tag => exact .wayside (fun u => (Keeps.refl u).takeAck ..) h
  | claimTimerExpiry zone =>
    rcases execClaimTimerExpiry_next h with rfl | ⟨r, -, rfl⟩
    · exact start
    · exact start.expire ..
  | backoffTimerExpiry zone =>
    rcases execBackoffTimerExpiry_next h with rfl | ⟨r, -, rfl⟩
    · exact start
    · exact start.reclaimAfterBackoff zone
  | releaseTimerExpiry zone =>
    rcases execReleaseTimerExpiry_next h with rfl | ⟨r, -, rfl⟩
    · exact start
    · exact start.expire ..
  | linkTimeout =>
    rcases execLinkTimeout_next h with rfl | ⟨-, -, rfl⟩
    · exact start
    · exact Keeps.testF10 (Keeps.reportZone (start.setZone (by rfl)) _) _
  | beacon =>
    rcases execBeacon_next h with rfl | ⟨-, rfl⟩
    · exact start
    · exact (start.putBeacon _).setZone (by rfl)
  | waysideTransmit =>
    rcases execWaysideTransmit_next h with rfl | ⟨-, -, rfl⟩
    · exact start
    · exact start.transmit
  | ackTimerExpiry cueId tag =>
    rcases execAckTimerExpiry_next h with rfl | ⟨e, -, -, ⟨-, rfl⟩ | ⟨-, rfl⟩⟩
    · exact start
    · exact start.resendScene e
    · exact start.unacknowledged e
  | pulseExpiry out =>
    rcases execPulseExpiry_next h with rfl | ⟨-, rfl⟩
    · exact start
    · exact start.setOutput ..
  | pollRoundStart =>
    rcases execPollRoundStart_next h with rfl | ⟨-, -, -, rfl⟩
    · exact start
    · exact start.beginRound
  | seatTransaction response =>
    rcases execSeatTransaction_next h with rfl | ⟨-, rfl⟩
    · exact start
    · exact start.roundTransact response
  | roundEnd =>
    rcases execRoundEnd_next h with rfl | ⟨c, -, -, rfl⟩
    · exact start
    · exact start.endRound
  | seatLoopClosingRound responses =>
    rcases execSeatLoopClosingRound_next h with rfl | ⟨s1, s2, ws, -, rfl, rfl, rfl⟩
    · exact start
    · exact ((start.finishRound ..).endRound.closingRound ..).setSeat (by rfl)
  | releaseWindowExpiry =>
    rcases execReleaseWindowExpiry_next h with rfl | ⟨-, rfl⟩
    · exact start
    · exact start.endWindow _
  | stageIdleExpiry =>
    rcases execStageIdleExpiry_next h with rfl | ⟨-, rfl⟩
    · exact start
    · exact start.commitWaiting
  | arbiterChoice =>
    rcases execArbiterChoice_next h with rfl | ⟨-, rfl⟩
    · exact start
    · exact start.setArb _
  | commitBurstComplete =>
    rcases execCommitBurstComplete_next h with rfl | ⟨r, d, -, -, ⟨-, rfl⟩ | ⟨-, rfl⟩⟩
    · exact start
    · exact start.freePort.writeCommit r
    · exact ((start.freePort.writeCommit r).leaveStage r).flushTest
  | readBackBurstComplete =>
    rcases execReadBackBurstComplete_next h with
      rfl | ⟨r, d, -, -, ⟨-, rfl⟩ | ⟨-, -, rfl⟩ | ⟨-, -, rfl⟩⟩
    · exact start
    · exact start.freePort
    · exact start.freePort.fillBuffer ..
    · exact start.freePort.answerFromMemory _
  | verifyBlockComplete =>
    rcases execVerifyBlockComplete_next h with rfl | ⟨n, m, d, -, -, rfl | ⟨c, -, -, rfl⟩⟩
    · exact start
    · exact start.freePort
    · exact start.freePort.feedBlock ..
  | refillComplete =>
    rcases execRefillComplete_next h with rfl | ⟨v, r, d, -, -, ⟨-, rfl⟩ | ⟨-, rfl⟩⟩
    · exact start
    · exact start.freePort
    · exact start.freePort.joinRing ..
  | sampleTick => exact Host.Outcome.next.inj h ▸ start.sampleTick
  | waysideFrameSent =>
    have sent : Keeps s (s.setZone { s.zone with sending := none }) := start.setZone (by rfl)
    exact Host.Outcome.next.inj h ▸ sent

/-- A step runs the command at the front of the queue, or lets a millisecond pass. -/
theorem step_keeps {s t : State} (h : step s = .next t) : Keeps s t := by
  unfold step at h
  cases queue : s.pending with
  | nil =>
    rw [queue] at h
    exact Host.Outcome.next.inj h ▸ .idle s
  | cons c rest =>
    rw [queue] at h
    exact ((Keeps.refl s).setPending rest).trans (exec_keeps h)

/-- Settles O3: a move begins only where no STOP-class fault is latched, and a STOP-class fault that is
raised stops the vehicle. -/
theorem latchedStopKeepsVehicleStopped : Obligations.LatchedStopKeepsVehicleStopped :=
  fun _ _ held next => (step_keeps next).stops held

/-- Settles O4: configuration leaves READY in PARKED only, and motion leaves PARKED only when READY. -/
theorem motionParkedUnlessReady : Obligations.MotionParkedUnlessReady :=
  fun _ _ held next => (step_keeps next).parked held

/-- Settles O5: memory is written by commit bursts only, and `Memory.wf_writeBlocks` keeps its form. -/
theorem sampleMemoryStaysCanonical : Obligations.SampleMemoryStaysCanonical :=
  fun _ _ held next => (step_keeps next).memory held

/-- Settles O6: each of the four containers is filled only where it has room. -/
theorem hostQueuesStageAndAcksStayBounded : Obligations.HostQueuesStageAndAcksStayBounded :=
  ⟨fun _ _ held next => ⟨(step_keeps next).reports held.1, (step_keeps next).rx held.2⟩,
    fun _ _ held next => ⟨(step_keeps next).stage held.1, (step_keeps next).acks held.2⟩⟩

/-- Settles O7: an entry joins the table where there is room and none of its zone, frames join the
queues where there is room, and the seat records are made from the distinct seats of a COMMIT. -/
theorem zoneAndSeatTablesStayBounded : Obligations.ZoneAndSeatTablesStayBounded := by
  rintro s t ⟨table, queues, seats⟩ next
  have kept := step_keeps next
  exact ⟨kept.table table, kept.queues queues, kept.seats seats⟩

/-- Settles O8: steering sets the raw demand to the range in force, and COMMIT passes no range below
the demand held. -/
theorem steeringDemandStaysInRange : Obligations.SteeringDemandStaysInRange :=
  fun _ _ held next => (step_keeps next).steering held

end Sys2Proof.Claims

namespace Sys2Proof.Claims

open Sys2Proof.Machine

/-! ### Request rows (R206) -/

/-- Settles O1: by definition. -/
theorem stepRunsFrontCommand : Obligations.StepRunsFrontCommand := fun _ _ _ => rfl

/-- A request whose frame is not the one to take does nothing (log 1). -/
theorem onRequest_skip {α : Type} {k : Byte} {b : Body α} {s : State} {act : RxFrame → α → State → State}
    (h : s.host.held ≠ none ∨ s.host.rxQueue = [] ∨ ∃ f rest, s.host.rxQueue = f :: rest ∧ f.kind ≠ k) :
    onRequest k b s act = .next s := by
  have untaken : takeRequest k s = none := by
    cases held : s.host.held with
    | some x => simp [takeRequest, held]
    | none =>
      rcases h with inHand | empty | ⟨f, rest, queue, other⟩
      · exact absurd held inHand
      · simp [takeRequest, held, empty]
      · simp [takeRequest, held, queue, other]
  simp [onRequest, untaken]

/-- A body that does not fit is answered MALFORMED, and nothing else happens (R206). -/
theorem onRequest_misfit {α : Type} {k : Byte} {s : State} {f : RxFrame} {rest : List RxFrame}
    (act : RxFrame → α → State → State) (taken : Taken k s f rest) :
    onRequest k .misfit s act =
      .next { s with host := replied s.host rest (reply f .invalid .malformed .empty) } := by
  obtain ⟨held, queue, kind⟩ := taken
  have sent := sendReply_frameTaken s f rest (.invalid .malformed)
  simp only [onRequest, takeRequest_of held queue kind]
  exact congrArg _ sent

/-- A request that fits is handed to its owner with its frame taken (R206). -/
theorem onRequest_taken {α : Type} {k : Byte} {s : State} {f : RxFrame} {rest : List RxFrame}
    (act : RxFrame → α → State → State) (a : α) (taken : Taken k s f rest) :
    onRequest k (.fit a) s act = .next (act f a (frameTaken s rest)) :=
  onRequest_fit taken.1 taken.2.1 taken.2.2

/-- A request that is answered with no work done only takes its frame and sends its reply. -/
theorem onRequest_answer {α : Type} {k : Byte} {s : State} {f : RxFrame} {rest : List RxFrame}
    {judge : α → State → State × Answer} {a : α} {ans : Answer} (taken : Taken k s f rest)
    (h : judge a (frameTaken s rest) = (frameTaken s rest, ans)) :
    onRequest k (.fit a) s (answering judge) =
      .next { s with host := replied s.host rest (reply f ans.cls ans.detail ans.body) } := by
  rw [onRequest_taken _ a taken, ← sendReply_frameTaken]
  simp [answering, h]

/-- The host link unit after is that after one reply to the frame, but for its reports, its silence
timer and whether the host is silent. -/
def OneReply (f : RxFrame) (s t : State) : Prop :=
  ∃ a : Answer, t.host.port.still = (sendReply f a s).host.port.still

theorem sendReply_port_still (f : RxFrame) (a : Answer) {s t : State}
    (h : t.host.port.still = s.host.port.still) :
    (sendReply f a t).host.port.still = (sendReply f a s).host.port.still := by
  obtain ⟨sending, waiting⟩ :
      t.host.sending = s.host.sending ∧ t.host.waiting = s.host.waiting := by
    simp_all [HostLink.port, HostLink.still]
  simp only [HostLink.port, HostLink.still, HostLink.mk.injEq] at h
  obtain ⟨fast, framer, queue, held, -, -, -, -, counts, -⟩ := h
  cases free : s.host.sending with
  | none =>
    rw [sendReply_free free, sendReply_free (sending.trans free)]
    simp [HostLink.port, HostLink.still, fast, framer, queue, held, waiting, counts]
  | some r =>
    rw [sendReply_busy free, sendReply_busy (sending.trans free)]
    simp [HostLink.port, HostLink.still, fast, framer, queue, held, sending, waiting, counts]

theorem OneReply.answering {α : Type} {judge : α → State → State × Answer} {f : RxFrame} {a : α}
    {s : State} (h : (judge a s).1.host.port.still = s.host.port.still) :
    OneReply f s (answering judge f a s) := ⟨(judge a s).2, sendReply_port_still f _ h⟩

/-- A command is the request row of a kind: its exec takes a frame of that kind, finds a body that does
not fit where the command carries one, and answers at once where its owner may not wait. -/
def IsRow (c : Instr) (k : Byte) : Prop :=
  ∃ (α : Type) (b : Body α) (act : RxFrame → α → State → State),
    (∀ s, exec c s = onRequest k b s act) ∧ (misfit c → b = .misfit) ∧
      (¬ mayWait c → ∀ f a s, OneReply f s (act f a s))

theorem IsRow.answering {α : Type} {c : Instr} {k : Byte} (b : Body α)
    (judge : α → State → State × Answer)
    (h : ∀ s, exec c s = onRequest k b s (answering judge)) (hm : misfit c → b = .misfit)
    (hj : ∀ a s, (judge a s).1.host.port.still = s.host.port.still) : IsRow c k :=
  ⟨α, b, _, h, hm, fun _ _ a s => .answering (hj a s)⟩

theorem IsRow.waiting {α : Type} {c : Instr} {k : Byte} (b : Body α)
    (act : RxFrame → α → State → State) (h : ∀ s, exec c s = onRequest k b s act)
    (hm : misfit c → b = .misfit) (hw : mayWait c) : IsRow c k :=
  ⟨α, b, act, h, hm, fun hn => absurd hw hn⟩

theorem fitRun_misfit {α : Type} {b : Body (Load α)} (h : LongOrMisfit b) : fitRun b = .misfit := by
  rcases h with rfl | ⟨l, rfl, long⟩
  · rfl
  · simp [fitRun, Config.runMax, long]

/-- A load taken in CONFIGURING only leaves the host link unit as its judge does. -/
theorem whileConfiguring_port {judge : State → State × Answer} {s : State}
    (h : (judge s).1.host.port = s.host.port) : (whileConfiguring judge s).1.host.port = s.host.port := by
  unfold whileConfiguring
  split
  · exact h
  · rfl

theorem takeRestart_oneReply (f : RxFrame) (s : State) : OneReply f s (takeRestart f s) := by
  unfold takeRestart
  split
  · exact ⟨_, rfl⟩
  · exact ⟨_, rfl⟩
  · exact ⟨_, rfl⟩
  all_goals exact ⟨.done, by simp⟩

theorem isRow_of_kindOf {c : Instr} {k : Byte} (h : kindOf c = some k) : IsRow c k := by
  cases c <;> cases h
  case beginConfig b => exact .answering b _ (fun _ => rfl) id fun _ _ => by simp
  case pathLoad b =>
    exact .answering (fitRun b) _ (fun _ => rfl) fitRun_misfit fun _ _ =>
      congrArg HostLink.still (whileConfiguring_port (by simp))
  case markerLoad b =>
    exact .answering (fitRun b) _ (fun _ => rfl) fitRun_misfit fun _ _ =>
      congrArg HostLink.still (whileConfiguring_port (by simp))
  case cueLoad b =>
    exact .answering (fitRun b) _ (fun _ => rfl) fitRun_misfit fun _ _ =>
      congrArg HostLink.still (whileConfiguring_port (by simp))
  case seatMap b =>
    exact .answering b _ (fun _ => rfl) id fun _ _ =>
      congrArg HostLink.still (whileConfiguring_port (by simp))
  case limits b =>
    exact .answering b _ (fun _ => rfl) id fun _ _ =>
      congrArg HostLink.still (whileConfiguring_port (by simp))
  case setMix b => exact .answering b _ (fun _ => rfl) id fun _ _ => by simp
  case setGains b => exact .answering b _ (fun _ => rfl) id fun _ _ => by simp
  case commit b => exact .answering b _ (fun _ => rfl) id fun _ _ => by simp
  case restart b => exact ⟨_, b, _, fun _ => rfl, id, fun _ f _ s => takeRestart_oneReply f s⟩
  case enableDrive b => exact .answering b _ (fun _ => rfl) id fun _ _ => by simp
  case disableDrive b => exact .answering b _ (fun _ => rfl) id fun _ _ => by simp
  case dispatch b => exact .answering b _ (fun _ => rfl) id fun _ _ => by simp
  case hold b => exact .answering b _ (fun _ => rfl) id fun _ _ => by simp
  case resume b => exact .answering b _ (fun _ => rfl) id fun _ _ => by simp
  case stop b => exact .answering b _ (fun _ => rfl) id fun _ _ => by simp
  case clearStop b => exact .answering b _ (fun _ => rfl) id fun _ _ => by simp
  case creep b => exact .answering b _ (fun _ => rfl) id fun _ _ => by simp
  case setPosition b order => exact .answering b _ (fun _ => rfl) id fun _ _ => by simp
  case reclaim b => exact .answering b _ (fun _ => rfl) id fun _ _ => by simp
  case zoneStatus b => exact .answering b _ (fun _ => rfl) id fun _ _ => rfl
  case check b => exact .answering b _ (fun _ => rfl) id fun _ _ => by simp
  case release b => exact .answering b _ (fun _ => rfl) id fun _ _ => by simp
  case seatStatus b => exact .answering b _ (fun _ => rfl) id fun _ _ => rfl
  case flagSet b => exact .answering b _ (fun _ => rfl) id fun _ _ => by simp
  case flagExchange b => exact .answering b _ (fun _ => rfl) id fun _ _ => by simp
  case cueStatus b => exact .answering b _ (fun _ => rfl) id fun _ _ => rfl
  case clipDefine b => exact .answering b _ (fun _ => rfl) id fun _ _ => by simp
  case clipData b => exact .waiting b _ (fun _ => rfl) id trivial
  case clipSeal b => exact .waiting b _ (fun _ => rfl) id trivial
  case clipRead b => exact .waiting b _ (fun _ => rfl) id trivial
  case clipErase b => exact .waiting b _ (fun _ => rfl) id trivial
  case clipStatus b => exact .answering b _ (fun _ => rfl) id fun _ _ => by simp
  case voiceStart b => exact .answering b _ (fun _ => rfl) id fun _ _ => by simp
  case voiceStop b => exact .answering b _ (fun _ => rfl) id fun _ _ => by simp
  case voiceGain b => exact .answering b _ (fun _ => rfl) id fun _ _ => by simp
  case mixStatus b => exact .answering b _ (fun _ => rfl) id fun _ _ => by simp
  case faults b => exact .answering b _ (fun _ => rfl) id fun _ _ => rfl
  case clearFaults b => exact .answering b _ (fun _ => rfl) id fun _ _ => by simp
  case status b => exact .answering b _ (fun _ => rfl) id fun _ _ => rfl
  case fetchReports b => exact .answering b _ (fun _ => rfl) id fun _ _ => by simp

/-- Settles O10: every request row goes through `onRequest`, which takes no other frame. -/
theorem requestNotAtHeadChangesNothing : Obligations.RequestNotAtHeadChangesNothing := by
  intro c k s kind other
  obtain ⟨α, b, act, row, -⟩ := isRow_of_kindOf kind
  rw [row]
  exact onRequest_skip other

/-- Settles O11: the row finds the misfit before its owner sees the body. -/
theorem misfitBodyAnsweredMalformed : Obligations.MisfitBodyAnsweredMalformed := by
  intro c k s f rest kind bad taken
  obtain ⟨α, b, act, row, fits, -⟩ := isRow_of_kindOf kind
  rw [row, fits bad]
  exact onRequest_misfit act taken

theorem eq_of_port_still {a b : HostLink} (h : a.port.still = b.port.still) :
    a = { b with reports := a.reports, dropped := a.dropped, silence := a.silence, silent := a.silent } := by
  cases a
  cases b
  simpa [HostLink.port, HostLink.still] using h

/-- Settles O12: an owner that may not wait sends its one reply; a body that does not fit is answered
too. -/
theorem everyRequestGetsOneReply : Obligations.EveryRequestGetsOneReply := by
  intro c k s f rest kind atOnce taken
  obtain ⟨α, b, act, row, -, replies⟩ := isRow_of_kindOf kind
  cases b with
  | misfit =>
    exact ⟨_, _, _, _, (row s).trans (onRequest_misfit act taken), rfl⟩
  | fit a =>
    obtain ⟨ans, host⟩ := replies atOnce f a (frameTaken s rest)
    rw [sendReply_frameTaken] at host
    exact ⟨_, ans.cls, ans.detail, ans.body, (row s).trans (onRequest_taken act a taken),
      eq_of_port_still host⟩

end Sys2Proof.Claims

namespace Sys2Proof.Claims

open Sys2Proof.Machine

/-! ### The transmitter and unknown kinds (R206, R207) -/

/-- One row for each kind of the request list, in its order. -/
def requestRows : List Instr :=
  [.beginConfig .misfit, .pathLoad .misfit, .markerLoad .misfit, .cueLoad .misfit, .seatMap .misfit,
    .limits .misfit, .setMix .misfit, .setGains .misfit, .commit .misfit, .enableDrive .misfit,
    .disableDrive .misfit, .dispatch .misfit, .hold .misfit, .resume .misfit, .stop .misfit,
    .clearStop .misfit, .creep .misfit, .setPosition .misfit .motionZoneCue, .reclaim .misfit,
    .zoneStatus .misfit, .check .misfit, .release .misfit, .seatStatus .misfit, .flagSet .misfit,
    .flagExchange .misfit, .cueStatus .misfit, .clipDefine .misfit, .clipData .misfit,
    .clipSeal .misfit, .clipRead .misfit, .clipErase .misfit, .clipStatus .misfit, .voiceStart .misfit,
    .voiceStop .misfit, .voiceGain .misfit, .mixStatus .misfit, .faults .misfit, .clearFaults .misfit,
    .status .misfit, .fetchReports .misfit, .restart .misfit]

theorem requestRows_kinds : requestRows.map kindOf = requestKinds.map some := by decide

/-- A kind of the request list is the kind of a row. -/
theorem kindOf_of_requestKinds {k : Byte} (h : k ∈ requestKinds) : ∃ c, kindOf c = some k := by
  have mapped : some k ∈ requestRows.map kindOf := requestRows_kinds ▸ List.mem_map_of_mem h
  obtain ⟨c, -, kind⟩ := List.mem_map.1 mapped
  exact ⟨c, kind⟩

theorem exec_unknownKind {s : State} {f : RxFrame} {rest : List RxFrame} (held : s.host.held = none)
    (queue : s.host.rxQueue = f :: rest) (unlisted : f.kind ∉ requestKinds) :
    exec .unknownKind s = .next (sendReply f (.invalid .unknownKind) (frameTaken s rest)) := by
  show execUnknownKind s = _
  simp [execUnknownKind, held, queue, unlisted, frameTaken]

/-- Settles O16. -/
theorem replySentAndUnknownKind : Obligations.ReplySentAndUnknownKind := by
  refine ⟨fun s => ⟨fun none => ?_, fun r rest waiting => ?_⟩, fun s f rest held queue unlisted => ?_⟩
  · show execReplySent s = _
    simp [execReplySent, State.setHost, none]
  · show execReplySent s = _
    simp [execReplySent, State.setHost, waiting]
  · have kinds : f.kind ∉ requestKinds := fun listed =>
      have ⟨c, kind⟩ := kindOf_of_requestKinds listed
      unlisted c kind
    rw [exec_unknownKind held queue kinds, sendReply_frameTaken]
    rfl

/-! ### Status requests -/

/-- The place of a clip in the verify queue is one more than the clips before it (R161). -/
theorem place_of_first {v : VerifyState} {n : Nat} {before after : List Nat}
    (queue : v.queue = before ++ n :: after) (first : n ∉ before) :
    v.place n = some (before.length + 1) := by
  have none : before.findIdx? (· == n) = none := by
    simpa [List.findIdx?_eq_none_iff] using fun x hx => (ne_of_mem_of_not_mem hx first)
  simp [VerifyState.place, queue, List.findIdx?_append, none, List.findIdx?_cons]

theorem place_of_not_mem {v : VerifyState} {n : Nat} (absent : n ∉ v.queue) : v.place n = none := by
  simpa [VerifyState.place, List.findIdx?_eq_none_iff] using
    fun x hx => (ne_of_mem_of_not_mem hx absent)

theorem clipStatus_one {n : Nat} (h : n < 512) (s : State) :
    clipStatus (some n) s = (s, ⟨.done, .done, .clipStatus (s.clipStatusBody n)⟩) := by
  simp [clipStatus, Nat.not_lt.2 (Nat.le_of_lt_succ h)]

theorem clipStatus_range {n : Nat} (h : 511 < n) (s : State) :
    clipStatus (some n) s = (s, .invalid .range) := by
  simp [clipStatus, h]

theorem clipAt_fin (s : State) (n : Fin 512) : s.clipAt n.val = s.clip.dir[n] := by
  simp [State.clipAt]

/-- Settles O17: each owner answers with the body it reads from the state and does nothing. -/
theorem statusRequestsChangeNothing : Obligations.StatusRequestsChangeNothing := by
  intro s f rest
  let u := frameTaken s rest
  refine ⟨fun taken => ?_, fun taken => ?_, fun taken => ?_, fun taken => ?_, fun taken => ?_,
    fun taken n => ?_, fun taken n large => ?_, fun taken => ?_⟩
  · exact ⟨u.statusBody, exec_status taken, rfl, rfl, rfl, rfl, rfl, rfl, rfl, rfl, rfl, rfl⟩
  · exact ⟨u.zoneStatusBody,
      onRequest_answer (ans := ⟨.done, .done, .zoneStatus u.zoneStatusBody⟩) taken rfl,
      rfl, rfl, rfl, rfl, rfl⟩
  · exact ⟨u.seatStatusBody,
      onRequest_answer (ans := ⟨.done, .done, .seatStatus u.seatStatusBody⟩) taken rfl,
      rfl, rfl, rfl, rfl, rfl, rfl⟩
  · exact ⟨u.cueStatusBody,
      onRequest_answer (ans := ⟨.done, .done, .cueStatus u.cueStatusBody⟩) taken rfl,
      rfl, rfl, rfl, rfl, rfl⟩
  · exact ⟨u.clipStoreBody,
      onRequest_answer (ans := ⟨.done, .done, .clipStore u.clipStoreBody⟩) taken rfl,
      rfl, rfl, rfl, rfl⟩
  · refine ⟨u.clipStatusBody n.val, onRequest_answer taken (clipStatus_one n.isLt u),
      rfl, clipAt_fin u n, fun c entry => ?_, fun _ _ queue first => place_of_first queue first,
      fun absent => place_of_not_mem absent, rfl⟩
    have named : (frameTaken s rest).clipAt n.val = some c := (clipAt_fin _ n).trans entry
    simp [State.clipStatusBody, u, named, Clip.blocks]
  · exact onRequest_answer taken (clipStatus_range large u)
  · exact ⟨_, onRequest_answer (ans := faultsAnswer u) taken rfl, rfl⟩

/-! ### FETCH REPORTS (R211) -/

/-- The reports left, with the overflow where there is room. -/
theorem afterFetch_eq (l : HostLink) :
    l.afterFetch =
      if 0 < l.dropped ∧ (l.reports.drop 16).length < 48 then
        { l with reports := l.reports.drop 16 ++ [.event (.overflow l.dropped)], dropped := 0 }
      else { l with reports := l.reports.drop 16 } := rfl

theorem afterFetch_port (l : HostLink) : l.afterFetch.port = l.port := by
  rw [afterFetch_eq]
  split <;> rfl

/-- Settles O18. -/
theorem fetchReportsTakesTheHead : Obligations.FetchReportsTakesTheHead := by
  intro s f rest taken
  have reports : ∀ a, (sendReply f a (fetchReports (frameTaken s rest)).1).host.reports =
      (frameTaken s rest).host.afterFetch.reports := fun a => (sendReply_reports ..).1
  have dropped : ∀ a, (sendReply f a (fetchReports (frameTaken s rest)).1).host.dropped =
      (frameTaken s rest).host.afterFetch.dropped := fun a => (sendReply_reports ..).2.1
  refine ⟨_, (s.host.reports.take 16).map (frameTaken s rest).fetched,
    onRequest_taken _ () taken, ?_, ?_, ?_, ?_, ?_⟩
  · apply State.ext_fields <;> simp [answering, frameTaken]
  · have answered := answered_sendReply f (fetchReports (frameTaken s rest)).2
      (s := s) (rest := rest) (u := (fetchReports (frameTaken s rest)).1) (afterFetch_port _)
    have shown := reports (fetchReports (frameTaken s rest)).2
    simpa [answering, fetchReports, shown, Config.fetchMax, frameTaken] using answered
  · simp
  · intro i e small event
    simp [small, event, State.fetched]
  · simp only [answering, reports, dropped, afterFetch_eq]
    show if 0 < s.host.dropped ∧ (s.host.reports.drop 16).length < 48 then _ else _
    by_cases room : 0 < s.host.dropped ∧ (s.host.reports.drop 16).length < 48
    · simp only [frameTaken, State.setHost_host, room, and_self, if_true]
    · simp only [frameTaken, State.setHost_host, room, if_false, and_self]

end Sys2Proof.Claims

namespace Sys2Proof.Claims

open Sys2Proof.Machine

/-! ### Power-on and time -/

/-- Settles O13: power-on writes every block, and F01, in PARKED, reaches the fault table and the report
queue only. -/
theorem powerOnRestoresResetValues : Obligations.PowerOnRestoresResetValues := by
  intro fast s
  refine ⟨rfl, _, rfl, ?_, rfl, fun c other => ?_, rfl⟩
  · apply State.ext_fields <;> rfl
  · cases c
    case f01 => exact absurd rfl other
    all_goals rfl

/-- F18 is raised as the host becomes silent, with no effect on motion (R213). -/
theorem exec_silence_raises {s : State} {n : Nat} (timer : s.host.silence = .running n)
    (heard : s.host.silent = false) :
    exec .hostSilenceTimeout s =
      .next (raiseQuiet .f18 .hold .none (s.setHost { s.host with silence := .expired, silent := true })) := by
  show execHostSilenceTimeout s = _
  simp [execHostSilenceTimeout, timer, Timer.isRunning, heard]

/-- A fault that is raised posts its report where the queue has room (R209). -/
theorem raiseQuiet_posts (c : FaultCode) (k : FaultClass) (d : FaultDetail) (s : State)
    (room : s.host.reports.length ≤ 40) :
    Report.event (.faultRaised c k ((s.faultRec c).raised k d).count d) ∈
      (raiseQuiet c k d s).host.reports := by
  have posted : Report.event (.faultRaised c k ((s.faultRec c).raised k d).count d) ∈
      (recordRaise c k d s).host.reports :=
    postEvent_self _ _ (Nat.lt_of_le_of_lt room (by decide))
  unfold raiseQuiet
  rw [noteSummary_event]
  unfold endMomentary
  split
  · exact posted
  · exact posted

/-- One millisecond of a timer, as the statements spell it (log 2). -/
theorem later_eq_tick (t : Timer) : later t = t.tick := by cases t <;> rfl

/-- Settles O2: `State.idle` ticks each timer on its own, and F18's raising is quiet. -/
theorem idleTimePassesAndSilenceRaisesF18 : Obligations.IdleTimePassesAndSilenceRaisesF18 := by
  refine ⟨fun s empty => ⟨s.idle, ?_, ?_, fun stopped => ?_, fun started => ?_, fun o => ?_, ?_⟩,
    fun s n timer => ⟨fun heard inactive => ?_, fun silent => ?_⟩⟩
  · unfold step
    rw [empty]
  · simp only [later_eq_tick]
    apply State.ext_fields
    case h5 =>
      show s.zone.tick = { s.zone with
        linkTimer := s.zone.tick.linkTimer, beaconTimer := s.zone.tick.beaconTimer
        sinceFrame := s.zone.sinceFrame.map (· + 1), table := s.zone.tick.table }
      unfold ZoneUnit.tick
      dsimp only
      split <;> rfl
    all_goals rfl
  · show s.zone.tick.linkTimer = _ ∧ s.zone.tick.beaconTimer = _ ∧ s.zone.tick.table = _
    simp [ZoneUnit.tick, stopped]
  · show s.zone.tick.linkTimer = _ ∧ s.zone.tick.beaconTimer = _ ∧ s.zone.tick.table = _
    simp only [ZoneUnit.tick, started, if_false, later_eq_tick, true_and]
    exact List.map_congr_left fun r _ => by cases timer : r.timer <;> simp [ResTimer.tick]
  · show (s.cue.outputs.map OutputState.tick)[o] = _
    cases output : s.cue.outputs[o] <;> simp_all [OutputState.tick]
  · show s.cue.acks.map AckEntry.tick = _
    refine List.map_congr_left fun e _ => ?_
    obtain ⟨id, tag, controller, number, late, sends, stage⟩ := e
    cases stage <;> rfl
  · have host := HostLink.eq_of_port
      (raiseQuiet_frame .f18 .hold .none
        (s.setHost { s.host with silence := .expired, silent := true })).2.2.2.2.2.2.2.2.2.1
    refine ⟨_, exec_silence_raises timer heard, ?_, host, ?_, fun c other => ?_, fun room => ?_⟩
    · apply State.ext_fields <;> simp
    · simp [FaultRecord.raised, FaultCode.momentary, bump]
    · simp [other]
    · exact raiseQuiet_posts .f18 .hold .none _ room
  · show execHostSilenceTimeout s = _
    simp [execHostSilenceTimeout, timer, Timer.isRunning, silent, State.setHost]

/-! ### The framer (R204) -/

@[simp] theorem framerScan_nil (n : Nat) : framerScan n [] = ([], []) := by cases n <;> rfl

/-- The framer hunts over bytes that are no sync byte. -/
theorem framerScan_skip (n : Nat) (skipped buf : List Byte) (h : ∀ b ∈ skipped, b ≠ 0xC3) :
    framerScan (skipped.length + n) (skipped ++ buf) = framerScan n buf := by
  induction skipped with
  | nil => simp
  | cons b bs ih =>
    have other : b ≠ hostSync := h b (by simp)
    have more := ih fun x hx => h x (by simp [hx])
    rw [List.length_cons, Nat.add_right_comm, List.cons_append]
    simpa [framerScan, other] using more

/-- The length field of a body that a host frame carries. -/
theorem ofLe16_length {n : Nat} (h : n ≤ 1100) :
    (ofLe16 (BitVec.ofNat 8 n) (BitVec.ofNat 8 (n / 256))).toNat = n := by
  simp only [ofLe16, BitVec.toNat_append, BitVec.toNat_ofNat]
  rw [← Nat.shiftLeft_add_eq_or_of_lt (Nat.mod_lt _ (by decide)), Nat.shiftLeft_eq]
  omega

/-- A 16-bit value high byte first, by its number. -/
theorem be16_eq (w : BitVec 16) :
    be16 w = [BitVec.ofNat 8 (w.toNat / 256), BitVec.ofNat 8 w.toNat] := by
  have hi : (w >>> 8).setWidth 8 = BitVec.ofNat 8 (w.toNat / 256) := by
    apply BitVec.eq_of_toNat_eq
    simp [Nat.shiftRight_eq_div_pow]
  have lo : w.setWidth 8 = BitVec.ofNat 8 w.toNat := by
    apply BitVec.eq_of_toNat_eq
    simp
  rw [be16, hi, lo]

/-- A whole frame on the line is found valid. -/
theorem framerScan_frame (n : Nat) (tag kind : Byte) (body : List Byte) (h : body.length ≤ 1100) :
    framerScan (n + 1) (frameOnLine tag kind body) = ([.valid ⟨tag, kind, body⟩], []) := by
  have length := ofLe16_length h
  have fits : ¬ body.length > Config.hostBodyMax := Nat.not_lt.2 h
  simp only [frameOnLine, ← be16_eq, List.cons_append, List.nil_append]
  unfold framerScan
  simp only [hostSync, ne_eq, not_true_eq_false, if_false, length, fits]
  simp [be16]

theorem framerFeed_frame (skipped : List Byte) (tag kind : Byte) (body : List Byte)
    (hs : ∀ b ∈ skipped, b ≠ 0xC3) (h : body.length ≤ 1100) :
    framerFeed [] (skipped ++ frameOnLine tag kind body) = ([.valid ⟨tag, kind, body⟩], []) := by
  have one : (skipped ++ frameOnLine tag kind body).length =
      skipped.length + (body.length + 6 + 1) := by
    simp [frameOnLine]
  unfold framerFeed
  rw [List.nil_append, one, framerScan_skip _ _ _ hs, framerScan_frame _ _ _ _ h]

/-! ### A valid frame (R204, R205, R213) -/

/-- The host is heard: the silence timer starts again and the host is silent no longer. -/
def heardHost (s : State) : State := endSilent (startSilence s)

theorem heardHost_host (s : State) :
    (heardHost s).host =
      { s.host with
        silence :=
          if s.lim.hostSilence = 0 then s.host.silence else .running (1000 * s.lim.hostSilence)
        silent := false
        reports := (heardHost s).host.reports, dropped := (heardHost s).host.dropped } := by
  have port : (heardHost s).host.port =
      { (startSilence s).host with silent := false }.port := by simp [heardHost, endSilent]
  have host := HostLink.eq_of_port port
  rw [host]
  unfold startSilence
  split <;> simp

@[simp] theorem heardHost_rec (s : State) (c : FaultCode) :
    (heardHost s).faultRec c =
      if c = .f18 then
        { s.faultRec .f18 with
          active := false
          latched := (s.faultRec .f18).latched &&
            !((s.faultRec .f18).active && (startSilence s).selfClears .f18) }
      else s.faultRec c := by
  have table : ∀ d, (startSilence s).faultRec d = s.faultRec d :=
    fun d => State.faultRec_congr (startSilence_frame s).2.2.2.2.2.2.2.2.2.1 d
  unfold heardHost endSilent
  rw [endCond_rec]
  simp [table, State.selfClears]

theorem heardHost_frame (s : State) :
    heardHost s = { s with host := (heardHost s).host, fault := (heardHost s).fault } := by
  apply State.ext_fields <;> simp [heardHost]

/-- The framer hunts again after a frame. -/
def hunting (s : State) : State := s.setHost { s.host with framer := [] }

theorem exec_hostFrame {bytes : List Byte} {s : State} {f : RxFrame}
    (idle : s.host.framer = []) (framed : framerFeed [] bytes = ([.valid f], [])) :
    exec (.hostFrameReceived bytes) s = .next (receiveValid f (hunting s)) := by
  show execHostFrameReceived bytes s = _
  simp [execHostFrameReceived, idle, framed, receiveFramed, hunting]

/-- The host link unit as a whole frame is found: silence and the reports apart, only the framer and
whether the host is silent changed. -/
theorem heardHost_hunting (s : State) :
    ∃ silence reports dropped, (heardHost (hunting s)).host =
      { s.host with
        framer := [], silence := silence, silent := false, reports := reports, dropped := dropped } :=
  ⟨_, _, _, heardHost_host (hunting s)⟩

theorem receiveValid_room {f : RxFrame} {s : State} (room : s.host.rxQueue.length < 4) :
    receiveValid f s =
      (heardHost s).setHost
        { (heardHost s).host with rxQueue := (heardHost s).host.rxQueue ++ [f] } := by
  have waiting : (heardHost s).host.rxQueue.length < Config.rxQueueMax := by
    rw [heardHost_host]
    exact room
  exact if_pos waiting

theorem receiveValid_full {f : RxFrame} {s : State} (full : s.host.rxQueue.length = 4) :
    receiveValid f s = overrun f (heardHost s) := by
  have waiting : ¬ (heardHost s).host.rxQueue.length < Config.rxQueueMax := by
    rw [heardHost_host]
    simp [full, Config.rxQueueMax]
  exact if_neg waiting

/-- The state with the overrun counted (R205). -/
def overrunCounted (s : State) : State :=
  setCounts { s.host.counts with overrun := bump 65535 s.host.counts.overrun } s

/-- While fewer than 4 OVERRUN replies wait, another is made (R207). -/
theorem overrun_answered {f : RxFrame} {s : State} (few : s.host.overrunsWaiting < 4) :
    overrun f s = sendReply f (.refuse .overrun) (overrunCounted s) := if_pos few

theorem overrun_unanswered {f : RxFrame} {s : State} (many : 4 ≤ s.host.overrunsWaiting) :
    overrun f s =
      setCounts
        { (overrunCounted s).host.counts with unanswered := bump 255 s.host.counts.unanswered }
        (overrunCounted s) := if_neg (Nat.not_lt.2 many)

theorem overrunsWaiting_eq (h : HostLink) :
    h.overrunsWaiting = (h.waiting.filter fun r => r.detail = .overrun).length :=
  List.countP_eq_length_filter

/-- Settles O14: the framer finds the one valid frame, and it joins the queue or overruns. -/
theorem validFrameJoinsQueueOrOverruns : Obligations.ValidFrameJoinsQueueOrOverruns := by
  refine ⟨fun skipped tag kind body s hunt fits idle room => ?_, fun tag kind body s fits idle full => ?_⟩
  · have framed := framerFeed_frame skipped tag kind body hunt fits
    have host := heardHost_host (hunting s)
    have taken := receiveValid_room (f := ⟨tag, kind, body⟩) (s := hunting s) room
    refine ⟨_, (exec_hostFrame idle framed).trans (congrArg _ taken), ?_, ?_, ?_, fun c other => ?_⟩
    · apply State.ext_fields <;> simp [heardHost, hunting]
    · rw [State.setHost_host, host]
      rfl
    · simp [State.faultActive]
    · simp [other, hunting]
  · have framed := framerFeed_frame [] tag kind body (by simp) fits
    obtain ⟨silence, reports, dropped, host⟩ := heardHost_hunting s
    have waiting : (heardHost (hunting s)).host.overrunsWaiting =
        (s.host.waiting.filter fun r => r.detail = .overrun).length := by
      rw [overrunsWaiting_eq, host]
    have overruns := receiveValid_full (f := ⟨tag, kind, body⟩) (s := hunting s) full
    refine ⟨_, (exec_hostFrame idle framed).trans (congrArg _ overruns), ?_, ?_⟩
    · apply State.ext_fields <;> simp [heardHost, hunting]
    by_cases few : (heardHost (hunting s)).host.overrunsWaiting < 4
    · rw [overrun_answered few]
      rw [waiting] at few
      cases sending : s.host.sending with
      | none =>
        have free : (overrunCounted (heardHost (hunting s))).host.sending = none := by
          simp [overrunCounted, setCounts, host, sending]
        rw [sendReply_free free, replied_free sending]
        simp [overrunCounted, setCounts, host, bump, replyTo, reply, Answer.refuse, few]
      | some r =>
        have busy : (overrunCounted (heardHost (hunting s))).host.sending = some r := by
          simp [overrunCounted, setCounts, host, sending]
        rw [sendReply_busy busy, replied_busy sending]
        simp [overrunCounted, setCounts, host, bump, replyTo, reply, Answer.refuse, few, sending]
    · have many := Nat.le_of_not_lt few
      rw [overrun_unanswered many]
      rw [waiting] at many
      simp [overrunCounted, setCounts, host, bump, many]

end Sys2Proof.Claims

namespace Sys2Proof.Claims

open Sys2Proof.Machine

/-! ### F10 (R91) -/

/-- A fault that is raised with a class other than STOP has no effect on motion (R187). -/
theorem raiseAs_quiet {c : FaultCode} {k : FaultClass} (hk : k ≠ .stop) (d : FaultDetail) (s : State) :
    raiseAs c k d s = raiseQuiet c k d s := by
  cases k
  case stop => exact absurd rfl hk
  all_goals rfl

/-- Raising a fault other than F01 touches no other record (R185). -/
theorem raiseAs_rec_other {c e : FaultCode} (hc : c ≠ .f01) (he : e ≠ c) (k : FaultClass)
    (d : FaultDetail) (s : State) : (raiseAs c k d s).faultRec e = s.faultRec e := by
  have other : (recordRaise c k d s).faultRec e = s.faultRec e := by simp [he]
  unfold raiseAs
  rw [noteSummary_rec, endMomentary_rec]
  simp only [he]
  cases k with
  | stop =>
    show (if c = .f01 then _ else _ : State).faultRec e = _
    rw [if_neg hc, stopCause_rec, other]
  | hold => exact other
  | note => exact other

/-- The test of F10 touches no other record (R91). -/
theorem testF10_rec_other {c : FaultCode} (hc : c ≠ .f10) (d : FaultDetail) (s : State) :
    (testF10 d s).faultRec c = s.faultRec c := by
  unfold testF10
  split
  · split
    · rfl
    · exact raiseAs_rec_other (by decide) hc ..
  · simp [hc]

/-- While motion is not RUN, CREEP or STOPPING, F10 is a HOLD-class fault (R91). -/
theorem f10Class_of_parked {s : State} (h : s.mstate = .parked) : s.f10Class = .hold := by
  simp [State.f10Class, h]

/-- Where F10 would be raised with class HOLD, its test reaches the fault table and the reports only. -/
theorem testF10_quiet {s : State} (h : s.f10Class = .hold) (d : FaultDetail) :
    (testF10 d s).guide = s.guide ∧ (testF10 d s).motion = s.motion ∧ (testF10 d s).seat = s.seat ∧
      (testF10 d s).cue = s.cue ∧ (testF10 d s).voice = s.voice ∧ (testF10 d s).mstate = s.mstate := by
  unfold testF10
  split
  · split
    · exact ⟨rfl, rfl, rfl, rfl, rfl, rfl⟩
    · rw [h, raiseAs_quiet (by decide)]
      simp
  · simp

/-! ### BEGIN CONFIG (R195, R196) -/

/-- The queues are emptied and nothing else of the zone unit changes (R88). -/
@[simp] theorem emptyQueues_zone (w : Bool) (s : State) :
    (emptyQueues w s).zone = { s.zone with mailbox := [], long := [] } := by
  unfold emptyQueues
  rw [foldl_zone _ (by simp)]
  rfl

/-- With no frame in the long queue no cue is told NOT SENT. -/
theorem emptyQueues_cue_nil {s : State} (h : s.zone.long = []) (w : Bool) :
    (emptyQueues w s).cue = s.cue := by
  simp [emptyQueues, h]

/-- A SCENE CUE taken from the long queue reaches the cues and the acknowledgement table only. -/
theorem dropLong_cue (w : Bool) (s : State) (f : LongFrame) :
    (dropLong w s f).cue =
      { s.cue with cues := (dropLong w s f).cue.cues, acks := (dropLong w s f).cue.acks } := by
  cases f <;> rfl

theorem emptyQueues_cue (w : Bool) (s : State) :
    (emptyQueues w s).cue =
      { s.cue with cues := (emptyQueues w s).cue.cues, acks := (emptyQueues w s).cue.acks } := by
  have fold : ∀ (l : List LongFrame) (u : State), (l.foldl (dropLong w) u).cue =
      { u.cue with
        cues := (l.foldl (dropLong w) u).cue.cues, acks := (l.foldl (dropLong w) u).cue.acks } := by
    intro l
    induction l with
    | nil => exact fun u => rfl
    | cons f l ih =>
      intro u
      rw [List.foldl_cons, ih, dropLong_cue]
  exact fold ..

/-- The hold point is worked out while READY only (R81). -/
theorem recomputeHold_notReady {s : State} (h : s.isReady = false) :
    (recomputeHold s).zone = { s.zone with hold := none } := by
  simp [recomputeHold, State.holdPointNow, h]

/-- The wayside link is stopped in PARKED with no effect on motion (R90, R91). -/
theorem stopLink_parked {s : State} (h : s.mstate = .parked) :
    (stopLink s).guide = s.guide ∧ (stopLink s).motion = s.motion ∧ (stopLink s).seat = s.seat ∧
      (stopLink s).voice = s.voice ∧
      (stopLink s).zone =
        { s.zone with
          link := .stopped, linkTimer := .stopped, beaconTimer := .stopped, mailbox := [], long := [] } ∧
      (stopLink s).cue =
        { s.cue with cues := (stopLink s).cue.cues, acks := (stopLink s).cue.acks } ∧
      (s.zone.long = [] → (stopLink s).cue = s.cue) := by
  let u := s.setZone { s.zone with link := .stopped, linkTimer := .stopped, beaconTimer := .stopped }
  have quiet : (emptyQueues true u).f10Class = .hold := f10Class_of_parked (by simp [u, h])
  obtain ⟨guide, motion, seat, cue, voice, -⟩ := testF10_quiet quiet .link
  have same : stopLink s = testF10 .link (emptyQueues true u) := rfl
  refine ⟨?_, ?_, ?_, ?_, ?_, ?_, fun empty => ?_⟩
  · rw [same, guide]
    simp [u]
  · rw [same, motion]
    simp [u]
  · rw [same, seat]
    simp [u]
  · rw [same, voice]
    simp [u]
  · rw [same]
    simp [u]
  · rw [same, cue]
    exact emptyQueues_cue true u
  · rw [same, cue]
    exact emptyQueues_cue_nil (s := u) empty true

theorem exec_beginConfig {s : State} {f : RxFrame} {rest : List RxFrame} (taken : Taken 0x01 s f rest)
    (closed : s.config.record.state ≠ .configuring) (parked : s.mstate = .parked) :
    exec (.beginConfig (.fit ())) s =
      .next (sendReply f .done (beginConfigBlocks (openSession (frameTaken s rest)))) := by
  have judged : beginConfig (frameTaken s rest) =
      (beginConfigBlocks (openSession (frameTaken s rest)), .done) := by
    have configuring : (frameTaken s rest).configuring = false := decide_eq_false closed
    have still : (frameTaken s rest).mstate = .parked := parked
    simp [beginConfig, configuring, still]
  refine (onRequest_taken (answering fun _ => beginConfig) () taken).trans ?_
  simp [answering, judged]

/-- The loop's closing round is still to be made (R97). -/
@[simp] theorem closeLoop_seat (s : State) :
    (closeLoop s).seat =
      { s.seat with
        loop := if s.seat.loop = .started then .closing else s.seat.loop
        roundTimer := if s.seat.loop = .started then .stopped else s.seat.roundTimer } := by
  unfold closeLoop
  by_cases started : s.seat.loop = .started <;> simp [started]

@[simp] theorem clearPermit_seat (c : PermitCause) (s : State) :
    (clearPermit c s).seat = { s.seat with permit := false, permitCause := c } := by
  unfold clearPermit
  dsimp only
  split <;> simp

@[simp] theorem stopGuideTimer_guide (s : State) :
    (stopGuideTimer s).guide = { s.guide with timer := .stopped } := by simp [stopGuideTimer]

/-- BEGIN CONFIG, with configuration CONFIGURING and motion PARKED, is handed to each block (R196). -/
theorem beginConfigBlocks_parked {s : State} (parked : s.mstate = .parked) (closed : s.isReady = false) :
    (beginConfigBlocks s).guide = { s.guide with timer := .stopped } ∧
      (beginConfigBlocks s).faultActive .f03 = false ∧ (beginConfigBlocks s).motion = s.motion ∧
      (beginConfigBlocks s).voice = s.voice ∧
      (beginConfigBlocks s).zone =
        { s.zone with
          link := .stopped, linkTimer := .stopped, beaconTimer := .stopped, mailbox := [], long := []
          hold := none } ∧
      (beginConfigBlocks s).seat =
        { s.seat with
          permit := false, permitCause := .beginConfig
          loop := if s.seat.loop = .started then .closing else s.seat.loop
          roundTimer := if s.seat.loop = .started then .stopped else s.seat.roundTimer } ∧
      (beginConfigBlocks s).cue =
        { s.cue with
          cues := (beginConfigBlocks s).cue.cues, outputs := Vector.replicate 8 .off, acks := [] } ∧
      (s.zone.long = [] → (beginConfigBlocks s).cue.cues = s.cue.cues) := by
  obtain ⟨guide, motion, seat, voice, zone, cue, keptCue⟩ :=
    stopLink_parked (s := stopGuideTimer s) (by simp [parked])
  have notReady : (stopLink (stopGuideTimer s)).isReady = false := by
    simpa [State.isReady] using closed
  have table : ∀ c, (beginConfigBlocks s).faultRec c = (stopLink (stopGuideTimer s)).faultRec c :=
    State.faultRec_congr (by simp [beginConfigBlocks])
  refine ⟨?_, ?_, ?_, ?_, ?_, ?_, ?_, fun empty => ?_⟩
  · simp [beginConfigBlocks, guide]
  · have others : ∀ u : State, (stopLink u).faultRec .f03 = u.faultRec .f03 := fun u =>
      (testF10_rec_other (by decide) ..).trans (State.faultRec_congr (by simp) _)
    rw [State.faultActive, table, others]
    simp [stopGuideTimer]
  · simp [beginConfigBlocks, motion]
  · simp [beginConfigBlocks, voice]
  · simp [beginConfigBlocks, recomputeHold_notReady notReady, zone]
  · simp [beginConfigBlocks, seat]
  · simp [beginConfigBlocks, emptyAcks, outputsOff]
    rw [cue]
    simp
  · simp [beginConfigBlocks, emptyAcks, outputsOff, keptCue (by simpa using empty)]

/-- Settles O20: the session is opened first, and each block then takes BEGIN CONFIG in PARKED. -/
theorem beginConfigOpensSession : Obligations.BeginConfigOpensSession := by
  intro s f rest taken closed parked
  let u := openSession (frameTaken s rest)
  have config : u.config =
      { s.config with
        record := { s.config.record with state := .configuring }
        loaded := s.config.committed, loadedMap := s.config.committedMap } := by
    simp [u, openSession, reportConfig, frameTaken]
  obtain ⟨guide, f03, motion, voice, zone, seat, cue, cues⟩ :=
    beginConfigBlocks_parked (s := u) (by simpa [u, frameTaken] using parked)
      (by simp [State.isReady, config])
  refine ⟨_, exec_beginConfig taken closed parked, answered_sendReply f .done (by simp), ?_, ?_, ?_, ?_,
    ?_, ?_, ?_, ?_, ?_, ?_, fun empty => ?_⟩
  · simp [frameTaken]
  · simpa [u] using config
  · simpa [u, frameTaken] using guide
  · simpa [State.faultActive] using f03
  · simpa [u, frameTaken] using motion
  · simp [frameTaken]
  · simpa [u, frameTaken] using voice
  · simpa [u, frameTaken] using zone
  · simpa [u, frameTaken] using seat
  · simpa [u, frameTaken] using cue
  · simpa [u, frameTaken] using cues (by simpa [u, frameTaken] using empty)

end Sys2Proof.Claims

namespace Sys2Proof.Claims

open Sys2Proof.Machine

/-! ### Loads (R2, R5, R95, R121, R197, R198) -/

/-- A reply from a state whose host link unit differs only by the frame taken. -/
theorem sendReply_of_host {s u : State} {rest : List RxFrame} (f : RxFrame) (a : Answer)
    (h : u.host = (frameTaken s rest).host) :
    sendReply f a u = { u with host := replied s.host rest (reply f a.cls a.detail a.body) } := by
  have sent := congrArg State.host (sendReply_frameTaken s f rest a)
  have other : sendReply f a u = { u with host := (sendReply f a (frameTaken s rest)).host } := by
    unfold sendReply handReply
    rw [← h]
    cases u.host.sending <;> rfl
  rw [other, sent]

/-- A request whose owner changes other blocks than the host link unit, and answers. -/
theorem onRequest_change {α : Type} {k : Byte} {s u : State} {f : RxFrame} {rest : List RxFrame}
    {judge : α → State → State × Answer} {a : α} {ans : Answer} (taken : Taken k s f rest)
    (h : judge a (frameTaken s rest) = (u, ans)) (host : u.host = (frameTaken s rest).host) :
    onRequest k (.fit a) s (answering judge) =
      .next { u with host := replied s.host rest (reply f ans.cls ans.detail ans.body) } := by
  rw [onRequest_taken _ a taken, ← sendReply_of_host f ans host]
  simp [answering, h]

/-- A run is accepted when each record is, and each has a place in the table (R2). -/
theorem judgeLoad_none {α : Type} {max n : Nat} {ok : α → Bool} {l : Load α} (start : l.start ≤ n)
    (room : l.start + l.run.length ≤ max) (fits : ∀ r ∈ l.run, ok r = true) :
    judgeLoad max n ok l = none := by
  have offending : ∀ (rs : List α) (i : Nat), i + rs.length ≤ max → (∀ r ∈ rs, ok r = true) →
      firstOffending max ok i rs = none := by
    intro rs
    induction rs with
    | nil => exact fun i _ _ => rfl
    | cons r rs ih =>
      intro i space all
      rw [List.length_cons] at space
      have here : i < max := by omega
      simp only [firstOffending, all r (by simp), here, decide_true, Bool.and_self, if_true]
      exact ih (i + 1) (by omega) fun x hx => all x (by simp [hx])
  rw [judgeLoad, if_neg (Nat.not_lt.2 start)]
  exact offending _ _ room fits

theorem spliceRun_eq_loaded {α : Type} (table : List α) (start : Nat) (run : List α) :
    spliceRun table start run = loaded table start run := by
  cases run <;> rfl

theorem fitRun_fit {α : Type} {l : Load α} (h : l.run.length ≤ 64) : fitRun (.fit l) = .fit l := by
  simp [fitRun, Config.runMax, Nat.not_lt.2 h]

theorem whileConfiguring_open {s : State} (h : s.config.record.state = .configuring)
    (judge : State → State × Answer) : whileConfiguring judge s = judge s := by
  simp [whileConfiguring, State.configuring, h]

theorem whileConfiguring_closed {s : State} (h : s.config.record.state ≠ .configuring)
    (judge : State → State × Answer) : whileConfiguring judge s = (s, .refuse .config) := by
  simp [whileConfiguring, State.configuring, h]

theorem pathLoad_accepted {l : Load Segment} {s : State}
    (h : judgeLoad 512 s.guide.path.length segmentInRange l = none) :
    pathLoad l s =
      (s.setGuide { s.guide with path := loaded s.guide.path l.start l.run },
        ⟨.done, .done,
          .path (loaded s.guide.path l.start l.run).length
            (lapLength (loaded s.guide.path l.start l.run))⟩) := by
  simp [pathLoad, Config.segmentMax, h, spliceRun_eq_loaded]

theorem markerLoad_accepted {l : Load Marker} {s : State}
    (h : judgeLoad 256 s.guide.markers.length markerInRange l = none) :
    markerLoad l s =
      (s.setGuide { s.guide with markers := loaded s.guide.markers l.start l.run },
        ⟨.done, .done, .number (loaded s.guide.markers l.start l.run).length⟩) := by
  simp [markerLoad, Config.markerMax, h, spliceRun_eq_loaded]

theorem loadSeatMap_accepted {m : SeatMap} {s : State} (few : m.entries.length ≤ 16)
    (addresses : ∀ e ∈ m.entries, e.addr ≤ 255) (clip : ∀ c, m.clip = some c → c ≤ 511) :
    loadSeatMap m s = (s.setConfig { s.config with loadedMap := m }, .done) := by
  have accepted : firstOffending 16 (fun e : SeatEntry => decide (e.addr ≤ 255)) 0 m.entries = none :=
    judgeLoad_none (n := 0) (l := ⟨0, m.entries⟩) (Nat.zero_le _) (by simpa using few)
      (by simpa using addresses)
  have clipFits : (m.clip.map fun c => decide (511 < c)) ≠ some true := by
    cases named : m.clip with
    | none => simp
    | some c => simp [clip c named]
  simp [loadSeatMap, Config.seatMax, accepted, clipFits]

/-- A LIMITS list is accepted when it names each limit once, in range (R198). -/
theorem firstBadLimit_none (l : List (Nat × Nat)) :
    ∀ (place : Nat) (seen : List Nat), place + l.length ≤ 28 → (l.map (·.1)).Nodup →
      (∀ p ∈ l, p.1 ∉ seen) →
      (∀ p ∈ l, ∃ i : Fin 27, p.1 = i + 1 ∧ Limits.lows[i] ≤ p.2 ∧ p.2 ≤ Limits.highs[i]) →
      firstBadLimit place seen l = none := by
  induction l with
  | nil => exact fun _ _ _ _ _ _ => rfl
  | cons p l ih =>
    intro place seen space distinct unseen ranges
    obtain ⟨n, v⟩ := p
    obtain ⟨i, rfl, low, high⟩ := ranges _ List.mem_cons_self
    simp only [List.map_cons, List.nodup_cons, List.length_cons] at distinct space
    obtain ⟨once, distinct⟩ := distinct
    have number : 1 ≤ i.val + 1 ∧ i.val + 1 ≤ 27 := ⟨by omega, by omega⟩
    have inRange : Limits.inRange i v = true := by simpa [Limits.inRange] using ⟨low, high⟩
    have here : place ≤ 27 ∧ i.val + 1 ∉ seen ∧ Limits.inRange i v = true :=
      ⟨by omega, unseen _ List.mem_cons_self, inRange⟩
    unfold firstBadLimit
    rw [dif_pos number]
    refine (if_pos here).trans ?_
    refine ih _ _ (by omega) distinct (fun q hq => ?_) fun q hq => ranges q (List.mem_cons_of_mem _ hq)
    rw [List.mem_cons, not_or]
    exact ⟨fun same => once (same ▸ List.mem_map_of_mem hq), unseen q (List.mem_cons_of_mem _ hq)⟩

/-- A limit that no entry names keeps its value. -/
theorem loadLimits_other (l : List (Nat × Nat)) :
    ∀ (old : Limits) (i : Fin 27), (∀ p ∈ l, p.1 ≠ i + 1) → (loadLimits old l)[i] = old[i] := by
  induction l with
  | nil => exact fun _ _ _ => rfl
  | cons p l ih =>
    intro old i unnamed
    obtain ⟨n, v⟩ := p
    unfold loadLimits
    rw [ih _ i fun q hq => unnamed q (List.mem_cons_of_mem _ hq)]
    have other : n ≠ i + 1 := unnamed _ List.mem_cons_self
    split
    · simp only [Fin.getElem_fin]
      rw [Vector.getElem_set_ne]
      omega
    · rfl

/-- A limit that one entry names takes the entry's value. -/
theorem loadLimits_named (l : List (Nat × Nat)) :
    ∀ old : Limits, (l.map (·.1)).Nodup → ∀ p ∈ l, ∀ i : Fin 27, p.1 = i + 1 →
      (loadLimits old l)[i] = p.2 := by
  induction l with
  | nil => exact fun _ _ p hp => absurd hp List.not_mem_nil
  | cons q l ih =>
    intro old distinct p hp i number
    obtain ⟨n, v⟩ := q
    simp only [List.map_cons, List.nodup_cons] at distinct
    obtain ⟨once, distinct⟩ := distinct
    unfold loadLimits
    rcases List.mem_cons.1 hp with rfl | later
    · have unnamed : ∀ x ∈ l, x.1 ≠ i + 1 := fun x hx same =>
        once (List.mem_map.2 ⟨x, hx, same.trans number.symm⟩)
      rw [loadLimits_other l _ i unnamed]
      obtain rfl : n = i + 1 := number
      simp
    · exact ih _ distinct p later i number

theorem limitsLoad_accepted {l : List (Nat × Nat)} {s : State} (nonempty : l ≠ [])
    (h : firstBadLimit 1 [] l = none) :
    limitsLoad l s =
      (s.setConfig { s.config with loaded := loadLimits s.config.loaded l },
        ⟨.done, .done, .number l.length⟩) := by
  simp [limitsLoad, nonempty, h]

/-- Settles O21: the judge of each load accepts the run, and puts it in its table or set. -/
theorem loadsReplaceRunsAndLoadedSets : Obligations.LoadsReplaceRunsAndLoadedSets := by
  refine ⟨⟨fun s f rest start run taken configuring few place room ranges => ?_,
      fun s f rest start run taken configuring few place room ranges => ?_⟩,
    fun s f rest m taken configuring few addresses clip => ?_,
    fun s f rest l taken configuring nonempty few distinct ranges =>
      ⟨loadLimits s.config.loaded l, ?_, loadLimits_named l _ distinct, loadLimits_other l _⟩⟩
  · have accepted : judgeLoad 512 (frameTaken s rest).guide.path.length segmentInRange ⟨start, run⟩ =
        none := judgeLoad_none place room fun g hg => by
      obtain ⟨a, b, c, d, e, h, i, j⟩ := ranges g hg
      simp [segmentInRange, a, b, c, d, e, h, i, j]
    have judged := (whileConfiguring_open (s := frameTaken s rest) configuring _).trans
      (pathLoad_accepted accepted)
    show onRequest 0x02 (fitRun (.fit ⟨start, run⟩)) s _ = _
    rw [fitRun_fit few]
    exact onRequest_change (judge := fun l => whileConfiguring (pathLoad l)) taken judged rfl
  · have accepted : judgeLoad 256 (frameTaken s rest).guide.markers.length markerInRange ⟨start, run⟩ =
        none := judgeLoad_none place room fun m hm => by
      simpa [markerInRange, Config.positionMax] using ranges m hm
    have judged := (whileConfiguring_open (s := frameTaken s rest) configuring _).trans
      (markerLoad_accepted accepted)
    show onRequest 0x03 (fitRun (.fit ⟨start, run⟩)) s _ = _
    rw [fitRun_fit few]
    exact onRequest_change (judge := fun l => whileConfiguring (markerLoad l)) taken judged rfl
  · have judged := (whileConfiguring_open (s := frameTaken s rest) configuring _).trans
      (loadSeatMap_accepted few addresses clip)
    exact onRequest_change (judge := fun m => whileConfiguring (loadSeatMap m)) taken judged rfl
  · have judged := (whileConfiguring_open (s := frameTaken s rest) configuring _).trans
      (limitsLoad_accepted nonempty (firstBadLimit_none l 1 [] (by omega) distinct (by simp) ranges))
    exact onRequest_change (judge := fun l => whileConfiguring (limitsLoad l)) taken judged rfl

end Sys2Proof.Claims

namespace Sys2Proof.Claims

open Sys2Proof.Machine

/-! ### CUE LOAD (R120, R121) -/

/-- What an accepted record stores (R121). -/
theorem acceptCue_some {c : CueIn} {q : Cue} (h : acceptCue c = some q) :
    q.id = c.id ∧ q.trigger = c.trigger ∧ q.lead = min c.lead 5000 ∧ acceptKind c.kind = some q.kind ∧
      q.cond = c.cond ∧ some q.late = c.late ∧ q.last = none ∧
      q.stopSafe = (c.stopSafe || forcedSafe q.kind) := by
  unfold acceptCue at h
  split at h
  · rename_i k late kind policy
    split at h
    · cases h
      exact ⟨rfl, rfl, rfl, kind, rfl, policy.symm, rfl, rfl⟩
    · cases h
  · cases h

/-- An accepted run stores one cue for each record. -/
theorem map_acceptCue {run : List CueIn} (h : ∀ c ∈ run, (acceptCue c).isSome) :
    run.map acceptCue = (run.filterMap acceptCue).map some := by
  induction run with
  | nil => rfl
  | cons c run ih =>
    obtain ⟨q, accepted⟩ := Option.isSome_iff_exists.1 (h c List.mem_cons_self)
    have more := ih fun x hx => h x (List.mem_cons_of_mem _ hx)
    simp [accepted, more]

/-- What CUE LOAD answers to a run that is accepted (R121). -/
def cueLoadAnswer (n start : Nat) (run : List CueIn) : Answer :=
  match run.findIdx? fun c => 5000 < c.lead with
  | some i => ⟨.qualified, .clamped, .cueLoad n (some (start + i))⟩
  | none => ⟨.done, .done, .cueLoad n none⟩

theorem cueLoad_accepted {l : Load CueIn} {s : State}
    (h : judgeLoad 256 s.cue.cues.length (fun c => (acceptCue c).isSome) l = none) :
    cueLoad l s =
      (s.setCue { s.cue with cues := loaded s.cue.cues l.start (l.run.filterMap acceptCue) },
        cueLoadAnswer (loaded s.cue.cues l.start (l.run.filterMap acceptCue)).length l.start l.run) := by
  unfold cueLoad firstClamped cueLoadAnswer
  rw [show Config.cueMax = 256 from rfl, h]
  simp only [spliceRun_eq_loaded]
  cases l.run.findIdx? fun c => decide (5000 < c.lead) <;> rfl

/-- Settles O22: the run is stored record by record, and outside CONFIGURING no judge is asked. -/
theorem cueLoadStoresRunAndLoadsNeedConfiguring : Obligations.CueLoadStoresRunAndLoadsNeedConfiguring := by
  refine ⟨fun s f rest start run taken configuring few place room accepts =>
    ⟨run.filterMap acceptCue, ?_, ?_, fun i c q record cue => ?_⟩, fun s f rest closed => ?_⟩
  · have accepted := judgeLoad_none (n := (frameTaken s rest).cue.cues.length) (l := ⟨start, run⟩)
      place room accepts
    have judged := (whileConfiguring_open (s := frameTaken s rest) configuring _).trans
      (cueLoad_accepted accepted)
    show onRequest 0x04 (fitRun (.fit ⟨start, run⟩)) s _ = _
    rw [fitRun_fit few,
      onRequest_change (judge := fun l => whileConfiguring (cueLoad l)) taken judged rfl]
    unfold cueLoadAnswer
    cases run.findIdx? fun c => decide (5000 < c.lead) <;> rfl
  · simpa using (congrArg List.length (map_acceptCue accepts)).symm
  · have same := congrArg (fun l : List (Option Cue) => l[i]?) (map_acceptCue accepts)
    simp only [List.getElem?_map, record, cue, Option.map_some] at same
    obtain ⟨id, trigger, lead, kind, cond, late, last, safe⟩ := acceptCue_some (Option.some.inj same)
    refine ⟨id, trigger, lead, kind, cond, late, last, safe.trans ?_⟩
    cases q.kind <;> rfl
  · have refuses : ∀ judge : State → State × Answer, whileConfiguring judge (frameTaken s rest) =
        (frameTaken s rest, .refuse .config) := whileConfiguring_closed closed
    refine ⟨fun l taken few => ?_, fun l taken few => ?_, fun l taken few => ?_, fun m taken => ?_,
      fun l taken => ?_⟩
    · show onRequest 0x02 (fitRun (.fit l)) s _ = _
      rw [fitRun_fit few]
      exact onRequest_answer (judge := fun l => whileConfiguring (pathLoad l)) taken (refuses _)
    · show onRequest 0x03 (fitRun (.fit l)) s _ = _
      rw [fitRun_fit few]
      exact onRequest_answer (judge := fun l => whileConfiguring (markerLoad l)) taken (refuses _)
    · show onRequest 0x04 (fitRun (.fit l)) s _ = _
      rw [fitRun_fit few]
      exact onRequest_answer (judge := fun l => whileConfiguring (cueLoad l)) taken (refuses _)
    · exact onRequest_answer (judge := fun m => whileConfiguring (loadSeatMap m)) taken (refuses _)
    · exact onRequest_answer (judge := fun l => whileConfiguring (limitsLoad l)) taken (refuses _)

/-! ### Live settings (R24, R181) -/

theorem clampedAnswer_reply (f : RxFrame) {p : Prop} [Decidable p] {b : Bool} (h : b = true ↔ p) :
    reply f (clampedAnswer b).cls (clampedAnswer b).detail (clampedAnswer b).body =
      if p then reply f .qualified .clamped .empty else reply f .done .done .empty := by
  by_cases hp : p
  · rw [h.2 hp, if_pos hp]
    rfl
  · rw [Bool.eq_false_iff.2 fun hb => hp (h.1 hb), if_neg hp]
    rfl

theorem any_toList_iff {n : Nat} (v : Vector Nat n) (p : Nat → Prop) [DecidablePred p] :
    (v.toList.any fun x => decide (p x)) = true ↔ ∃ o : Fin n, p v[o] := by
  simp only [List.any_eq_true, decide_eq_true_eq, Vector.mem_toList_iff, Vector.mem_iff_getElem]
  constructor
  · rintro ⟨x, ⟨i, hi, rfl⟩, hx⟩
    exact ⟨⟨i, hi⟩, hx⟩
  · rintro ⟨o, ho⟩
    exact ⟨_, ⟨o.val, o.isLt, rfl⟩, ho⟩

/-- Settles O23: each value is set to the top of its range, and the reply says whether one was above. -/
theorem liveSettingsClampToRange : Obligations.LiveSettingsClampToRange := by
  refine ⟨fun s f rest masters duck taken => ⟨masters.map (min 256), ?_, fun o => by simp⟩,
    fun s f rest kp kd taken => ?_⟩
  · have clamped : (masters.toList.any (fun m => decide (256 < m)) || decide (4096 < duck)) = true ↔
        (∃ o : Fin 4, 256 < masters[o]) ∨ 4096 < duck := by
      rw [Bool.or_eq_true, any_toList_iff, decide_eq_true_iff]
    rw [← clampedAnswer_reply f clamped]
    exact onRequest_change (judge := setMix) taken rfl rfl
  · have clamped : (decide (4095 < kp) || decide (4095 < kd)) = true ↔ 4095 < kp ∨ 4095 < kd := by
      simp
    rw [← clampedAnswer_reply f clamped]
    exact onRequest_change (judge := setGains) taken rfl rfl

end Sys2Proof.Claims

namespace Sys2Proof.Claims

open Sys2Proof.Machine

/-! ### What RESTART and COMMIT make of each block (R200, R201) -/

@[simp] theorem reportPosition_guide (s : State) : (reportPosition s).guide = s.guide := by simp

/-- The guidance unit keeps its tables, the steering demand and the gains (R22). -/
theorem resetGuidance_guide (s : State) :
    (resetGuidance s).guide =
      { s.guide with
        est := Estimate.reset, reading := GuideReading.reset, odo := 0
        timer := if s.isReady then .running 30 else .stopped } := by
  unfold resetGuidance
  dsimp only
  split <;> simp [Config.guideMs]

/-- The motion unit is PARKED and keeps the dispatch count, the ESTOP level and the drive link (R67). -/
theorem resetMotion_motion (s : State) :
    (resetMotion s).motion =
      { s.motion with
        record :=
          { s.motion.record with
            state := .parked, resumeRun := false, creepDist := 0, stopRec := none, paused := true }
        speed := { s.motion.speed with demand := 0 }
        still := 0, standstill := false, armed := none } := by
  unfold resetMotion
  dsimp only
  split <;> simp

@[simp] theorem resetMotion_mstate (s : State) : (resetMotion s).mstate = .parked := by
  show (resetMotion s).motion.record.state = .parked
  rw [resetMotion_motion]

@[simp] theorem startDrive_motion (s : State) :
    (startDrive s).motion =
      { s.motion with
        drive :=
          { s.motion.drive with
            last := none, miss := 0, track := 0, actual := 0, ready := false, fault := 0 } } := by
  simp [startDrive]

/-- A drive link that is started waits for no answer (R46). -/
theorem restartDrive_ready {s : State} (h : s.isReady = true) : restartDrive s = startDrive s := if_pos h

/-- The drive link apart, the motion unit is as it was. -/
theorem restartDrive_motion (s : State) :
    (restartDrive s).motion = { s.motion with drive := (restartDrive s).motion.drive } := by
  unfold restartDrive
  split <;> simp

/-- The cue unit keeps the show flags, the tags and the counts (R141). -/
theorem resetCue_cue (s : State) :
    (resetCue s).cue =
      { s.cue with
        pointer := 0, lap := 0, cues := s.cue.cues.map fun c => { c with last := none }
        outputs := Vector.replicate 8 .off, acks := [] } := rfl

/-- The cues without their last outcomes. -/
def withoutOutcomes (cs : List Cue) : List Cue := cs.map fun c => { c with last := none }

/-- A SCENE CUE that is NOT SENT gives its cue an outcome, and may close an entry (R130). -/
theorem dropLong_outcomes (w : Bool) (s : State) (f : LongFrame) :
    withoutOutcomes (dropLong w s f).cue.cues = withoutOutcomes s.cue.cues ∧
      (s.cue.acks = [] → (dropLong w s f).cue.acks = []) := by
  cases f with
  | scene c =>
    refine ⟨?_, fun none => ?_⟩
    · show withoutOutcomes (s.cue.cues.map _) = _
      unfold withoutOutcomes
      rw [List.map_map]
      refine List.map_congr_left fun x _ => ?_
      by_cases named : x.id = c.cueId <;> simp [named, closeAck]
    · show s.cue.acks.filter _ = []
      rw [none]
      rfl
  | _ => exact ⟨rfl, id⟩

theorem emptyQueues_outcomes (w : Bool) (s : State) :
    withoutOutcomes (emptyQueues w s).cue.cues = withoutOutcomes s.cue.cues ∧
      (s.cue.acks = [] → (emptyQueues w s).cue.acks = []) := by
  have fold : ∀ (l : List LongFrame) (u : State),
      withoutOutcomes (l.foldl (dropLong w) u).cue.cues = withoutOutcomes u.cue.cues ∧
        (u.cue.acks = [] → (l.foldl (dropLong w) u).cue.acks = []) := by
    intro l
    induction l with
    | nil => exact fun u => ⟨rfl, id⟩
    | cons f l ih =>
      intro u
      obtain ⟨cues, acks⟩ := dropLong_outcomes w u f
      exact ⟨(ih _).1.trans cues, fun none => (ih _).2 (acks none)⟩
  exact fold ..

@[simp] theorem emptyTable_zone (s : State) : (emptyTable s).zone = { s.zone with table := [] } := by
  unfold emptyTable
  split
  · rename_i none
    rw [← List.isEmpty_iff.1 none]
  · simp [reportTable]

/-- The zone unit as its table and queues are emptied, and the link is started when READY (R93). -/
def emptied (s : State) : State :=
  if s.isReady then startLink (emptyQueues false (emptyTable s)) else emptyQueues false (emptyTable s)

theorem resetZone_eq (s : State) : resetZone s = recomputeHold (testF10 .link (emptied s)) := by
  have ready : (emptyQueues false (emptyTable s)).isReady = s.isReady := by simp [State.isReady]
  unfold resetZone emptied
  rw [← ready]

theorem emptied_zone (s : State) :
    (emptied s).zone.table = [] ∧ (emptied s).zone.long = [] ∧ (emptied s).zone.zmap = s.zone.zmap ∧
      (s.isReady = true →
        (emptied s).zone.link = .starting ∧ (emptied s).zone.mailbox = [⟨none, .vehicleReset⟩]) ∧
      (s.isReady = false → (emptied s).zone.link = s.zone.link) := by
  unfold emptied
  cases ready : s.isReady <;> simp [startLink]

theorem emptied_frame (s : State) :
    (emptied s).guide = s.guide ∧ (emptied s).motion = s.motion ∧ (emptied s).seat = s.seat ∧
      (emptied s).voice = s.voice ∧ (emptied s).fault = s.fault ∧ (emptied s).mstate = s.mstate ∧
      (emptied s).cue = (emptyQueues false (emptyTable s)).cue := by
  unfold emptied
  split <;> simp

/-- In PARKED the zone unit's reset reaches the zone unit, the fault table and the cues only. -/
theorem resetZone_parked {s : State} (h : s.mstate = .parked) :
    (resetZone s).guide = s.guide ∧ (resetZone s).motion = s.motion ∧ (resetZone s).seat = s.seat ∧
      (resetZone s).voice = s.voice ∧ (resetZone s).mstate = .parked ∧
      (resetZone s).cue = (emptyQueues false (emptyTable s)).cue := by
  obtain ⟨guide, motion, seat, voice, -, mstate, cue⟩ := emptied_frame s
  have quiet := testF10_quiet (f10Class_of_parked (mstate.trans h)) .link
  obtain ⟨guide', motion', seat', cue', voice', mstate'⟩ := quiet
  rw [resetZone_eq]
  refine ⟨?_, ?_, ?_, ?_, ?_, ?_⟩
  · simpa using guide'.trans guide
  · simpa using motion'.trans motion
  · simpa using seat'.trans seat
  · simpa using voice'.trans voice
  · simpa using mstate'.trans (mstate.trans h)
  · simpa using cue'.trans cue

/-- What the zone unit's reset leaves of its tables (R93). -/
theorem resetZone_zone (s : State) :
    (resetZone s).zone.table = [] ∧ (resetZone s).zone.long = [] ∧
      (resetZone s).zone.zmap = s.zone.zmap ∧
      (s.isReady = true →
        (resetZone s).zone.link = .starting ∧
          (resetZone s).zone.mailbox = [⟨none, .vehicleReset⟩]) := by
  obtain ⟨table, long, zmap, started, -⟩ := emptied_zone s
  rw [resetZone_eq]
  simpa [recomputeHold] using ⟨table, long, zmap, started⟩

/-- The seat records made anew (R100, R118). -/
def freshSeats (s : State) : List SeatRecord :=
  (sortSeats s.config.committedMap.entries).map SeatRecord.fresh

/-- The seat unit's reset (R97, R118). -/
theorem resetSeat_seat (c : PermitCause) (s : State) :
    (resetSeat c s).seat =
      { s.seat with
        permit := false, permitCause := c, records := freshSeats s, check := none, window := .stopped
        round :=
          if s.isReady then some { remaining := (freshSeats s).map (·.addr), confirm := false } else none
        loop := if s.isReady then .started else .stopped
        roundTimer := if s.isReady then .running s.lim.roundPeriod else .stopped } := by
  let u := (clearPermit c s).setSeat
    { (clearPermit c s).seat with
      records := freshSeats s, check := none, window := .stopped, round := none, loop := .stopped
      roundTimer := .stopped }
  let v := (freshSeats s).foldl (reportFresh s.seat.records) u
  have reported : v.seat = u.seat := foldl_seat _ (by simp) _ _
  have config : v.config = s.config := by simp [v, u]
  have whole : resetSeat c s =
      if s.isReady then beginRound (v.setSeat { v.seat with loop := .started }) else v := rfl
  rw [whole]
  cases s.isReady <;> simp [beginRound, reported, u, State.lim, config]

theorem freshSeats_length (s : State) : (freshSeats s).length = s.config.committedMap.entries.length := by
  simpa [freshSeats] using (sortSeats_perm s.config.committedMap.entries).length_eq

theorem freshSeats_unknown (s : State) : ∀ r ∈ freshSeats s, r.state = .unknown ∧ r.occupied = .unknown := by
  intro r hr
  obtain ⟨e, -, rfl⟩ := List.mem_map.1 hr
  exact ⟨rfl, rfl⟩

end Sys2Proof.Claims

namespace Sys2Proof.Claims

open Sys2Proof.Machine

/-! ### COMMIT (R199, R200) -/

theorem withoutOutcomes_twice (cs : List Cue) :
    withoutOutcomes (withoutOutcomes cs) = withoutOutcomes cs := by
  simp [withoutOutcomes, Function.comp_def]

/-- The cue unit and then the zone unit are reset: the queues removed may set outcomes again. -/
theorem resetZone_resetCue {s u : State} (parked : u.mstate = .parked)
    (cue : u.cue = (resetCue s).cue) :
    (resetZone u).cue.pointer = 0 ∧ (resetZone u).cue.lap = 0 ∧
      (resetZone u).cue.flags = s.cue.flags ∧ (resetZone u).cue.acks = [] ∧
      (resetZone u).cue.outputs = Vector.replicate 8 .off ∧
      (resetZone u).cue.cues.length = s.cue.cues.length ∧
      withoutOutcomes (resetZone u).cue.cues = withoutOutcomes s.cue.cues ∧
      (u.zone.long = [] → ∀ c ∈ (resetZone u).cue.cues, c.last = none) := by
  obtain ⟨-, -, -, -, -, emptied⟩ := resetZone_parked parked
  have kept := emptyQueues_cue false (emptyTable u)
  obtain ⟨outcomes, acks⟩ := emptyQueues_outcomes false (emptyTable u)
  have before : (emptyTable u).cue = (resetCue s).cue := by simpa using cue
  rw [before, resetCue_cue] at kept outcomes acks
  rw [emptied]
  refine ⟨?_, ?_, ?_, acks rfl, ?_, ?_, ?_, fun none => ?_⟩
  · rw [kept]
  · rw [kept]
  · rw [kept]
  · rw [kept]
  · simpa [withoutOutcomes] using congrArg List.length outcomes
  · exact outcomes.trans (withoutOutcomes_twice _)
  · rw [emptyQueues_cue_nil (by simpa using none), before, resetCue_cue]
    simp

/-- COMMIT reaches the zone unit with the earlier units reset and motion PARKED. -/
def beforeZoneReset (s : State) : State :=
  deriveZoneMap (resetCue (restartDrive (resetMotion (resetGuidance s))))

@[simp] theorem beforeZoneReset_frame (s : State) :
    (beforeZoneReset s).config = s.config ∧ (beforeZoneReset s).guide = (resetGuidance s).guide ∧
      (beforeZoneReset s).motion = (restartDrive (resetMotion (resetGuidance s))).motion ∧
      (beforeZoneReset s).voice = s.voice ∧ (beforeZoneReset s).cue = (resetCue s).cue ∧
      (beforeZoneReset s).zone = { s.zone with zmap := zoneMap s.guide.path } := by
  refine ⟨?_, ?_, ?_, ?_, ?_, ?_⟩
  · simp [beforeZoneReset]
  · simp [beforeZoneReset]
  · simp [beforeZoneReset]
  · simp [beforeZoneReset]
  · simp [beforeZoneReset, resetCue_cue]
  · simp [beforeZoneReset, deriveZoneMap, resetGuidance_guide]

theorem beforeZoneReset_parked (s : State) : (beforeZoneReset s).mstate = .parked := by
  simp [beforeZoneReset]

theorem commitBlocks_eq (s : State) :
    commitBlocks s = commitSilence (commitSeat (resetZone (beforeZoneReset s))) := rfl

theorem commitSeat_seat (s : State) : (commitSeat s).seat = (resetSeat .commit s).seat := by
  unfold commitSeat
  dsimp only
  split <;> simp

theorem commitSeat_voice (s : State) :
    (commitSeat s).voice = { s.voice with alarm := (commitSeat s).voice.alarm } := by
  unfold commitSeat
  dsimp only
  split <;> simp [setAlarm]

theorem commitBlocks_guide (s : State) :
    (commitBlocks s).guide =
      { s.guide with
        est := Estimate.reset, reading := GuideReading.reset, odo := 0
        timer := if s.isReady then .running 30 else .stopped } := by
  obtain ⟨guide, -⟩ := resetZone_parked (beforeZoneReset_parked s)
  simp [commitBlocks_eq, guide, resetGuidance_guide]

theorem commitBlocks_motion {s : State} (ready : s.isReady = true) :
    (commitBlocks s).motion = (startDrive (resetMotion s)).motion := by
  obtain ⟨-, motion, -⟩ := resetZone_parked (beforeZoneReset_parked s)
  have readyThen : (resetMotion (resetGuidance s)).isReady = true := by simpa [State.isReady] using ready
  simp [commitBlocks_eq, motion, restartDrive_ready readyThen, resetMotion_motion]

theorem commitBlocks_voice (s : State) :
    (commitBlocks s).voice = { s.voice with alarm := (commitBlocks s).voice.alarm } := by
  obtain ⟨-, -, -, voice, -⟩ := resetZone_parked (beforeZoneReset_parked s)
  have seat := commitSeat_voice (resetZone (beforeZoneReset s))
  have silence : (commitBlocks s).voice = (commitSeat (resetZone (beforeZoneReset s))).voice := by
    simp [commitBlocks_eq]
  rw [silence, seat, voice]
  simp

theorem commitBlocks_zone {s : State} (ready : s.isReady = true) :
    (commitBlocks s).zone.table = [] ∧ (commitBlocks s).zone.long = [] ∧
      (commitBlocks s).zone.mailbox = [⟨none, .vehicleReset⟩] ∧
      (commitBlocks s).zone.link = .starting ∧ (commitBlocks s).zone.zmap = zoneMap s.guide.path := by
  have readyThen : (beforeZoneReset s).isReady = true := by
    simpa [State.isReady] using ready
  obtain ⟨table, long, zmap, started⟩ := resetZone_zone (beforeZoneReset s)
  obtain ⟨link, mailbox⟩ := started readyThen
  have same : (commitBlocks s).zone = (resetZone (beforeZoneReset s)).zone := by simp [commitBlocks_eq]
  rw [same]
  refine ⟨table, long, mailbox, link, zmap.trans ?_⟩
  simp

theorem commitBlocks_seat {s : State} (ready : s.isReady = true) :
    (commitBlocks s).seat.permit = false ∧ (commitBlocks s).seat.check = none ∧
      (commitBlocks s).seat.loop = .started ∧ (commitBlocks s).seat.records = freshSeats s := by
  have config : (resetZone (beforeZoneReset s)).config = s.config := by simp
  have readyThen : (resetZone (beforeZoneReset s)).isReady = true := by
    rwa [State.isReady, config]
  have seat : (commitBlocks s).seat = (resetSeat .commit (resetZone (beforeZoneReset s))).seat := by
    simp [commitBlocks_eq, commitSeat_seat]
  rw [seat, resetSeat_seat]
  simp only [readyThen, if_true, freshSeats, config, and_self]

theorem commitBlocks_cue (s : State) :
    (commitBlocks s).cue.pointer = 0 ∧ (commitBlocks s).cue.lap = 0 ∧
      (commitBlocks s).cue.flags = s.cue.flags ∧ (commitBlocks s).cue.acks = [] ∧
      (commitBlocks s).cue.outputs = Vector.replicate 8 .off ∧
      (commitBlocks s).cue.cues.length = s.cue.cues.length ∧
      withoutOutcomes (commitBlocks s).cue.cues = withoutOutcomes s.cue.cues ∧
      (s.zone.long = [] → ∀ c ∈ (commitBlocks s).cue.cues, c.last = none) := by
  have same : (commitBlocks s).cue = (resetZone (beforeZoneReset s)).cue := by simp [commitBlocks_eq]
  have long : (beforeZoneReset s).zone.long = s.zone.long := by simp
  rw [same, ← long]
  exact resetZone_resetCue (beforeZoneReset_parked s) (by simp)

/-- The state in which a COMMIT that passed is handed to the blocks. -/
theorem commitRecord_config (label : Code) (s : State) :
    (commitRecord label s).config =
      { s.config with
        committed := s.config.loaded, committedMap := s.config.loadedMap
        record := { state := .ready, label := label, count := s.config.record.count + 1,
                    last := .pass } } := by
  simp [commitRecord, reportConfig]

theorem commitRecord_ready (label : Code) (s : State) : (commitRecord label s).isReady = true := by
  simp [State.isReady, commitRecord_config]

theorem commit_passes {s : State} (configuring : s.config.record.state = .configuring)
    (passes : s.commitFailure = none) (label : Code) :
    commit label s =
      (commitBlocks (commitRecord label s),
        ⟨.done, .done, .commit (commitBlocks (commitRecord label s)).commitBody⟩) := by
  simp [commit, State.configuring, configuring, passes]

theorem commit_fails {s : State} (configuring : s.config.record.state = .configuring)
    {tab : TableName} {i : Nat} (fails : s.commitFailure = some (tab, i)) (label : Code) :
    commit label s =
      (setRecord { s.config.record with last := .fail tab i } s,
        ⟨.invalid, tab.detail, .index (some i)⟩) := by
  simp [commit, State.configuring, configuring, fails]

/-- The state after a COMMIT that passed, before its reply. -/
def committed (label : Code) (s : State) : State := commitBlocks (commitRecord label s)

/-- What a COMMIT that passed makes of the blocks with a record of their own. -/
theorem committed_blocks (label : Code) (s : State) :
    (committed label s).guide =
        { s.guide with
          est := Estimate.reset, reading := GuideReading.reset, odo := 0, timer := .running 30 } ∧
      (committed label s).motion = (startDrive (resetMotion s)).motion ∧
      (committed label s).clip = s.clip ∧ (committed label s).pending = s.pending ∧
      (committed label s).voice = { s.voice with alarm := (committed label s).voice.alarm } ∧
      (committed label s).host.port.still = s.host.port.still ∧
      (committed label s).config =
        { s.config with
          committed := s.config.loaded, committedMap := s.config.loadedMap
          record := { state := .ready, label := label, count := s.config.record.count + 1,
                      last := .pass } } := by
  have ready := commitRecord_ready label s
  have voice := commitBlocks_voice (commitRecord label s)
  refine ⟨?_, ?_, ?_, ?_, ?_, ?_, ?_⟩
  · simp [committed, commitBlocks_guide, ready]
  · simp [committed, commitBlocks_motion ready, resetMotion_motion]
  · simp [committed]
  · simp [committed]
  · simpa [committed] using voice
  · simp [committed]
  · simp [committed, commitRecord_config]

/-- What a COMMIT that passed makes of the zone, seat and cue units. -/
theorem committed_units (label : Code) (s : State) :
    ((committed label s).zone.table = [] ∧ (committed label s).zone.long = [] ∧
        (committed label s).zone.mailbox = [⟨none, .vehicleReset⟩] ∧
        (committed label s).zone.link = .starting ∧
        (committed label s).zone.zmap = zoneMap s.guide.path) ∧
      ((committed label s).seat.permit = false ∧ (committed label s).seat.check = none ∧
        (committed label s).seat.loop = .started ∧
        (committed label s).seat.records.length = s.config.loadedMap.entries.length ∧
        ∀ r ∈ (committed label s).seat.records, r.state = .unknown ∧ r.occupied = .unknown) ∧
      (committed label s).cue.pointer = 0 ∧ (committed label s).cue.lap = 0 ∧
        (committed label s).cue.flags = s.cue.flags ∧ (committed label s).cue.acks = [] ∧
        (committed label s).cue.cues.length = s.cue.cues.length ∧
        withoutOutcomes (committed label s).cue.cues = withoutOutcomes s.cue.cues ∧
        (s.zone.long = [] → ∀ c ∈ (committed label s).cue.cues, c.last = none) := by
  have ready := commitRecord_ready label s
  obtain ⟨-, guideSame, -, zoneSame, -, cueSame, -⟩ := commitRecord_frame label s
  have zone := commitBlocks_zone ready
  have seat := commitBlocks_seat ready
  have cue := commitBlocks_cue (commitRecord label s)
  have seats : (freshSeats (commitRecord label s)).length = s.config.loadedMap.entries.length := by
    rw [freshSeats_length, commitRecord_config]
  have unknown := freshSeats_unknown (commitRecord label s)
  rw [guideSame] at zone
  rw [zoneSame, cueSame] at cue
  unfold committed
  generalize commitBlocks (commitRecord label s) = w at *
  obtain ⟨permit, check, loop, records⟩ := seat
  obtain ⟨pointer, lap, flags, acks, -, cues⟩ := cue
  rw [← records] at seats unknown
  exact ⟨zone, ⟨permit, check, loop, seats, unknown⟩, pointer, lap, flags, acks, cues⟩

theorem exec_commit_passes {s : State} {f : RxFrame} {rest : List RxFrame} {label : Code}
    (taken : Taken 0x09 s f rest) (configuring : s.config.record.state = .configuring)
    (passes : s.commitFailure = none) :
    exec (.commit (.fit label)) s =
      .next
        (sendReply f ⟨.done, .done, .commit (committed label (frameTaken s rest)).commitBody⟩
          (committed label (frameTaken s rest))) := by
  have judged := commit_passes (s := frameTaken s rest) configuring passes label
  refine (onRequest_taken (answering commit) label taken).trans ?_
  rw [answering, judged]
  unfold committed
  generalize commitBlocks (commitRecord label (frameTaken s rest)) = w
  rfl

/-- Settles O24: a COMMIT that passes is handed to each block in turn, motion being PARKED from the
second on. -/
theorem commitPutsSetsInForceOrFails : Obligations.CommitPutsSetsInForceOrFails := by
  refine ⟨fun s f rest label taken configuring passes => ?_,
    fun s f rest label tab i taken configuring fails => ?_⟩
  · have next := exec_commit_passes (label := label) taken configuring passes
    obtain ⟨guide, motion, clip, pending, voice, host, config⟩ := committed_blocks label (frameTaken s rest)
    obtain ⟨⟨table, long, mailbox, link, zmap⟩, ⟨permit, check, loop, seats, unknown⟩, pointer, lap, flags,
      acks, cues, outcomes, fresh⟩ := committed_units label (frameTaken s rest)
    generalize committed label (frameTaken s rest) = w at *
    have port := sendReply_port_still f ⟨.done, .done, .commit w.commitBody⟩ host
    rw [sendReply_frameTaken] at port
    have mstate : w.mstate = .parked := by
      show w.motion.record.state = .parked
      simp [motion]
    refine ⟨_, w.commitBody, next, eq_of_port_still port, ?_, ?_, ?_, ?_, ?_, ?_, ?_, ?_, ?_, ?_, ?_, ?_,
      ?_, ?_⟩
    · simp [State.commitBody, config, frameTaken]
    · simp [State.commitBody, guide, frameTaken]
    · simp [State.commitBody, State.P, lapLength, guide, frameTaken]
    · simp [State.commitBody, guide, frameTaken]
    · simp [State.commitBody, cues, frameTaken]
    · simp [State.commitBody, seats, frameTaken]
    · simp [config, frameTaken]
    · simp [guide, frameTaken]
    · simp [mstate]
    · simp [motion, resetMotion_motion]
    · simp [motion, resetMotion_motion]
    · simp [motion]
    · simp [motion, resetMotion_motion, frameTaken]
    · simp only [sendReply_frame]
      exact ⟨table, long, mailbox, link, by simpa [frameTaken] using zmap, permit, check, loop,
        by simpa [frameTaken] using seats, unknown, pointer, lap, flags, acks, outcomes, fresh, clip, voice,
        pending⟩
  · have judged := commit_fails (s := frameTaken s rest) configuring fails label
    refine (onRequest_change (judge := commit) taken judged rfl).trans ?_
    cases tab <;> rfl

end Sys2Proof.Claims

namespace Sys2Proof.Claims

open Sys2Proof.Machine

/-! ### The report at the head of the queue (R210) -/

/-- What is done on the way from one state to the other leaves an event report at the head of the queue
there. -/
structure KeepsHead (s t : State) : Prop where
  kept : ∀ e : EventReport,
    s.host.reports.head? = some (.event e) → t.host.reports.head? = some (.event e)

section

variable {s t : State}

theorem KeepsHead.refl (s : State) : KeepsHead s s := ⟨fun _ h => h⟩

/-- An update of another block changes no report. -/
theorem KeepsHead.other {t u : State} (h : KeepsHead s t) (same : u.host = t.host) : KeepsHead s u :=
  ⟨fun e head => same ▸ h.kept e head⟩

protected theorem KeepsHead.foldl {α : Type} {f : State → α → State}
    (hf : ∀ u a, KeepsHead s u → KeepsHead s (f u a)) (l : List α) (h : KeepsHead s t) :
    KeepsHead s (l.foldl f t) := by
  induction l generalizing t with
  | nil => exact h
  | cons a l ih => exact ih (hf t a h)

/-- A report joins the tail, and room is made by removing a state report. -/
theorem joinTail_head {l : HostLink} {e : EventReport} (r : Report)
    (head : l.reports.head? = some (.event e)) : (l.joinTail r).reports.head? = some (.event e) := by
  obtain ⟨rest, whole⟩ := List.head?_eq_some_iff.1 head
  rcases l.joinTail_cases r with ⟨-, q⟩ | ⟨-, -, q⟩ | ⟨-, -, q⟩
  · rw [q, whole]
    rfl
  · rw [q, whole, List.eraseP_cons_of_neg (by simp [Report.isState])]
    rfl
  · rw [q, whole]
    rfl

protected theorem KeepsHead.postEvent (h : KeepsHead s t) (e : EventReport) : KeepsHead s (postEvent e t) :=
  ⟨fun d head => joinTail_head _ (h.kept d head)⟩

protected theorem KeepsHead.postState (h : KeepsHead s t) (k : StateKind) (i : Nat) :
    KeepsHead s (postState k i t) := by
  unfold Machine.postState
  split
  · exact h
  · exact ⟨fun d head => joinTail_head _ (h.kept d head)⟩

protected theorem KeepsHead.noteSummary (h : KeepsHead s t) (b : FaultSummary) :
    KeepsHead s (noteSummary b t) := by
  unfold Machine.noteSummary
  split
  · exact h
  · exact h.postState ..

protected theorem KeepsHead.raiseQuiet (h : KeepsHead s t) (c : FaultCode) (k : FaultClass) (d : FaultDetail) :
    KeepsHead s (raiseQuiet c k d t) := by
  have recorded : KeepsHead s (recordRaise c k d t) := (h.other (by rfl)).postEvent _
  refine KeepsHead.noteSummary ?_ _
  unfold endMomentary
  split
  · exact recorded.other (by rfl)
  · exact recorded

protected theorem KeepsHead.endCond (h : KeepsHead s t) (c : FaultCode) : KeepsHead s (endCond c t) := by
  unfold Machine.endCond
  dsimp only
  split
  · split
    · exact ((h.other (by rfl)).postEvent _).noteSummary _
    · exact h.other (by rfl)
  · exact h

protected theorem KeepsHead.endConds (h : KeepsHead s t) (cs : List FaultCode) : KeepsHead s (endConds cs t) :=
  .foldl (fun _ c hu => hu.endCond c) cs h

protected theorem KeepsHead.clearFaultTable (h : KeepsHead s t) : KeepsHead s (clearFaultTable t) :=
  (h.other (by rfl)).noteSummary _

protected theorem KeepsHead.resetGuidance (h : KeepsHead s t) : KeepsHead s (resetGuidance t) := by
  unfold Machine.resetGuidance
  dsimp only
  split
  · exact (h.other (by rfl)).endConds _
  · exact ((h.other (by rfl)).endConds _).postState ..

protected theorem KeepsHead.resetMotion (h : KeepsHead s t) : KeepsHead s (resetMotion t) := by
  unfold Machine.resetMotion
  dsimp only
  split
  · exact h.other (by rfl)
  · exact (h.other (by rfl)).postState ..

protected theorem KeepsHead.restartDrive (h : KeepsHead s t) : KeepsHead s (restartDrive t) := by
  unfold Machine.restartDrive
  split
  · exact (h.other (by rfl)).endConds _
  · exact h

protected theorem KeepsHead.emptyTable (h : KeepsHead s t) : KeepsHead s (emptyTable t) := by
  unfold Machine.emptyTable
  split
  · exact h
  · exact (h.other (by rfl)).postState ..

protected theorem KeepsHead.emptyQueues (h : KeepsHead s t) (w : Bool) : KeepsHead s (emptyQueues w t) := by
  refine .foldl (fun u f hu => ?_) _ (h.other (by rfl))
  cases f with
  | scene c => exact (hu.other (by rfl)).postEvent _
  | _ => exact hu

protected theorem KeepsHead.testF10 (h : KeepsHead s t) (quiet : t.f10Class = .hold) (d : FaultDetail) :
    KeepsHead s (testF10 d t) := by
  unfold Machine.testF10
  split
  · split
    · exact h
    · rw [quiet, raiseAs_quiet (by decide)]
      exact h.raiseQuiet ..
  · exact h.endCond _

protected theorem KeepsHead.resetZone (h : KeepsHead s t) (parked : t.mstate = .parked) :
    KeepsHead s (resetZone t) := by
  have started : KeepsHead s (emptied t) := by
    have queues := (h.emptyTable).emptyQueues false
    unfold emptied
    split
    · exact queues.other (by rfl)
    · exact queues
  obtain ⟨-, -, -, -, -, mstate, -⟩ := emptied_frame t
  rw [resetZone_eq]
  exact (started.testF10 (f10Class_of_parked (mstate.trans parked)) _).other (by rfl)

protected theorem KeepsHead.clearPermit (h : KeepsHead s t) (c : PermitCause) :
    KeepsHead s (clearPermit c t) := by
  unfold Machine.clearPermit
  dsimp only
  split
  · exact (h.other (by rfl)).postEvent _
  · exact h.other (by rfl)

protected theorem KeepsHead.reportFresh (h : KeepsHead s t) (before : List SeatRecord) (r : SeatRecord) :
    KeepsHead s (reportFresh before t r) := by
  unfold Machine.reportFresh reportSeat
  split
  · split
    · exact h
    · exact h.postState ..
  · exact h.postState ..

protected theorem KeepsHead.resetSeat (h : KeepsHead s t) (c : PermitCause) : KeepsHead s (resetSeat c t) := by
  have fresh : ∀ l : List SeatRecord, KeepsHead s (l.foldl (reportFresh t.seat.records)
      ((clearPermit c t).setSeat
        { (clearPermit c t).seat with
          records := freshSeats t, check := none, window := .stopped, round := none, loop := .stopped
          roundTimer := .stopped })) :=
    fun l => .foldl (fun _ r hu => hu.reportFresh _ r) l ((h.clearPermit c).other (by rfl))
  unfold Machine.resetSeat
  dsimp only
  split
  · exact (fresh (freshSeats t)).other (by rfl)
  · exact fresh (freshSeats t)

protected theorem KeepsHead.resetCue (h : KeepsHead s t) : KeepsHead s (resetCue t) := h.other (by rfl)

protected theorem KeepsHead.resetClip (h : KeepsHead s t) : KeepsHead s (resetClip t) := h.other (by rfl)

protected theorem KeepsHead.resetVoice (h : KeepsHead s t) : KeepsHead s (resetVoice t) := h.other (by rfl)

protected theorem KeepsHead.startSilence (h : KeepsHead s t) : KeepsHead s (startSilence t) := by
  unfold Machine.startSilence
  split
  · exact h
  · exact ⟨h.kept⟩

end

/-! ### RESTART (R201) -/

/-- RESTART reaches the zone unit with the earlier units reset and motion PARKED. -/
def untilZoneReset (s : State) : State :=
  resetCue (restartDrive (resetMotion (resetGuidance (clearFaultTable (restartReports s)))))

/-- RESTART reaches the ESTOP input with every block reset. -/
def untilEstop (s : State) : State :=
  startSilence (resetVoice (resetClip (resetSeat .restart (resetZone (untilZoneReset s)))))

theorem restart_eq (s : State) : restart s = senseEstop (untilEstop s) := rfl

@[simp] theorem untilZoneReset_frame (s : State) :
    (untilZoneReset s).config = s.config ∧
      (untilZoneReset s).guide = (resetGuidance s).guide ∧
      (untilZoneReset s).mstate = .parked ∧
      ((untilZoneReset s).motion.record = (resetMotion s).motion.record ∧
        (untilZoneReset s).motion.speed = (resetMotion s).motion.speed) ∧
      (untilZoneReset s).cue = (resetCue s).cue ∧ (untilZoneReset s).zone = s.zone := by
  refine ⟨?_, ?_, ?_, ?_, ?_, ?_⟩
  · simp [untilZoneReset]
  · simp [untilZoneReset, resetGuidance_guide, State.isReady]
  · simp [untilZoneReset]
  · have motion : (untilZoneReset s).motion =
        (restartDrive (resetMotion (resetGuidance (clearFaultTable (restartReports s))))).motion := by
      simp [untilZoneReset]
    rw [motion, restartDrive_motion, resetMotion_motion, resetMotion_motion]
    simp
  · simp [untilZoneReset, resetCue_cue]
  · simp [untilZoneReset]

/-! The report of the restart stays at the head of the queue it is put in first. -/

theorem untilZoneReset_head (s : State) : KeepsHead (restartReports s) (untilZoneReset s) :=
  (KeepsHead.refl (restartReports s)).clearFaultTable.resetGuidance.resetMotion.restartDrive.resetCue

theorem untilEstop_head (s : State) : KeepsHead (restartReports s) (untilEstop s) := by
  obtain ⟨-, -, parked, -⟩ := untilZoneReset_frame s
  exact (((untilZoneReset_head s).resetZone parked).resetSeat .restart).resetClip.resetVoice.startSilence

/-- In PARKED the ESTOP input raises F01 and has no effect on motion (R65, R193). -/
theorem raiseEstop_parked {s : State} (h : s.mstate = .parked) (d : FaultDetail) :
    raiseFault .f01 d s = raiseQuiet .f01 .stop d s := by
  have parked : (recordRaise .f01 .stop d s).mstate = .parked := by simpa using h
  have still : actByClass .f01 .stop (recordRaise .f01 .stop d s) = recordRaise .f01 .stop d s := by
    simp [actByClass, estopCause, parked]
  show noteSummary _ (endMomentary .f01 (actByClass .f01 .stop (recordRaise .f01 .stop d s))) = _
  rw [still]
  rfl

theorem senseEstop_parked {s : State} (h : s.mstate = .parked) :
    senseEstop s = if s.motion.record.estopIn then raiseQuiet .f01 .stop .none s else s := by
  unfold senseEstop
  rw [raiseEstop_parked h]

/-! ### The latches after RESTART (R193) -/

theorem clearFaultTable_rec (s : State) (c : FaultCode) :
    ((clearFaultTable s).faultRec c).latched = false := by
  cases c <;> simp [clearFaultTable] <;> rfl

theorem endCond_unlatched {c d : FaultCode} {s : State} (h : (s.faultRec d).latched = false) :
    ((endCond c s).faultRec d).latched = false := by
  rw [endCond_rec]
  split
  next same => subst same; simp [h]
  next => exact h

theorem endConds_unlatched {d : FaultCode} (cs : List FaultCode) {s : State}
    (h : (s.faultRec d).latched = false) : ((endConds cs s).faultRec d).latched = false := by
  induction cs generalizing s with
  | nil => exact h
  | cons c cs ih => exact ih (endCond_unlatched h)

theorem resetGuidance_unlatched {d : FaultCode} {s : State} (h : (s.faultRec d).latched = false) :
    ((resetGuidance s).faultRec d).latched = false := by
  unfold resetGuidance
  dsimp only
  split
  · exact endConds_unlatched _ h
  · simpa [reportPosition] using endConds_unlatched [.f02, .f04, .f05] (by exact h)

theorem untilZoneReset_unlatched (s : State) (d : FaultCode) :
    ((untilZoneReset s).faultRec d).latched = false := by
  have guide := resetGuidance_unlatched (clearFaultTable_rec (restartReports s) d)
  have motion : ((resetMotion (resetGuidance (clearFaultTable (restartReports s)))).faultRec d).latched = false := by
    rw [State.faultRec_congr (resetMotion_frame _).2.2.2.2.2.2.2.2.1]
    exact guide
  unfold untilZoneReset
  generalize resetMotion (resetGuidance (clearFaultTable (restartReports s))) = w at motion
  rw [State.faultRec_congr (show (resetCue (restartDrive w)).fault = (restartDrive w).fault from rfl)]
  unfold restartDrive
  split
  · exact endConds_unlatched _ motion
  · exact motion

/-- With the table empty, F10's condition is the link's alone (R91). -/
theorem resetZone_unlatched {d : FaultCode} {s : State} (h : (s.faultRec d).latched = false)
    (linked : d = .f10 → s.isReady = true ∨ s.zone.link ≠ .lost) :
    ((resetZone s).faultRec d).latched = false := by
  obtain ⟨-, -, -, -, fault, -, -⟩ := emptied_frame s
  obtain ⟨table, -, -, ready, closed⟩ := emptied_zone s
  have before : ((emptied s).faultRec d).latched = false := by rwa [State.faultRec_congr fault]
  have same : (resetZone s).faultRec d = (testF10 .link (emptied s)).faultRec d := by
    rw [resetZone_eq]
    rfl
  rw [same]
  by_cases other : d = .f10
  · have link : (emptied s).zone.link ≠ .lost := by
      cases isReady : s.isReady with
      | true => simp [ready isReady]
      | false =>
        rw [closed isReady]
        exact (linked other).resolve_left (by simp [isReady])
    have ended : testF10 .link (emptied s) = endCond .f10 (emptied s) := by
      simp [testF10, ZoneUnit.linkFault, table, link]
    rw [ended]
    exact endCond_unlatched before
  · rwa [testF10_rec_other other]

theorem untilEstop_unlatched {s : State} {d : FaultCode}
    (linked : d = .f10 → s.isReady = true ∨ s.zone.link ≠ .lost) :
    ((untilEstop s).faultRec d).latched = false := by
  obtain ⟨config, -, -, -, -, zone⟩ := untilZoneReset_frame s
  have linkedThen : d = .f10 → (untilZoneReset s).isReady = true ∨ (untilZoneReset s).zone.link ≠ .lost := by
    rw [zone, State.isReady, config]
    exact linked
  have zoned := resetZone_unlatched (untilZoneReset_unlatched s d) linkedThen
  have same : (untilEstop s).fault = (resetZone (untilZoneReset s)).fault := by
    simp [untilEstop]
  rw [State.faultRec_congr same]
  exact zoned

/-! ### What RESTART leaves of each block -/

theorem resetClip_clip (s : State) :
    (resetClip s).clip.mem = s.clip.mem ∧ (resetClip s).clip.stage.blocks = [] ∧
      (resetClip s).clip.verify.queue = [] := ⟨rfl, rfl, rfl⟩

theorem resetVoice_voice (s : State) :
    (∀ v : Fin 8, (resetVoice s).voice.voices[v] = Voice.reset) ∧
      (resetVoice s).voice.masters = s.voice.masters :=
  ⟨fun _ => Vector.getElem_replicate .., rfl⟩

/-- The silence timer is started, and the host is as silent as it was (log 46). -/
theorem startSilence_silent {s t : State} (h : t.host.port = s.host.port) :
    (startSilence t).host.silent = s.host.silent := by
  have same : t.host.silent = s.host.silent := (congrArg HostLink.silent h : t.host.port.silent = _)
  unfold startSilence
  split <;> exact same

theorem untilEstop_blocks (s : State) :
    (untilEstop s).config = s.config ∧ (untilEstop s).pending = s.pending ∧
      (untilEstop s).guide = (resetGuidance s).guide ∧ (untilEstop s).mstate = .parked ∧
      ((untilEstop s).motion.record = (resetMotion s).motion.record ∧
        (untilEstop s).motion.speed = (resetMotion s).motion.speed) ∧
      (untilEstop s).host.port.still = s.host.port.still ∧
      (untilEstop s).host.silent = s.host.silent := by
  obtain ⟨-, guide, parked, motion, -⟩ := untilZoneReset_frame s
  obtain ⟨guide', motion', -, -, parked', -⟩ := resetZone_parked parked
  have port : (resetVoice (resetClip (resetSeat .restart (resetZone (untilZoneReset s))))).host.port =
      s.host.port := by simp [untilZoneReset]
  refine ⟨?_, ?_, ?_, ?_, ?_, ?_, ?_⟩
  · simp [untilEstop, untilZoneReset]
  · simp [untilEstop, untilZoneReset]
  · simpa [untilEstop] using guide'.trans guide
  · simpa [untilEstop] using parked'
  · have same : (untilEstop s).motion = (untilZoneReset s).motion := by simpa [untilEstop] using motion'
    rw [same]
    exact motion
  · simp [untilEstop, untilZoneReset]
  · unfold untilEstop
    exact startSilence_silent port

theorem untilEstop_units (s : State) :
    ((untilEstop s).zone.table = [] ∧ (untilEstop s).zone.long = [] ∧
        (untilEstop s).zone.zmap = s.zone.zmap) ∧
      ((untilEstop s).seat.permit = false ∧ (untilEstop s).seat.check = none ∧
        (untilEstop s).seat.window = .stopped) ∧
      ((untilEstop s).cue.pointer = 0 ∧ (untilEstop s).cue.flags = s.cue.flags ∧
        (untilEstop s).cue.acks = [] ∧ (untilEstop s).cue.outputs = Vector.replicate 8 .off) ∧
      ((untilEstop s).clip.mem = s.clip.mem ∧ (untilEstop s).clip.stage.blocks = [] ∧
        (untilEstop s).clip.verify.queue = []) ∧
      (∀ v : Fin 8, (untilEstop s).voice.voices[v] = Voice.reset) ∧
      (untilEstop s).voice.masters = s.voice.masters := by
  obtain ⟨-, -, parked, -, cue, zone⟩ := untilZoneReset_frame s
  obtain ⟨table, long, zmap, -⟩ := resetZone_zone (untilZoneReset s)
  obtain ⟨pointer, -, flags, acks, outputs, -⟩ := resetZone_resetCue parked cue
  have seat := resetSeat_seat .restart (resetZone (untilZoneReset s))
  have clip : (resetZone (untilZoneReset s)).clip = s.clip := by simp [untilZoneReset]
  have voice : (resetZone (untilZoneReset s)).voice.masters = s.voice.masters := by
    obtain ⟨-, -, -, voice, -⟩ := resetZone_parked parked
    rw [voice]
    simp [untilZoneReset]
  rw [zone] at zmap
  unfold untilEstop
  generalize resetZone (untilZoneReset s) = w at *
  obtain ⟨-, stage, queue⟩ := resetClip_clip (resetSeat .restart w)
  obtain ⟨voices, masters⟩ := resetVoice_voice (resetClip (resetSeat .restart w))
  refine ⟨?_, ?_, ?_, ?_, ?_, ?_⟩
  · simpa using ⟨table, long, zmap⟩
  · simp [seat]
  · simpa using ⟨pointer, flags, acks, outputs⟩
  · refine ⟨?_, ?_, ?_⟩
    · simp [clip]
    · simp [stage]
    · simp [queue]
  · simpa using voices
  · simpa [voice] using masters

/-- What the ESTOP input does to a state in PARKED (R65). -/
theorem senseEstop_quiet {s : State} (parked : s.mstate = .parked) :
    KeepsHead s (senseEstop s) ∧ (senseEstop s).config = s.config ∧ (senseEstop s).pending = s.pending ∧
      (senseEstop s).guide = s.guide ∧ (senseEstop s).motion = s.motion ∧ (senseEstop s).zone = s.zone ∧
      (senseEstop s).seat = s.seat ∧ (senseEstop s).cue = s.cue ∧ (senseEstop s).clip = s.clip ∧
      (senseEstop s).voice = s.voice ∧ (senseEstop s).host.port = s.host.port ∧
      ∀ c, (senseEstop s).faultRec c =
        if s.motion.record.estopIn = true ∧ c = .f01 then
          { (s.faultRec .f01).raised .stop .none with active := true }
        else s.faultRec c := by
  rw [senseEstop_parked parked]
  cases s.motion.record.estopIn with
  | false => exact ⟨.refl s, rfl, rfl, rfl, rfl, rfl, rfl, rfl, rfl, rfl, rfl, fun c => by simp⟩
  | true =>
    refine ⟨(KeepsHead.refl s).raiseQuiet .., ?_⟩
    simp [FaultCode.momentary]

theorem exec_restart {s : State} {f : RxFrame} {rest : List RxFrame} (taken : Taken 0x64 s f rest)
    (rests : s.mstate = .parked ∨ s.mstate = .hold ∨ s.mstate = .stopped ∨ s.mstate = .estop) :
    exec (.restart (.fit ())) s = .next (restart (sendReply f .done (frameTaken s rest))) := by
  have mstate : (frameTaken s rest).mstate = s.mstate := rfl
  refine (onRequest_taken (fun f _ => takeRestart f) () taken).trans ?_
  unfold takeRestart
  rw [mstate]
  rcases rests with m | m | m | m <;> rw [m]

/-- Settles O26: RESTART reaches each block in PARKED, so that the zone unit's reset and the ESTOP input
have no effect on motion, and F10's condition is the link's alone once the table is empty. -/
theorem restartKeepsConfiguration : Obligations.RestartKeepsConfiguration := by
  intro s f rest taken rests
  have next := exec_restart taken rests
  rw [restart_eq] at next
  have replied := sendReply_frameTaken s f rest .done
  have first := untilEstop_head (sendReply f .done (frameTaken s rest))
  obtain ⟨config, pending, guide, parked, motion, host, silent⟩ := untilEstop_blocks (sendReply f .done (frameTaken s rest))
  obtain ⟨zone, seat, cue, clip, voices, masters⟩ := untilEstop_units (sendReply f .done (frameTaken s rest))
  have unlatched := fun c => untilEstop_unlatched (s := sendReply f .done (frameTaken s rest)) (d := c)
  generalize untilEstop (sendReply f .done (frameTaken s rest)) = u at *
  rw [replied] at first config pending guide motion host silent zone cue clip masters unlatched
  obtain ⟨first', config', pending', guide', motion', zone', seat', cue', clip', voice', host', recs⟩ :=
    senseEstop_quiet parked
  generalize senseEstop u = t at *
  rw [resetGuidance_guide] at guide
  rw [resetMotion_motion] at motion
  obtain ⟨record, speed⟩ := motion
  have same : t.motion.record.estopIn = s.motion.record.estopIn := by rw [motion', record]
  obtain ⟨permit, check, window⟩ := seat
  obtain ⟨pointer, flags, acks, outputs⟩ := cue
  obtain ⟨mem, stage, queue⟩ := clip
  obtain ⟨table, long, zmap⟩ := zone
  refine ⟨t, next, ?_, ?_, config'.trans config, pending'.trans pending, ?_, ?_, ?_, ?_, ?_, ?_, ?_, ?_, ?_,
    ?_, ?_, ?_, ?_, ?_, ?_, ?_, ?_, ?_, ?_, ?_, ?_, ?_, ?_⟩
  · have still : t.host.port.still = u.host.port.still := by rw [host']
    have quiet : t.host.silent = u.host.silent := (congrArg HostLink.silent host' : t.host.port.silent = _)
    rw [eq_of_port_still (still.trans host), quiet.trans silent]
    rfl
  · exact first'.kept _ (first.kept _ rfl)
  · simp [guide', guide, State.isReady]
  · show t.motion.record.state = .parked
    simp [motion', record]
  · simp [motion', record]
  · simp [motion', record]
  · simp [motion', record]
  · simp [motion', speed]
  · simp [motion', record]
  · simp [zone', table]
  · simp [zone', long]
  · simp [zone', zmap]
  · simp [seat', permit]
  · simp [seat', check]
  · simp [seat', window]
  · simp [cue', pointer]
  · simp [cue', flags]
  · simp [cue', acks]
  · simp [cue', outputs]
  · simp [clip', mem]
  · simp [clip', stage]
  · simp [clip', queue]
  · exact fun v => voice' ▸ voices v
  · simp [voice', masters]
  · intro c linked
    have none := unlatched c fun isF10 => (linked isF10).imp_left fun ready => by
      simp [State.isReady, ready]
    have estop : u.motion.record.estopIn = s.motion.record.estopIn := by rw [record]
    rw [recs c, estop]
    cases s.motion.record.estopIn with
    | false => simp [none]
    | true =>
      by_cases isF01 : c = .f01
      · simp [isF01, FaultRecord.raised]
      · simp [isF01, none]

end Sys2Proof.Claims

namespace Sys2Proof.Claims

open Sys2Proof.Machine

/-! ### A request and a wayside command, carried out -/

theorem sendReply_eq (f : RxFrame) (a : Answer) (s : State) :
    sendReply f a s = s.setHost (sendReply f a s).host := by
  apply State.ext_fields <;> simp

/-- Handing over a reply touches no report. -/
theorem sendReply_port (f : RxFrame) (a : Answer) {s t : State} (h : t.host.port = s.host.port) :
    (sendReply f a t).host.port = (sendReply f a s).host.port := by
  have sending : t.host.sending = s.host.sending := (congrArg HostLink.sending h : t.host.port.sending = _)
  have waiting : t.host.waiting = s.host.waiting := (congrArg HostLink.waiting h : t.host.port.waiting = _)
  cases free : s.host.sending with
  | none =>
    rw [sendReply_free free, sendReply_free (sending.trans free)]
    exact congrArg (fun p : HostLink => { p with sending := some (replyTo f a) }) h
  | some r =>
    rw [sendReply_busy free, sendReply_busy (sending.trans free), waiting]
    exact congrArg (fun p : HostLink => { p with waiting := s.host.waiting ++ [replyTo f a] }) h

/-- A request that its owner judges: the state is the owner's, with the reply handed over. -/
theorem onRequest_does {α : Type} {k : Byte} {judge : α → State → State × Answer} {s u : State}
    {f : RxFrame} {rest : List RxFrame} {a : α} {ans : Answer} (taken : Taken k s f rest)
    (judged : judge a (frameTaken s rest) = (u, ans))
    (port : u.host.port = (frameTaken s rest).host.port) :
    ∃ h, onRequest k (.fit a) s (answering judge) = .next (u.setHost h) ∧
      Answered s (u.setHost h) f rest ans.cls ans.detail ans.body := by
  refine ⟨(sendReply f ans u).host, ?_, ?_⟩
  · rw [onRequest_taken _ a taken, ← sendReply_eq, answering, judged]
  · have same := sendReply_port f ans port
    rw [sendReply_frameTaken] at same
    exact HostLink.eq_of_port same

/-- A request with an empty body, judged by its owner. -/
theorem onRequest_judged {k : Byte} {judge : State → State × Answer} {s u : State} {f : RxFrame}
    {rest : List RxFrame} {ans : Answer} (taken : Taken k s f rest)
    (judged : judge (frameTaken s rest) = (u, ans)) (port : u.host.port = (frameTaken s rest).host.port) :
    ∃ h, onRequest k (.fit ()) s (answering fun _ => judge) = .next (u.setHost h) ∧
      Answered s (u.setHost h) f rest ans.cls ans.detail ans.body :=
  onRequest_does (judge := fun _ => judge) taken judged port

/-- A request with an empty body that its owner only answers. -/
theorem onRequest_refused {k : Byte} {judge : State → State × Answer} {s : State} {f : RxFrame}
    {rest : List RxFrame} {ans : Answer} (taken : Taken k s f rest)
    (judged : judge (frameTaken s rest) = (frameTaken s rest, ans)) :
    onRequest k (.fit ()) s (answering fun _ => judge) =
      .next { s with host := replied s.host rest (reply f ans.cls ans.detail ans.body) } :=
  onRequest_answer (judge := fun _ => judge) (a := ()) taken judged

/-- A wayside frame heard on a link that is UP starts the link timer again (R90). -/
theorem validFrame_up {s : State} (up : s.zone.link = .up) : validFrame s = s.setZone (heard s) := by
  unfold validFrame
  rw [if_pos up, ← up]
  rfl

theorem addressed_of {s : State} {dest : Byte} (h : Addressed s dest) : s.addressed dest = true := by
  simpa [State.addressed, Addressed] using h

/-- A motion command of the wayside that is carried out: the frame is heard, and the outcome posted. -/
theorem onWayside_does {c : MotionCommand} {judge : State → State × Answer} {s u : State} {dest : Byte}
    {ans : Answer} (up : s.zone.link = .up) (addressed : Addressed s dest)
    (judged : judge (s.setZone (heard s)) = (u, ans)) (port : u.host.port = s.host.port) :
    ∃ h, onWayside dest s (waysideCommand c judge) = .next (u.setHost h) ∧ OnlyReports s (u.setHost h) := by
  refine ⟨(postEvent (.motionCommand c .wayside ans.cls ans.detail) u).host, ?_, ?_⟩
  · rw [onWayside_taken (by simp [up]) (addressed_of addressed), validFrame_up up, waysideCommand, judged]
    rfl
  · refine HostLink.eq_of_port ?_
    show (postEvent _ u).host.port = _
    simp [port]

/-! ### A change of motion state (R48) -/

/-- Only the motion unit, what follows its state, and the reports differ. -/
structure OnlyDrives (s t : State) : Prop where
  pending : t.pending = s.pending
  config : t.config = s.config
  guide : t.guide = s.guide
  zone : t.zone = s.zone
  cue : t.cue = s.cue
  clip : t.clip = s.clip
  fault : t.fault = s.fault

theorem changeMotion_drives {new : MotionState} (rolls : new.noRollback = false) (resume : Bool) (s : State) :
    OnlyDrives s (changeMotion new resume s) := by
  have estop : new ≠ .estop := by
    rintro rfl
    cases rolls
  refine ⟨?_, ?_, ?_, ?_, ?_, ?_, changeMotion_fault rolls resume s⟩
  · simp
  · simp
  · simp [changeMotion_guide, rolls]
  · simp
  · simp [changeMotion_cue, estop]
  · simp

theorem OnlyDrives.of_motion {s t : State} {m : Motion} (h : OnlyDrives (s.setMotion m) t) :
    OnlyDrives s t := ⟨h.pending, h.config, h.guide, h.zone, h.cue, h.clip, h.fault⟩

/-- A change of motion state ends a check and the window with HOLD (R112, R116). -/
theorem changeMotion_ends (new : MotionState) (resume : Bool) (s : State) :
    CheckAndWindowEnd s (changeMotion new resume s) := changeMotion_seat new resume s

/-! ### Which judgement passes -/

theorem classLatched_false {s : State} {k : FaultClass}
    (h : ∀ c, (s.faultRec c).latched = true → (s.faultRec c).cls ≠ k) : s.classLatched k = false := by
  rw [Bool.eq_false_iff]
  intro latched
  obtain ⟨c, latched, cls⟩ := (classLatched_iff s k).1 latched
  exact h c latched cls

end Sys2Proof.Claims

namespace Sys2Proof.Claims

open Sys2Proof.Machine

/-! ### ENABLE DRIVE and DISABLE DRIVE (R51, R52) -/

theorem enableDrive_passes {s : State} (parked : s.mstate = .parked) (ready : s.config.record.state = .ready)
    (released : s.motion.record.estopIn = false)
    (clear : ∀ c, (s.faultRec c).latched = true → (s.faultRec c).cls = .note) :
    enableDrive s = (changeMotion .hold false (setStopRecord none s), .done) := by
  have stop : s.classLatched .stop = false := classLatched_false fun c latched cls => by simp [clear c latched] at cls
  have hold : s.classLatched .hold = false := classLatched_false fun c latched cls => by simp [clear c latched] at cls
  have target : moveTo .hold (setStopRecord none s) = changeMotion .hold false (setStopRecord none s) := by
    have still : (setStopRecord none s).mstate = .parked := parked
    simp [moveTo, still, resumeAfter]
  simp [enableDrive, parked, State.isReady, ready, released, stop, hold, target]

theorem disableDrive_passes {s : State} (rests : s.mstate = .hold ∨ s.mstate = .stopped) :
    disableDrive s = (changeMotion .parked false s, .done) := by
  rcases rests with m | m <;> simp [disableDrive, m, moveTo, resumeAfter]

/-- Settles O27: both are one change of motion state; that to PARKED ends F05's condition too. -/
theorem driveEnableAndDisable : Obligations.DriveEnableAndDisable := by
  refine ⟨fun s f rest taken parked ready released clear => ?_, fun s f rest taken rests => ?_⟩
  · have judged := enableDrive_passes (s := frameTaken s rest) parked ready released clear
    have drives := (changeMotion_drives (new := .hold) rfl false (setStopRecord none (frameTaken s rest))).of_motion
    have motion := changeMotion_motion .hold false (setStopRecord none (frameTaken s rest))
    obtain ⟨-, -, seat, -⟩ := changeMotion_ends .hold false (setStopRecord none (frameTaken s rest))
    have seat := seat (by rw [show (setStopRecord none (frameTaken s rest)).mstate = .parked from parked]; decide)
    have voice : s.motion.record.paused = true →
        (changeMotion .hold false (setStopRecord none (frameTaken s rest))).voice = s.voice :=
      fun paused => changeMotion_voice (s := setStopRecord none (frameTaken s rest)) false paused
    obtain ⟨h, next, answered⟩ := onRequest_judged taken judged (by simp)
    generalize changeMotion .hold false (setStopRecord none (frameTaken s rest)) = w at *
    refine ⟨w.setHost h, next, answered, ?_, motion, voice⟩
    exact State.ext_fields drives.pending drives.config drives.guide rfl drives.zone seat drives.cue
      drives.clip rfl drives.fault rfl
  · have judged := disableDrive_passes (s := frameTaken s rest) rests
    have motion := changeMotion_motion .parked false (frameTaken s rest)
    have ends := changeMotion_ends .parked false (frameTaken s rest)
    have guide := changeMotion_guide .parked false (frameTaken s rest)
    have cue := changeMotion_cue .parked false (frameTaken s rest)
    have recs := fun c => changeMotion_rec .parked false c (frameTaken s rest)
    have voice : s.motion.record.paused = true → (changeMotion .parked false (frameTaken s rest)).voice = s.voice :=
      fun paused => changeMotion_voice (s := frameTaken s rest) false paused
    obtain ⟨pending, config, zone, clip, port⟩ := changeMotion_frame .parked false (frameTaken s rest)
    obtain ⟨h, next, answered⟩ := onRequest_judged taken judged port
    generalize changeMotion .parked false (frameTaken s rest) = w at *
    refine ⟨w.setHost h, next, answered, ?_, motion, voice, guide, ?_, fun c other => ?_, ends⟩
    · exact State.ext_fields pending config rfl rfl zone rfl cue clip rfl rfl rfl
    · show (w.faultRec .f05).active = false
      rw [recs]
      rfl
    · show w.faultRec c = _
      rw [recs, if_neg (fun both => other both.2)]
      rfl

/-! ### DISPATCH (R53, R54) -/

theorem judgeDispatch_passes (source : CommandSource) {s : State} (hold : s.mstate = .hold)
    (located : s.guide.est.posState = .located)
    (clear : ∀ c, (s.faultRec c).latched = true → (s.faultRec c).cls ≠ .hold)
    (permit : s.inLoadZone = true → s.seat.permit = true) :
    judgeDispatch source s = (takeDispatch source s, .done) := by
  have latched := classLatched_false clear
  have allowed : (s.inLoadZone && !s.seat.permit) = false := by
    cases load : s.inLoadZone <;> simp [permit, load]
  simp [judgeDispatch, hold, located, latched, allowed]

/-- The dispatch changes motion to RUN, and posts its report. -/
theorem takeDispatch_runs (source : CommandSource) {s : State} (hold : s.mstate = .hold) :
    OnlyDrives s (takeDispatch source s) ∧ (takeDispatch source s).host.port = s.host.port ∧
      (takeDispatch source s).motion =
        { s.motion with
          record :=
            { s.motion.record with
              state := .run, resumeRun := false, paused := s.motion.standstill
              dispatchCount := s.motion.record.dispatchCount + 1 }
          armed := none } ∧
      CheckAndWindowEnd s (takeDispatch source s) := by
  let u := s.setMotion
    { s.motion with
      armed := none
      record := { s.motion.record with dispatchCount := s.motion.record.dispatchCount + 1 } }
  have still : u.mstate = .hold := hold
  have target : moveTo .run u = changeMotion .run false u := by simp [moveTo, still, resumeAfter]
  have drives := changeMotion_drives (new := .run) rfl false u
  have motion := changeMotion_motion .run false u
  have ends := changeMotion_ends .run false u
  have port : (changeMotion .run false u).host.port = s.host.port := by simp [u]
  have whole : ∃ e, takeDispatch source s = postEvent e (changeMotion .run false u) := by
    rw [← target]
    exact ⟨_, rfl⟩
  obtain ⟨e, whole⟩ := whole
  rw [whole]
  generalize changeMotion .run false u = w at *
  refine ⟨?_, by simpa using port, ?_, ends⟩
  · exact ⟨drives.pending, drives.config, drives.guide, drives.zone, drives.cue, drives.clip, drives.fault⟩
  · exact motion.trans (by simp [Motion.enter, MotionState.zeroSpeed, u])

/-- Settles O28: from the host and from the wayside, the same dispatch. -/
theorem dispatchStartsRun : Obligations.DispatchStartsRun := by
  intro s hold located clear permit
  refine ⟨fun f rest taken => ?_, fun dest up addressed => ?_⟩
  · have judged := judgeDispatch_passes .host (s := frameTaken s rest) hold located clear permit
    obtain ⟨drives, port, motion, ends⟩ := takeDispatch_runs .host (s := frameTaken s rest) hold
    obtain ⟨h, next, answered⟩ := onRequest_judged taken judged port
    generalize takeDispatch .host (frameTaken s rest) = w at *
    refine ⟨w.setHost h, next, ⟨?_, motion, ends⟩, answered, drives.zone⟩
    exact State.ext_fields drives.pending drives.config drives.guide rfl rfl rfl drives.cue
      drives.clip rfl drives.fault rfl
  · have judged := judgeDispatch_passes .wayside (s := s.setZone (heard s)) hold located clear permit
    obtain ⟨drives, port, motion, ends⟩ := takeDispatch_runs .wayside (s := s.setZone (heard s)) hold
    obtain ⟨h, next, only⟩ := onWayside_does (c := .dispatch) up addressed judged port
    generalize takeDispatch .wayside (s.setZone (heard s)) = w at *
    refine ⟨w.setHost h, next, ⟨?_, motion, ends⟩, only, drives.zone⟩
    exact State.ext_fields drives.pending drives.config drives.guide rfl rfl rfl drives.cue
      drives.clip rfl drives.fault rfl

end Sys2Proof.Claims

namespace Sys2Proof.Claims

open Sys2Proof.Machine

/-! ### HOLD and RESUME (R55, R56) -/

/-- HOLD from RUN keeps RUN as the resume target; from CREEP there is none (R57). -/
theorem judgeHold_holds {s : State} (drives : s.mstate = .run ∨ s.mstate = .creep) :
    ∃ w, judgeHold s = (w, .done) ∧ OnlyDrives s w ∧ w.host.port = s.host.port ∧
      w.motion =
        { s.motion with
          record :=
            { s.motion.record with
              state := .hold, resumeRun := decide (s.mstate = .run), paused := true } } ∧
      w.seat = s.seat := by
  have moved := changeMotion_drives (new := .hold) rfl (decide (s.mstate = .run)) s
  have motion := changeMotion_motion .hold (decide (s.mstate = .run)) s
  obtain ⟨-, -, seat, -⟩ := changeMotion_ends .hold (decide (s.mstate = .run)) s
  have seat := seat (by rcases drives with m | m <;> simp [m])
  have port : (changeMotion .hold (decide (s.mstate = .run)) s).host.port = s.host.port := by simp
  have target : moveTo .hold s = changeMotion .hold (decide (s.mstate = .run)) s := by
    rcases drives with m | m <;> simp [moveTo, m, resumeAfter]
  rcases drives with m | m
  · exact ⟨moveTo .hold s, by simp [judgeHold, m], target ▸ moved, target ▸ port, target ▸ motion,
      target ▸ seat⟩
  · refine ⟨creepEnd .held (moveTo .hold s), by simp [judgeHold, m], ?_⟩
    rw [target]
    generalize changeMotion .hold (decide (s.mstate = .run)) s = w at *
    exact ⟨⟨moved.pending, moved.config, moved.guide, moved.zone, moved.cue, moved.clip, moved.fault⟩,
      by simpa using port, motion, seat⟩

theorem judgeResume_passes {s : State} (hold : s.mstate = .hold) (target : s.motion.record.resumeRun = true)
    (out : s.inLoadZone = false) (known : s.guide.est.posState = .located ∨ s.guide.est.posState = .doubt)
    (clear : ∀ c, (s.faultRec c).latched = true → (s.faultRec c).cls ≠ .hold) :
    judgeResume s = (changeMotion .run false s, .done) := by
  have known : s.guide.est.posState.known = true := by rcases known with k | k <;> simp [k, PosState.known]
  simp [judgeResume, hold, target, out, known, classLatched_false clear, moveTo, resumeAfter]

/-- RESUME changes motion to RUN (R57). -/
theorem changeMotion_runs (s : State) :
    OnlyDrives s (changeMotion .run false s) ∧
      (changeMotion .run false s).motion =
        { s.motion with
          record :=
            { s.motion.record with state := .run, resumeRun := false, paused := s.motion.standstill } } ∧
      CheckAndWindowEnd s (changeMotion .run false s) ∧
      (changeMotion .run false s).host.port = s.host.port :=
  ⟨changeMotion_drives rfl false s,
    (changeMotion_motion .run false s).trans (by simp [Motion.enter, MotionState.zeroSpeed]),
    changeMotion_ends .run false s, by simp⟩

/-- Settles O29: from the host and from the wayside, the same changes of motion state. -/
theorem holdAndResumeSwitchMotion : Obligations.HoldAndResumeSwitchMotion := by
  intro s
  refine ⟨fun drives => ⟨fun f rest taken => ?_, fun dest up addressed => ?_⟩,
    fun hold target out known clear => ⟨fun f rest taken => ?_, fun dest up addressed => ?_⟩⟩
  · obtain ⟨w, judged, moved, port, motion, seat⟩ := judgeHold_holds (s := frameTaken s rest) drives
    obtain ⟨h, next, answered⟩ := onRequest_judged taken judged port
    refine ⟨w.setHost h, next, ⟨?_, motion⟩, answered, moved.zone⟩
    exact State.ext_fields moved.pending moved.config moved.guide rfl rfl seat moved.cue moved.clip rfl
      moved.fault rfl
  · obtain ⟨w, judged, moved, port, motion, seat⟩ := judgeHold_holds (s := s.setZone (heard s)) drives
    obtain ⟨h, next, only⟩ := onWayside_does (c := .rideHold) up addressed judged port
    refine ⟨w.setHost h, next, ⟨?_, motion⟩, only, moved.zone⟩
    exact State.ext_fields moved.pending moved.config moved.guide rfl rfl seat moved.cue moved.clip rfl
      moved.fault rfl
  · have judged := judgeResume_passes (s := frameTaken s rest) hold target out known clear
    obtain ⟨moved, motion, ends, port⟩ := changeMotion_runs (frameTaken s rest)
    obtain ⟨h, next, answered⟩ := onRequest_judged taken judged port
    generalize changeMotion .run false (frameTaken s rest) = w at *
    refine ⟨w.setHost h, next, ⟨?_, motion, ends⟩, answered, moved.zone⟩
    exact State.ext_fields moved.pending moved.config moved.guide rfl rfl rfl moved.cue moved.clip rfl
      moved.fault rfl
  · have judged := judgeResume_passes (s := s.setZone (heard s)) hold target out known clear
    obtain ⟨moved, motion, ends, port⟩ := changeMotion_runs (s.setZone (heard s))
    obtain ⟨h, next, only⟩ := onWayside_does (c := .rideResume) up addressed judged port
    generalize changeMotion .run false (s.setZone (heard s)) = w at *
    refine ⟨w.setHost h, next, ⟨?_, motion, ends⟩, only, moved.zone⟩
    exact State.ext_fields moved.pending moved.config moved.guide rfl rfl rfl moved.cue moved.clip rfl
      moved.fault rfl

/-! ### STOP, CLEAR STOP and CREEP (R58 to R62) -/

/-- A stop cause that finds a vehicle that may move makes the stop record and enters STOPPING (R58, R59). -/
theorem stopCause_stops (cause : StopCause) {s : State}
    (mayMove : s.mstate = .hold ∨ s.mstate = .run ∨ s.mstate = .creep) :
    OnlyDrives s (stopCause cause s) ∧ (stopCause cause s).host.port = s.host.port ∧
      (stopCause cause s).motion =
        { s.motion with
          record :=
            { s.motion.record with
              state := .stopping, paused := true
              resumeRun := s.mstate = .run || (s.mstate = .hold && s.motion.record.resumeRun)
              stopRec := some (newStopRecord cause s) } } ∧
      CheckAndWindowEnd s (stopCause cause s) := by
  let u := setStopRecord (some (newStopRecord cause s)) s
  let resume : Bool := s.mstate = .run || (s.mstate = .hold && s.motion.record.resumeRun)
  have target : moveTo .stopping u = changeMotion .stopping resume u := by
    have still : u.mstate = s.mstate := rfl
    have same : u.motion.record.resumeRun = s.motion.record.resumeRun := rfl
    rcases mayMove with m | m | m <;> simp [moveTo, still, same, m, resumeAfter, resume]
  have moved := (changeMotion_drives (new := .stopping) rfl resume u).of_motion
  have motion := changeMotion_motion .stopping resume u
  have ends := changeMotion_ends .stopping resume u
  have port : (changeMotion .stopping resume u).host.port = s.host.port := by simp [u, setStopRecord]
  have whole : stopCause cause s =
      if s.mstate = .creep then creepEnd .stopped (moveTo .stopping u) else moveTo .stopping u := by
    rcases mayMove with m | m | m <;> simp [stopCause, takeStop, m, u]
  rw [whole, target]
  generalize changeMotion .stopping resume u = w at *
  split
  · exact ⟨⟨moved.pending, moved.config, moved.guide, moved.zone, moved.cue, moved.clip, moved.fault⟩,
      by simpa using port, motion, ends⟩
  · exact ⟨moved, port, motion, ends⟩

theorem clearStop_passes {s : State} (stopped : s.mstate = .stopped)
    (clear : ∀ c, (s.faultRec c).latched = true → (s.faultRec c).cls ≠ .stop) :
    clearStop s = (changeMotion .hold s.motion.record.resumeRun (setStopRecord none s), .done) := by
  have target : moveTo .hold (setStopRecord none s) =
      changeMotion .hold s.motion.record.resumeRun (setStopRecord none s) := by
    have still : (setStopRecord none s).mstate = .stopped := stopped
    simp only [moveTo, still, resumeAfter]
    rfl
  simp [clearStop, stopped, classLatched_false clear, target]

/-- The motion unit as a creep starts (R62). -/
def creepStarts (s : State) : State :=
  s.setMotion { s.motion with record := { s.motion.record with creepDist := 0 } }

theorem judgeCreep_passes {s : State} (hold : s.mstate = .hold)
    (unknown : s.guide.est.posState = .unlocated ∨ s.guide.est.posState = .lost)
    (still : s.motion.standstill = true) :
    judgeCreep s = (changeMotion .creep s.motion.record.resumeRun (creepStarts s), .done) := by
  have unknown : s.guide.est.posState.known = false := by rcases unknown with k | k <;> simp [k, PosState.known]
  have target : moveTo .creep (creepStarts s) =
      changeMotion .creep s.motion.record.resumeRun (creepStarts s) := by
    have still : (creepStarts s).mstate = .hold := hold
    simp only [moveTo, still, resumeAfter]
    rfl
  unfold judgeCreep
  rw [if_neg (by simp [hold]), if_neg (by simp [hold]), if_neg (by simp [unknown]), if_neg (by simp [still])]
  exact congrArg (fun t => (t, Answer.done)) target

/-- Settles O30: each is one change of motion state, or only counts in the stop record. -/
theorem stopClearStopAndCreep : Obligations.StopClearStopAndCreep := by
  refine ⟨fun s f rest taken => ⟨fun mayMove => ?_, fun stopped => ?_, fun parked => ?_⟩,
    fun s f rest taken stopped clear => ?_, fun s f rest taken hold unknown still => ?_⟩
  · obtain ⟨moved, port, motion, ends⟩ := stopCause_stops .request (s := frameTaken s rest) mayMove
    have judged : judgeStop (frameTaken s rest) = (stopCause .request (frameTaken s rest), .done) := by
      have same : (frameTaken s rest).mstate = s.mstate := rfl
      rcases mayMove with m | m | m <;> simp [judgeStop, same, m]
    obtain ⟨h, next, answered⟩ := onRequest_judged taken judged port
    generalize stopCause .request (frameTaken s rest) = w at *
    refine ⟨w.setHost h, next, answered, ?_, motion, ends⟩
    exact State.ext_fields moved.pending moved.config moved.guide rfl moved.zone rfl moved.cue moved.clip rfl
      moved.fault rfl
  · have judged : judgeStop (frameTaken s rest) = (furtherCause (frameTaken s rest), .already) := by
      have same : (frameTaken s rest).mstate = s.mstate := rfl
      rcases stopped with m | m | m <;> simp [judgeStop, stopCause, same, m]
    refine (onRequest_change (judge := fun _ => judgeStop) taken judged rfl).trans ?_
    rfl
  · have judged : judgeStop (frameTaken s rest) = (frameTaken s rest, .refuse .state) := by
      have same : (frameTaken s rest).mstate = .parked := parked
      simp [judgeStop, same]
    exact onRequest_refused (judge := judgeStop) taken judged
  · let u := setStopRecord none (frameTaken s rest)
    have judged : clearStop (frameTaken s rest) = (changeMotion .hold s.motion.record.resumeRun u, .done) :=
      clearStop_passes stopped clear
    have moved := (changeMotion_drives (new := .hold) rfl s.motion.record.resumeRun u).of_motion
    have motion := changeMotion_motion .hold s.motion.record.resumeRun u
    obtain ⟨-, -, seat, -⟩ := changeMotion_ends .hold s.motion.record.resumeRun u
    have seat := seat (by rw [show u.mstate = .stopped from stopped]; decide)
    have voice : s.motion.record.paused = true →
        (changeMotion .hold s.motion.record.resumeRun u).voice = s.voice :=
      fun paused => changeMotion_voice (s := u) _ paused
    obtain ⟨h, next, answered⟩ := onRequest_judged taken judged (by simp [u, setStopRecord])
    generalize changeMotion .hold s.motion.record.resumeRun u = w at *
    refine ⟨w.setHost h, next, answered, ?_, motion, voice⟩
    exact State.ext_fields moved.pending moved.config moved.guide rfl moved.zone seat moved.cue moved.clip rfl
      moved.fault rfl
  · let u := creepStarts (frameTaken s rest)
    have judged : judgeCreep (frameTaken s rest) = (changeMotion .creep s.motion.record.resumeRun u, .done) :=
      judgeCreep_passes hold unknown still
    have moved := (changeMotion_drives (new := .creep) rfl s.motion.record.resumeRun u).of_motion
    have motion := changeMotion_motion .creep s.motion.record.resumeRun u
    have ends := changeMotion_ends .creep s.motion.record.resumeRun u
    have voice : s.motion.record.paused = true →
        (changeMotion .creep s.motion.record.resumeRun u).voice = s.voice :=
      fun paused => changeMotion_voice (s := u) _ paused
    obtain ⟨h, next, answered⟩ := onRequest_judged taken judged (by simp [u, creepStarts])
    generalize changeMotion .creep s.motion.record.resumeRun u = w at *
    refine ⟨w.setHost h, next, answered, ?_, motion, voice, ends⟩
    exact State.ext_fields moved.pending moved.config moved.guide rfl moved.zone rfl moved.cue moved.clip rfl
      moved.fault rfl

/-! ### Refusals by latched faults (R51, R53, R56, R61) -/

theorem classLatched_true {s : State} {k : FaultClass}
    (h : ∃ c, (s.faultRec c).latched = true ∧ (s.faultRec c).cls = k) : s.classLatched k = true :=
  (classLatched_iff s k).2 h

/-- Settles O32: each judgement reaches its test of the latched classes, and refuses. -/
theorem latchedFaultsRefuseMotion : Obligations.LatchedFaultsRefuseMotion := by
  intro s f rest
  have summary : (frameTaken s rest).summary = s.summary := rfl
  refine ⟨fun taken parked ready released latched => ?_, fun taken hold located latched => ?_,
    fun taken hold target out known latched => ?_, fun taken stopped latched => ?_⟩
  · refine onRequest_refused (judge := enableDrive) (ans := refuseFault s) taken ?_
    have parked : (frameTaken s rest).mstate = .parked := parked
    have ready : (frameTaken s rest).isReady = true := decide_eq_true ready
    have released : (frameTaken s rest).motion.record.estopIn = false := released
    have latched : (frameTaken s rest).classLatched .stop || (frameTaken s rest).classLatched .hold := by
      obtain ⟨c, latched, cls⟩ := latched
      rw [Bool.or_eq_true]
      cases of : (s.faultRec c).cls with
      | stop => exact .inl (classLatched_true ⟨c, latched, of⟩)
      | hold => exact .inr (classLatched_true ⟨c, latched, of⟩)
      | note => exact absurd of cls
    simp only [enableDrive, parked, ready, released, latched]
    simp [refuseFault, summary]
  · refine onRequest_refused (judge := judgeDispatch .host) (ans := refuseFault s) taken ?_
    have hold : (frameTaken s rest).mstate = .hold := hold
    have located : (frameTaken s rest).guide.est.posState = .located := located
    have latched : (frameTaken s rest).classLatched .hold = true := classLatched_true latched
    simp [judgeDispatch, hold, located, latched, refuseFault, summary]
  · refine onRequest_refused (judge := judgeResume) (ans := refuseFault s) taken ?_
    have hold : (frameTaken s rest).mstate = .hold := hold
    have target : (frameTaken s rest).motion.record.resumeRun = true := target
    have out : (frameTaken s rest).inLoadZone = false := out
    have known : (frameTaken s rest).guide.est.posState.known = true := by
      show s.guide.est.posState.known = true
      rcases known with k | k <;> simp [k, PosState.known]
    have latched : (frameTaken s rest).classLatched .hold = true := classLatched_true latched
    simp [judgeResume, hold, target, out, known, latched, refuseFault, summary]
  · refine onRequest_refused (judge := clearStop) (ans := refuseFault s) taken ?_
    have stopped : (frameTaken s rest).mstate = .stopped := stopped
    have latched : (frameTaken s rest).classLatched .stop = true := classLatched_true latched
    simp [clearStop, stopped, latched, refuseFault, summary]

end Sys2Proof.Claims

namespace Sys2Proof.Claims

open Sys2Proof.Machine

/-! ### The ESTOP input (R64, R65) -/

/-- A vehicle that is not PARKED nor in ESTOP already enters ESTOP, with a stop record made or counted
in (R58, R59, R64). -/
theorem estopCause_eq {s : State} (parked : s.mstate ≠ .parked) (estop : s.mstate ≠ .estop) :
    ∃ record resume w, w = changeMotion .estop resume (setStopRecord record s) ∧
      (estopCause s = w ∨ estopCause s = creepEnd .stopped w) ∧
      (s.mstate = .hold ∨ s.mstate = .run ∨ s.mstate = .creep →
        record = some (newStopRecord (.fault .f01) s)) := by
  have take : ∀ r, ∃ resume, moveTo .estop (setStopRecord r s) = changeMotion .estop resume (setStopRecord r s) :=
    fun r => ⟨_, rfl⟩
  obtain ⟨made, made_eq⟩ := take (some (newStopRecord (.fault .f01) s))
  cases m : s.mstate
  case parked => exact absurd m parked
  case estop => exact absurd m estop
  case creep => exact ⟨_, made, _, rfl, .inr (by simp [estopCause, takeStop, m, made_eq]), fun _ => rfl⟩
  case hold => exact ⟨_, made, _, rfl, .inl (by simp [estopCause, takeStop, m, made_eq]), fun _ => rfl⟩
  case run => exact ⟨_, made, _, rfl, .inl (by simp [estopCause, takeStop, m, made_eq]), fun _ => rfl⟩
  case stopping => exact ⟨_, _, _, rfl, .inl (by simp [estopCause, m, furtherCause]; rfl), by simp⟩
  case stopped => exact ⟨_, _, _, rfl, .inl (by simp [estopCause, m, furtherCause]; rfl), by simp⟩

/-- What entering ESTOP does at once (R12, R35, R64, R135). -/
theorem estopCause_moves {s : State} (parked : s.mstate ≠ .parked) (estop : s.mstate ≠ .estop) :
    (estopCause s).mstate = .estop ∧
      (estopCause s).motion.record.estopIn = s.motion.record.estopIn ∧
      (estopCause s).motion.speed.demand = 0 ∧ (estopCause s).motion.drive = s.motion.drive ∧
      (estopCause s).guide = { s.guide with est := { s.guide.est with rollback := 0 } } ∧
      (estopCause s).cue = { s.cue with outputs := Vector.replicate 8 .off } ∧
      CheckAndWindowEnd s (estopCause s) ∧
      (∀ c, c ≠ .f05 → (estopCause s).faultRec c = s.faultRec c) ∧
      (s.mstate = .hold ∨ s.mstate = .run ∨ s.mstate = .creep →
        (estopCause s).motion.record.stopRec = some (newStopRecord (.fault .f01) s)) := by
  obtain ⟨record, resume, w, moved, taken, made⟩ := estopCause_eq parked estop
  have motion := changeMotion_motion .estop resume (setStopRecord record s)
  have guide := changeMotion_guide .estop resume (setStopRecord record s)
  have cue := changeMotion_cue .estop resume (setStopRecord record s)
  have ends := changeMotion_ends .estop resume (setStopRecord record s)
  have recs := fun c => changeMotion_rec .estop resume c (setStopRecord record s)
  rw [← moved] at motion guide cue ends recs
  have whole : w.mstate = .estop ∧ w.motion.record.estopIn = s.motion.record.estopIn ∧
      w.motion.speed.demand = 0 ∧ w.motion.drive = s.motion.drive ∧
      w.guide = { s.guide with est := { s.guide.est with rollback := 0 } } ∧
      w.cue = { s.cue with outputs := Vector.replicate 8 .off } ∧ CheckAndWindowEnd s w ∧
      (∀ c, c ≠ .f05 → w.faultRec c = s.faultRec c) ∧
      (s.mstate = .hold ∨ s.mstate = .run ∨ s.mstate = .creep →
        w.motion.record.stopRec = some (newStopRecord (.fault .f01) s)) := by
    refine ⟨?_, ?_, ?_, ?_, guide, cue, ends, fun c other => ?_, fun mayMove => ?_⟩
    · rw [State.mstate, motion]
      rfl
    · rw [motion]
      rfl
    · rw [motion]
      rfl
    · rw [motion]
      rfl
    · rw [recs, if_neg fun both => other both.2]
      rfl
    · rw [motion, ← made mayMove]
      rfl
  rcases taken with taken | taken
  · rwa [taken]
  · rw [taken]
    exact whole

/-- In ESTOP and in PARKED an ESTOP cause only counts, or does nothing. -/
theorem estopCause_rests {s : State} (rests : s.mstate = .parked ∨ s.mstate = .estop) :
    ∃ r, estopCause s = s.setMotion { s.motion with record := { s.motion.record with stopRec := r } } ∧
      (s.mstate = .parked → r = s.motion.record.stopRec) := by
  rcases rests with m | m
  · exact ⟨_, by simp only [estopCause, m]; rfl, fun _ => rfl⟩
  · exact ⟨_, by simp only [estopCause, m]; rfl, by simp [m]⟩

/-- What F01 is raised in (R65). -/
def estopRaised (s : State) : State := recordRaise .f01 .stop .none (setEstopIn true s)

theorem exec_estopAsserted {s : State} (released : s.motion.record.estopIn = false) :
    exec .estopAsserted s = .next (noteSummary s.summary (estopCause (estopRaised s))) := by
  show execEstopAsserted s = _
  rw [execEstopAsserted, released]
  rfl

/-- Recording F01 touches its record and the reports, after the input's level. -/
theorem estopRaised_rec (s : State) (c : FaultCode) :
    (estopRaised s).faultRec c =
      if c = .f01 then
        { active := true, latched := true, cls := .stop, count := min 255 ((s.faultRec .f01).count + 1)
          detail := .none }
      else s.faultRec c := by
  simp only [estopRaised, recordRaise_rec]
  rfl

theorem CheckAndWindowEnd.of_seat {s u t v : State} (h : CheckAndWindowEnd s t) (seat : u.seat = s.seat)
    (mstate : u.mstate = s.mstate) (same : v.seat = t.seat) : CheckAndWindowEnd u v := by
  simpa only [CheckAndWindowEnd, seat, mstate, same] using h

@[simp] theorem estopRaised_frame (s : State) :
    (estopRaised s).pending = s.pending ∧ (estopRaised s).config = s.config ∧
      (estopRaised s).guide = s.guide ∧ (estopRaised s).zone = s.zone ∧ (estopRaised s).seat = s.seat ∧
      (estopRaised s).cue = s.cue ∧ (estopRaised s).clip = s.clip ∧ (estopRaised s).voice = s.voice ∧
      (estopRaised s).motion = { s.motion with record := { s.motion.record with estopIn := true } } ∧
      (estopRaised s).host.port = s.host.port := by
  simp [estopRaised, setEstopIn]

/-- What the raising of F01 does to the records (R65, R185). -/
theorem estopCause_rec (s : State) {c : FaultCode} (h : c ≠ .f05) :
    (estopCause s).faultRec c = s.faultRec c := by
  by_cases rests : s.mstate = .parked ∨ s.mstate = .estop
  · obtain ⟨r, only, -⟩ := estopCause_rests rests
    rw [only]
    rfl
  · obtain ⟨parked, estop⟩ := not_or.1 rests
    obtain ⟨-, -, -, -, -, -, -, recs, -⟩ := estopCause_moves parked estop
    exact recs c h

theorem estopCause_estopIn (s : State) :
    (estopCause s).motion.record.estopIn = s.motion.record.estopIn := by
  by_cases rests : s.mstate = .parked ∨ s.mstate = .estop
  · obtain ⟨r, only, -⟩ := estopCause_rests rests
    rw [only]
    rfl
  · obtain ⟨parked, estop⟩ := not_or.1 rests
    obtain ⟨-, estopIn, -⟩ := estopCause_moves parked estop
    exact estopIn

theorem noteSummary_eq (b : FaultSummary) (s : State) :
    noteSummary b s = s.setHost (noteSummary b s).host := by
  apply State.ext_fields <;> simp

/-- The release of the ESTOP input (R65). -/
theorem exec_estopReleased {s : State} (asserted : s.motion.record.estopIn = true) :
    exec .estopReleased s =
      .next
        (if s.mstate = .estop then enterStopped (endCond .f01 (setEstopIn false s))
        else endCond .f01 (setEstopIn false s)) := by
  have mstate : (endCond .f01 (setEstopIn false s)).mstate = s.mstate := by
    rw [(endCond_frame .f01 (setEstopIn false s)).2.2.2.2.2.2.2.2.2.2]
    rfl
  show execEstopReleased s = _
  unfold execEstopReleased
  rw [if_pos asserted]
  dsimp only
  rw [mstate]

/-- F01 does not clear its latch itself (R188). -/
theorem endCond_estop (s : State) (c : FaultCode) :
    (endCond .f01 s).faultRec c =
      if c = .f01 then { s.faultRec .f01 with active := false } else s.faultRec c := by
  simp [State.selfClears]

theorem enterStopped_eq (s : State) :
    ∃ resume h, enterStopped s = (changeMotion .stopped resume s).setHost h ∧ h.port = s.host.port := by
  refine ⟨resumeAfter s.mstate .stopped s.motion.record.resumeRun, (enterStopped s).host, ?_, ?_⟩
  · rfl
  · simp

/-- What the release leaves (R65). -/
theorem estopReleased_stops {s : State} (asserted : s.motion.record.estopIn = true) :
    ∃ t, exec .estopReleased s = .next t ∧
      t =
        { s with
          host := t.host, fault := t.fault, motion := t.motion, guide := t.guide
          voice := t.voice } ∧
      OnlyReports s t ∧ t.faultRec .f01 = { s.faultRec .f01 with active := false } ∧
      t.motion.record.estopIn = false ∧
      t.mstate = (if s.mstate = .estop then .stopped else s.mstate) ∧
      t.motion.record.stopRec = s.motion.record.stopRec ∧ t.motion.speed = s.motion.speed := by
  have next := exec_estopReleased asserted
  have ended := (endCond_estop (setEstopIn false s) .f01).trans (if_pos rfl)
  obtain ⟨pending, config, guide, motion, zone, seat, cue, clip, voice, port, mstate⟩ :=
    endCond_frame .f01 (setEstopIn false s)
  generalize endCond .f01 (setEstopIn false s) = u at *
  refine ⟨_, next, ?_⟩
  by_cases estop : s.mstate = .estop
  · rw [if_pos estop, if_pos estop]
    obtain ⟨resume, h, entered, port'⟩ := enterStopped_eq u
    have motion' := changeMotion_motion .stopped resume u
    have cue' := changeMotion_cue .stopped resume u
    have recs := changeMotion_rec .stopped resume .f01 u
    obtain ⟨-, -, seat', -⟩ := changeMotion_ends .stopped resume u
    have seat' := seat' (by rw [mstate, show (setEstopIn false s).mstate = .estop from estop]; decide)
    obtain ⟨pending', config', zone', clip', -⟩ := changeMotion_frame .stopped resume u
    rw [entered]
    generalize changeMotion .stopped resume u = w at *
    refine ⟨?_, HostLink.eq_of_port (port'.trans port), ?_, ?_, ?_, ?_, ?_⟩
    · exact State.ext_fields (pending'.trans pending) (config'.trans config) rfl rfl (zone'.trans zone)
        (seat'.trans seat) (cue'.trans cue) (clip'.trans clip) rfl rfl rfl
    · exact recs.trans ended
    · show w.motion.record.estopIn = false
      rw [motion', motion]
      rfl
    · show w.motion.record.state = _
      rw [motion']
      rfl
    · show w.motion.record.stopRec = _
      rw [motion', motion]
      rfl
    · show w.motion.speed = _
      rw [motion', motion]
      rfl
  · rw [if_neg estop, if_neg estop]
    refine ⟨?_, HostLink.eq_of_port port, ended, ?_, mstate, ?_, ?_⟩
    · exact State.ext_fields pending config rfl rfl zone seat cue clip rfl rfl rfl
    · rw [motion]
      rfl
    · rw [motion]
      rfl
    · rw [motion]
      rfl

/-- Settles O31: F01's raising acts on motion as the state it finds says. -/
theorem estopInputStopsAtOnce : Obligations.EstopInputStopsAtOnce := by
  intro s
  refine ⟨fun released => ?_, fun asserted => ⟨?_, ?_⟩, fun released => ?_⟩
  · have next := exec_estopAsserted released
    rw [noteSummary_eq] at next
    have port : (noteSummary s.summary (estopCause (estopRaised s))).host.port = s.host.port := by simp
    generalize (noteSummary s.summary (estopCause (estopRaised s))).host = h at next port
    have mstate : (estopRaised s).mstate = s.mstate := rfl
    obtain ⟨pending, config, guide, zone, seat, cue, clip, voice, motion, -⟩ := estopRaised_frame s
    have recs := fun c (other : c ≠ .f05) => (estopCause_rec (estopRaised s) other).trans (estopRaised_rec s c)
    have estopIn := estopCause_estopIn (estopRaised s)
    obtain ⟨pending', config', zone', clip', -⟩ := estopCause_frame (estopRaised s)
    have raised := recs .f01 (by decide)
    refine ⟨(estopCause (estopRaised s)).setHost h, next, estopIn, ?_, ?_, ?_, ?_, fun c isF01 isF05 => ?_,
      HostLink.eq_of_port port, ?_, fun parked => ?_, fun parked => ?_, fun parked estop => ?_,
      fun mayMove => ?_⟩
    · exact congrArg FaultRecord.active raised
    · exact congrArg FaultRecord.latched raised
    · exact congrArg FaultRecord.cls raised
    · exact congrArg FaultRecord.count raised
    · exact (recs c isF05).trans (if_neg isF01)
    · exact State.ext_fields (pending'.trans pending) (config'.trans config) rfl rfl (zone'.trans zone) rfl rfl
        (clip'.trans clip) rfl rfl rfl
    · obtain ⟨r, only, kept⟩ := estopCause_rests (.inl (mstate.trans parked))
      rw [only, kept (mstate.trans parked)]
      exact ⟨motion, guide, cue, seat, voice⟩
    · show (estopCause (estopRaised s)).mstate = .estop
      by_cases estop : s.mstate = .estop
      · obtain ⟨r, only, -⟩ := estopCause_rests (.inr (mstate.trans estop))
        rw [only]
        exact estop
      · obtain ⟨enters, -⟩ := estopCause_moves (s := estopRaised s) parked estop
        exact enters
    · obtain ⟨-, -, demand, drive, guide', cue', ends, -⟩ := estopCause_moves (s := estopRaised s) parked estop
      exact ⟨demand, drive, guide', cue', ends⟩
    · obtain ⟨-, -, -, -, -, -, -, -, made⟩ := estopCause_moves (s := estopRaised s)
        (by rcases mayMove with m | m | m <;> simp [mstate, m])
        (by rcases mayMove with m | m | m <;> simp [mstate, m])
      exact made mayMove
  · show execEstopAsserted s = _
    rw [execEstopAsserted, if_pos asserted]
  · exact estopReleased_stops asserted
  · show execEstopReleased s = _
    rw [execEstopReleased, released]
    rfl

end Sys2Proof.Claims

namespace Sys2Proof.Claims

open Sys2Proof.Machine

/-! ### FEEDBACK (R40 to R43) -/

/-- What a fault's raising and the stop it may cause leave alone. -/
structure OnlyStops (s t : State) : Prop where
  pending : t.pending = s.pending
  config : t.config = s.config
  guide : t.guide = s.guide
  zone : t.zone = s.zone
  cue : t.cue = s.cue
  clip : t.clip = s.clip

theorem OnlyStops.trans {s t u : State} (h : OnlyStops s t) (k : OnlyStops t u) : OnlyStops s u :=
  ⟨k.pending.trans h.pending, k.config.trans h.config, k.guide.trans h.guide, k.zone.trans h.zone,
    k.cue.trans h.cue, k.clip.trans h.clip⟩

theorem raiseFault_onlyStops {c : FaultCode} (hc : c ≠ .f01) (d : FaultDetail) (s : State) :
    OnlyStops s (raiseFault c d s) := by
  obtain ⟨-, -, guide, cue⟩ := raiseFault_motion hc d s
  exact ⟨by simp, by simp, guide, by simp, cue, by simp⟩

theorem endCond_onlyStops (c : FaultCode) (s : State) : OnlyStops s (endCond c s) :=
  ⟨by simp, by simp, by simp, by simp, by simp, by simp⟩

theorem OnlyStops.of_motion {s t : State} {m : Motion} (h : OnlyStops (s.setMotion m) t) : OnlyStops s t :=
  ⟨h.pending, h.config, h.guide, h.zone, h.cue, h.clip⟩

/-- The FEEDBACK fields as the motion unit records them (R40). -/
def recorded (f : FeedbackFields) (s : State) : State :=
  s.setMotion
    { s.motion with
      drive := { s.motion.drive with actual := f.actual, ready := f.ready, fault := f.fault } }

theorem feedbackRecord_eq (f : FeedbackFields) (s : State) :
    feedbackRecord f s =
      if f.fault = 0 then endCond .f07 (recorded f s)
      else if s.motion.drive.fault ≠ 0 then recorded f s
      else raiseFault .f07 (.driveCode f.fault) (recorded f s) := rfl

theorem feedbackRecord_drive (f : FeedbackFields) (s : State) :
    OnlyStops s (feedbackRecord f s) ∧ (feedbackRecord f s).motion.drive = (recorded f s).motion.drive := by
  rw [feedbackRecord_eq]
  split
  · exact ⟨(endCond_onlyStops ..).of_motion, by simp⟩
  · split
    · exact ⟨⟨rfl, rfl, rfl, rfl, rfl, rfl⟩, rfl⟩
    · obtain ⟨-, motion, -⟩ := raiseFault_motion (c := .f07) (by decide) (.driveCode f.fault) (recorded f s)
      refine ⟨(raiseFault_onlyStops (by decide) ..).of_motion, ?_⟩
      rw [motion]

/-- A fault code of 0 ends F07's condition, and acts on nothing else (R42). -/
theorem feedbackRecord_clear {f : FeedbackFields} (clear : f.fault = 0) (s : State) :
    (feedbackRecord f s).motion = (recorded f s).motion ∧ (feedbackRecord f s).seat = s.seat ∧
      (feedbackRecord f s).voice = s.voice ∧ (feedbackRecord f s).faultActive .f07 = false := by
  rw [feedbackRecord_eq, if_pos clear]
  simp [State.faultActive, recorded]

/-- What FEEDBACK's record does to the fault table (R42). -/
theorem feedbackRecord_rec (f : FeedbackFields) (s : State) :
    (∀ c, c ≠ .f07 → (feedbackRecord f s).faultRec c = s.faultRec c) ∧
      (f.fault ≠ 0 → s.motion.drive.fault = 0 →
        (feedbackRecord f s).faultRec .f07 =
          { active := true, latched := true, cls := .stop
            count := min 255 ((s.faultRec .f07).count + 1), detail := .driveCode f.fault }) ∧
      (f.fault ≠ 0 → s.motion.drive.fault ≠ 0 → (feedbackRecord f s).faultRec .f07 = s.faultRec .f07) := by
  have same : ∀ c, (recorded f s).faultRec c = s.faultRec c := fun _ => rfl
  rw [feedbackRecord_eq]
  refine ⟨fun c other => ?_, fun code new => ?_, fun code old => ?_⟩
  · split
    · simp [other, same]
    · split
      · rfl
      · rw [raiseFault_rec (by decide), if_neg other, same]
  · rw [if_neg code, if_neg (by simpa using new), raiseFault_rec (by decide), if_pos rfl, same]
    rfl
  · rw [if_neg code, if_pos old]
    rfl

/-- The tracking count after a FEEDBACK (R43). -/
def trackNext (f : FeedbackFields) (d : SentDemand) (s : State) : Nat :=
  if d.enable = true ∧ f.ready = true ∧ s.lim.trackingLimit < (f.actual - d.delta).natAbs then
    min 10 (s.motion.drive.track + 1)
  else 0

/-- The tracking count as the motion unit stores it. -/
def tracked (n : Nat) (s : State) : State :=
  s.setMotion { s.motion with drive := { s.motion.drive with track := n } }

theorem trackingTest_eq (f : FeedbackFields) (d : SentDemand) (s : State) :
    trackingTest f d s =
      if trackNext f d s = 0 then endCond .f06 (tracked 0 s)
      else if trackNext f d s = 10 ∧ s.motion.drive.track ≠ 10 then
        raiseFault .f06 (.tracking f.actual d.delta) (tracked (trackNext f d s) s)
      else tracked (trackNext f d s) s := by
  unfold trackingTest trackNext
  by_cases far : d.enable = true ∧ f.ready = true ∧ s.lim.trackingLimit < (f.actual - d.delta).natAbs
  · have counted : min 10 (s.motion.drive.track + 1) ≠ 0 := by omega
    simp only [if_pos far, if_neg counted]
    rfl
  · simp only [if_neg far]
    rfl

theorem trackingTest_drive (f : FeedbackFields) (d : SentDemand) (s : State) :
    OnlyStops s (trackingTest f d s) ∧
      (trackingTest f d s).motion.drive = { s.motion.drive with track := trackNext f d s } := by
  rw [trackingTest_eq]
  split
  next zero => exact ⟨(endCond_onlyStops ..).of_motion, by simp [tracked, zero]⟩
  next =>
    split
    · obtain ⟨-, motion, -⟩ :=
        raiseFault_motion (c := .f06) (by decide) (.tracking f.actual d.delta) (tracked (trackNext f d s) s)
      refine ⟨(raiseFault_onlyStops (by decide) ..).of_motion, ?_⟩
      rw [motion]
      rfl
    · exact ⟨⟨rfl, rfl, rfl, rfl, rfl, rfl⟩, rfl⟩

/-- Below 10 the tracking count acts on the drive link only (R43). -/
theorem trackingTest_quiet {f : FeedbackFields} {d : SentDemand} {s : State} (below : trackNext f d s < 10) :
    (trackingTest f d s).motion =
        { s.motion with drive := { s.motion.drive with track := trackNext f d s } } ∧
      (trackingTest f d s).seat = s.seat ∧ (trackingTest f d s).voice = s.voice := by
  rw [trackingTest_eq]
  split
  next zero => simp [tracked, zero]
  next =>
    rw [if_neg (by omega)]
    exact ⟨rfl, rfl, rfl⟩

/-- What the tracking test does to the fault table (R43). -/
theorem trackingTest_rec (f : FeedbackFields) (d : SentDemand) (s : State) :
    (∀ c, c ≠ .f06 → (trackingTest f d s).faultRec c = s.faultRec c) ∧
      (trackNext f d s = 0 → (trackingTest f d s).faultActive .f06 = false) ∧
      (trackNext f d s = 10 → s.motion.drive.track = 9 →
        (trackingTest f d s).faultRec .f06 =
          { active := true, latched := true, cls := .stop
            count := min 255 ((s.faultRec .f06).count + 1), detail := .tracking f.actual d.delta }) ∧
      (0 < trackNext f d s → trackNext f d s < 10 ∨ s.motion.drive.track = 10 →
        (trackingTest f d s).faultRec .f06 = s.faultRec .f06) := by
  have same : ∀ n c, (tracked n s).faultRec c = s.faultRec c := fun _ _ => rfl
  rw [trackingTest_eq]
  refine ⟨fun c other => ?_, fun zero => ?_, fun ten nine => ?_, fun some within => ?_⟩
  · split
    · simp [other, same]
    · split
      · rw [raiseFault_rec (by decide), if_neg other, same]
      · rfl
  · rw [if_pos zero]
    simp [State.faultActive]
  · rw [if_neg (by omega), if_pos (by omega), raiseFault_rec (by decide), if_pos rfl, same]
    rfl
  · rw [if_neg (by omega), if_neg (by omega)]
    rfl

/-- A FEEDBACK frame's fields are those of its bytes, where its form is good (R40, R217). -/
theorem feedbackCheck_frame (seq lo hi flags fault : Byte) :
    feedbackCheck [0xA5, seq, lo, hi, flags, fault, crc8 [seq, lo, hi, flags, fault]] =
      some ⟨seq, (hi ++ lo : BitVec 16).toInt, flags.getLsbD 0, fault⟩ := by
  simp [feedbackCheck, ofLe16]

/-- A frame of good form is made of the fields found in it. -/
theorem frame_of_feedbackCheck {frame : List Byte} {f : FeedbackFields} (h : feedbackCheck frame = some f) :
    ∃ lo hi flags, frame = [0xA5, f.seq, lo, hi, flags, f.fault, crc8 [f.seq, lo, hi, flags, f.fault]] := by
  unfold feedbackCheck at h
  split at h
  · split at h
    next form =>
      obtain ⟨rfl, rfl⟩ := form
      cases h
      exact ⟨_, _, _, rfl⟩
    next => cases h
  · cases h

theorem exec_feedback {s : State} {frame : List Byte} {f : FeedbackFields} {d : SentDemand}
    (form : feedbackCheck frame = some f) (last : s.motion.drive.last = some d) (open_ : d.answered = false)
    (seq : f.seq = d.seq) :
    exec (.feedback frame) s = .next (trackingTest f d (feedbackRecord f (answerDemand d s))) := by
  show execFeedback frame s = _
  simp [execFeedback, form, last, open_, seq]

/-- The matching frame answers the last DEMAND: the miss count is 0 and F08's condition ends (R41). -/
theorem answerDemand_spec (d : SentDemand) (s : State) :
    (answerDemand d s).motion =
        { s.motion with
          drive := { s.motion.drive with last := some { d with answered := true }, miss := 0 } } ∧
      OnlyStops s (answerDemand d s) ∧ (answerDemand d s).seat = s.seat ∧ (answerDemand d s).voice = s.voice ∧
      (answerDemand d s).faultActive .f08 = false ∧
      ∀ c, c ≠ .f08 → (answerDemand d s).faultRec c = s.faultRec c := by
  refine ⟨by simp [answerDemand], (endCond_onlyStops ..).of_motion, by simp [answerDemand],
    by simp [answerDemand], by simp [State.faultActive, answerDemand], fun c other => ?_⟩
  simp [answerDemand, other]

/-- Settles O33: the matching frame answers the DEMAND, is recorded and tested, in this order. -/
theorem feedbackAnswersDemand : Obligations.FeedbackAnswersDemand := by
  refine ⟨fun s seq lo hi flags fault d last fresh same => ?_, fun s frame none => ?_⟩
  · intro frame actual
    have next := exec_feedback (feedbackCheck_frame seq lo hi flags fault) last fresh same
    obtain ⟨motion, stops, seat, voice, f08, recs⟩ := answerDemand_spec d s
    generalize answerDemand d s = u at *
    let f : FeedbackFields := ⟨seq, actual, flags.getLsbD 0, fault⟩
    obtain ⟨stops', drive'⟩ := feedbackRecord_drive f u
    obtain ⟨recs', new, old⟩ := feedbackRecord_rec f u
    have clear : fault = 0 → _ := fun code => feedbackRecord_clear (f := f) code u
    change exec _ s = .next (trackingTest f d (feedbackRecord f u)) at next
    generalize feedbackRecord f u = v at *
    obtain ⟨stops'', drive''⟩ := trackingTest_drive f d v
    have quiet := trackingTest_quiet (f := f) (d := d) (s := v)
    obtain ⟨recs'', zero, ten, within⟩ := trackingTest_rec f d v
    generalize trackingTest f d v = t at *
    have track : v.motion.drive.track = s.motion.drive.track := by rw [drive', recorded, State.setMotion_motion, motion]
    have code : u.motion.drive.fault = s.motion.drive.fault := by rw [motion]
    have lim : v.lim = s.lim := by rw [State.lim, stops'.config, stops.config, State.lim]
    have count : t.motion.drive.track = trackNext f d v := by rw [drive'']
    have whole := (stops.trans stops').trans stops''
    refine ⟨t, next, ?_, ?_, ?_, fun isZero => ?_, fun isCode isNew => ?_, fun isCode isOld => ?_,
      fun isZero => ?_, fun isTen wasNine => ?_, fun isSome isWithin => ?_, fun isZero isBelow => ?_⟩
    · exact State.ext_fields whole.pending whole.config whole.guide rfl whole.zone rfl whole.cue whole.clip rfl
        rfl rfl
    · rw [drive'', drive', recorded, State.setMotion_motion, motion, trackNext, lim, track]
    · rw [State.faultActive, recs'' _ (by decide), recs' _ (by decide)]
      exact f08
    · obtain ⟨-, -, -, f07⟩ := clear isZero
      rw [State.faultActive, recs'' _ (by decide)]
      exact f07
    · rw [recs'' _ (by decide), new isCode (code.trans isNew), recs _ (by decide)]
    · rw [recs'' _ (by decide), old isCode (code ▸ isOld), recs _ (by decide)]
    · exact zero (count ▸ isZero)
    · rw [ten (count ▸ isTen) (track ▸ wasNine), recs' _ (by decide), recs _ (by decide)]
    · rw [within (count ▸ isSome) (by rwa [← count, track]), recs' _ (by decide), recs _ (by decide)]
    · obtain ⟨motion', seat', voice', -⟩ := clear isZero
      obtain ⟨motion'', seat'', voice''⟩ := quiet (count ▸ isBelow)
      refine ⟨?_, seat''.trans (seat'.trans seat), voice''.trans (voice'.trans voice)⟩
      rw [motion'', motion', recorded, State.setMotion_motion, motion]
  · show execFeedback frame s = _
    unfold execFeedback
    split
    next f d form last =>
      split
      next both =>
        obtain ⟨seq, fresh⟩ := both
        obtain ⟨lo, hi, flags, whole⟩ := frame_of_feedbackCheck form
        exact absurd whole (none d f.seq lo hi flags f.fault last fresh seq)
      next => rfl
    next => rfl

end Sys2Proof.Claims

namespace Sys2Proof.Claims

open Sys2Proof.Machine

/-! ### The odometer count and the guide timer (R9, R15) -/

theorem exec_guideTimeout {s : State} {n : Nat} (runs : s.guide.timer = .running n) :
    exec .guideTimeout s = .next (raiseFault .f03 .none (s.setGuide { s.guide with timer := .expired })) := by
  show execGuideTimeout s = _
  rw [execGuideTimeout, runs]
  rfl

theorem stopsTo_eq (m : MotionState) :
    m.stopsTo =
      (match m with
      | .hold | .run | .creep => .stopping
      | .parked => .parked
      | .stopping => .stopping
      | .stopped => .stopped
      | .estop => .estop) := by
  cases m <;> rfl

theorem exec_odometerCount (s : State) (forward : Bool) :
    exec (.odometerCount forward) s =
      .next
        { s with
          guide :=
            { s.guide with
              odo :=
                if forward = true then min 32767 (max (-32767) (s.guide.odo + 1))
                else max (-32767) (min 32767 (s.guide.odo - 1)) } } := by
  have step : clampInt (-32767) 32767 (s.guide.odo + if forward then 1 else -1) =
      if forward = true then min 32767 (max (-32767) (s.guide.odo + 1))
      else max (-32767) (min 32767 (s.guide.odo - 1)) := by
    unfold clampInt
    cases forward
    · rfl
    · simp only [if_true]
      omega
  show execOdometerCount forward s = _
  rw [execOdometerCount, step]
  rfl

/-- Settles O34: the timeout raises F03, a STOP-class fault. -/
theorem odometerAndGuideTimer : Obligations.OdometerAndGuideTimer := by
  refine ⟨exec_odometerCount, fun s n runs => ?_⟩
  have next := exec_guideTimeout runs
  let u := s.setGuide { s.guide with timer := .expired }
  have recs := fun c => raiseFault_rec (c := .f03) (by decide) .none c u
  obtain ⟨mstate, motion, guide, cue⟩ := raiseFault_motion (c := .f03) (by decide) .none u
  obtain ⟨pending, config, zone, clip, port⟩ := raiseFault_frame .f03 .none u
  change exec _ s = .next (raiseFault .f03 .none u) at next
  generalize raiseFault .f03 .none u = t at *
  refine ⟨t, next, ?_, (recs .f03).trans (if_pos rfl), fun c other => (recs c).trans (if_neg other),
    HostLink.eq_of_port port, ?_, ?_⟩
  · exact State.ext_fields pending config guide rfl zone rfl cue clip rfl rfl rfl
  · exact mstate.trans (stopsTo_eq s.mstate)
  · rw [motion]
    rfl

end Sys2Proof.Claims

namespace Sys2Proof.Claims

open Sys2Proof.Machine

/-! ### What a guide sample's steps leave alone (R8) -/

/-- The records of the other faults are as they were. -/
structure FaultsKept (cs : List FaultCode) (s t : State) : Prop where
  kept : ∀ c, c ∉ cs → t.faultRec c = s.faultRec c

theorem FaultsKept.refl (cs : List FaultCode) (s : State) : FaultsKept cs s s := ⟨fun _ _ => rfl⟩

theorem FaultsKept.trans {cs ds : List FaultCode} {s t u : State} (h : FaultsKept cs s t)
    (k : FaultsKept ds t u) : FaultsKept (cs ++ ds) s u := by
  refine ⟨fun c out => ?_⟩
  rw [List.mem_append, not_or] at out
  rw [k.kept c out.2, h.kept c out.1]

theorem FaultsKept.mono {cs ds : List FaultCode} {s t : State} (h : FaultsKept cs s t) (sub : cs ⊆ ds) :
    FaultsKept ds s t := ⟨fun c out => h.kept c fun mem => out (sub mem)⟩

theorem FaultsKept.of_fault {s t : State} (cs : List FaultCode) (h : t.fault = s.fault) : FaultsKept cs s t :=
  ⟨fun c _ => State.faultRec_congr h c⟩

theorem endCond_kept (c : FaultCode) (s : State) : FaultsKept [c] s (endCond c s) :=
  ⟨fun d out => by rw [endCond_rec, if_neg (by simpa using out)]⟩

theorem raiseFault_kept {c : FaultCode} (hc : c ≠ .f01) (x : FaultDetail) (s : State) :
    FaultsKept [c] s (raiseFault c x s) :=
  ⟨fun d out => by rw [raiseFault_rec hc, if_neg (by simpa using out)]⟩

theorem FaultsKept.of_setGuide {cs : List FaultCode} {s t : State} {g : Guidance}
    (h : FaultsKept cs (s.setGuide g) t) : FaultsKept cs s t := ⟨h.kept⟩

/-- The motion unit is as it was, but for a stop: what a fault's raising may do. -/
structure MayStop (s t : State) : Prop where
  mstate : t.mstate = s.mstate ∨ t.mstate = s.mstate.stopsTo
  motion : t.motion = { s.motion with record := t.motion.record }

theorem MayStop.refl (s : State) : MayStop s s := ⟨.inl rfl, rfl⟩

theorem MayStop.trans {s t u : State} (h : MayStop s t) (k : MayStop t u) : MayStop s u := by
  refine ⟨?_, by rw [k.motion, h.motion]⟩
  rcases h.mstate with a | a <;> rcases k.mstate with b | b <;>
    simp [a, b, MotionState.stopsTo_stopsTo]

theorem MayStop.of_motion {s t : State} (h : t.motion = s.motion) : MayStop s t :=
  ⟨.inl (by rw [State.mstate, h]; rfl), by rw [h]⟩

theorem MayStop.of_stopsOnly {s t : State} (h : StopsOnly s t) : MayStop s t := by
  obtain ⟨mstate, motion, -, -⟩ := h
  exact ⟨mstate, motion⟩

theorem MayStop.of_setGuide {s t : State} {g : Guidance} (h : MayStop (s.setGuide g) t) : MayStop s t :=
  ⟨h.mstate, h.motion⟩

theorem raiseFault_mayStop {c : FaultCode} (hc : c ≠ .f01) (x : FaultDetail) (s : State) :
    MayStop s (raiseFault c x s) := .of_stopsOnly (raiseAs_stopsOnly hc c.cls x s)

theorem raiseFault_guide {c : FaultCode} (hc : c ≠ .f01) (x : FaultDetail) (s : State) :
    (raiseFault c x s).guide = s.guide := by
  obtain ⟨-, -, guide, -⟩ := raiseFault_motion hc x s
  exact guide

/-- A STOP-class fault leaves no vehicle in HOLD, RUN or CREEP (R186). -/
theorem raiseFault_stops {c : FaultCode} (hc : c ≠ .f01) (stop : c.cls = .stop) (x : FaultDetail) (s : State) :
    (raiseFault c x s).mstate = s.mstate.stopsTo := by
  obtain ⟨mstate, -⟩ := raiseFault_motion hc x s
  rw [mstate, if_pos stop]

/-! ### The guide timer and the odometer (R9 to R12, R15) -/

theorem startGuideTimer_spec (s : State) :
    (startGuideTimer s).guide = { s.guide with timer := .running 30 } ∧
      (startGuideTimer s).motion = s.motion ∧ (startGuideTimer s).faultActive .f03 = false ∧
      FaultsKept [.f03] s (startGuideTimer s) := by
  refine ⟨by simp [startGuideTimer, Config.guideMs], by simp, ?_, ?_⟩
  · simp [State.faultActive, startGuideTimer]
  · exact (endCond_kept ..).of_setGuide

/-- The rollback distance after the movement of the sample (R12). -/
def rolled (s : State) : Nat := rollbackAfter s.guide.est.rollback (moved s)

/-- The estimate after the odometry of the sample (R10 to R12). -/
def Moved (s : State) : Estimate :=
  { s.guide.est.move s.P s.lim.odoK s.guide.odo with
    rollback := if s.mstate.noRollback then 0 else rolled s }

/-- The odometry, with the rollback distance still to be followed. -/
def odometryRead (s : State) : State :=
  s.setGuide { s.guide with odo := 0, est := s.guide.est.move s.P s.lim.odoK s.guide.odo }

/-- The odometry with the rollback distance followed (R12). -/
def rolledRead (s : State) : State :=
  (odometryRead s).setGuide
    { (odometryRead s).guide with est := { (odometryRead s).guide.est with rollback := rolled s } }

theorem odometry_eq (s : State) :
    odometry s =
      if s.mstate.noRollback then zeroRollback (odometryRead s)
      else if s.lim.rollbackLimit < rolled s then
        if s.lim.rollbackLimit < s.guide.est.rollback then rolledRead s
        else raiseFault .f05 (.rollback (rolled s)) (rolledRead s)
      else endCond .f05 (rolledRead s) := rfl

theorem rolledRead_eq (s : State) :
    (rolledRead s).motion = s.motion ∧ (rolledRead s).mstate = s.mstate ∧
      (∀ c, (rolledRead s).faultRec c = s.faultRec c) ∧
      (s.mstate.noRollback = false → (rolledRead s).guide = { s.guide with odo := 0, est := Moved s }) := by
  refine ⟨rfl, rfl, fun _ => rfl, fun free => ?_⟩
  rw [Moved, free]
  rfl

/-- What the odometry does to the guidance unit (R9 to R12). -/
theorem odometry_guide (s : State) : (odometry s).guide = { s.guide with odo := 0, est := Moved s } := by
  obtain ⟨-, -, -, guide⟩ := rolledRead_eq s
  rw [odometry_eq]
  cases held : s.mstate.noRollback with
  | true => simp [zeroRollback, odometryRead, Moved, held]
  | false =>
    simp only [Bool.false_eq_true, if_false]
    split
    · split
      · exact guide held
      · exact (raiseFault_guide (by decide) ..).trans (guide held)
    · simpa using guide held

theorem odometry_mayStop (s : State) : MayStop s (odometry s) ∧ FaultsKept [.f05] s (odometry s) := by
  rw [odometry_eq]
  split
  · refine ⟨.of_motion (by simp [odometryRead]), ?_⟩
    exact (endCond_kept ..).of_setGuide.of_setGuide
  · split
    · split
      · exact ⟨.of_motion rfl, ⟨fun _ _ => rfl⟩⟩
      · exact ⟨(raiseFault_mayStop (by decide) ..).of_setGuide.of_setGuide,
          (raiseFault_kept (by decide) ..).of_setGuide.of_setGuide⟩
    · refine ⟨.of_motion (by simp [rolledRead, odometryRead]), ?_⟩
      exact (endCond_kept ..).of_setGuide.of_setGuide

/-- F05 ends in PARKED, STOPPED and ESTOP (R12). -/
theorem odometry_held {s : State} (held : s.mstate.noRollback = true) :
    (odometry s).faultActive .f05 = false ∧ (odometry s).motion = s.motion := by
  rw [odometry_eq, if_pos held]
  exact ⟨by simp [State.faultActive, zeroRollback], by simp [odometryRead]⟩

/-- F05 after a movement elsewhere: ended at or below the limit, raised as it is first passed (R12). -/
theorem odometry_rolls {s : State} (free : s.mstate.noRollback = false) :
    (rolled s ≤ s.lim.rollbackLimit →
        (odometry s).faultRec .f05 = { s.faultRec .f05 with active := false } ∧
          (odometry s).motion = s.motion) ∧
      (s.guide.est.rollback ≤ s.lim.rollbackLimit → s.lim.rollbackLimit < rolled s →
        (odometry s).faultRec .f05 =
            { active := true, latched := true, cls := .stop
              count := min 255 ((s.faultRec .f05).count + 1), detail := .rollback (rolled s) } ∧
          (odometry s).mstate = s.mstate.stopsTo) ∧
      (s.lim.rollbackLimit < s.guide.est.rollback → s.lim.rollbackLimit < rolled s →
        (odometry s).faultRec .f05 = s.faultRec .f05 ∧ (odometry s).motion = s.motion) := by
  obtain ⟨motion, mstate, recs, -⟩ := rolledRead_eq s
  rw [odometry_eq, free]
  simp only [Bool.false_eq_true, if_false]
  refine ⟨fun below => ?_, fun wasBelow above => ?_, fun wasAbove above => ?_⟩
  · rw [if_neg (by omega)]
    exact ⟨by simp [State.selfClears, recs], by simp [motion]⟩
  · rw [if_pos above, if_neg (by omega), raiseFault_rec (by decide), if_pos rfl, recs]
    exact ⟨rfl, by rw [raiseFault_stops (by decide) (by decide), mstate]⟩
  · rw [if_pos above, if_pos wasAbove]
    exact ⟨recs _, motion⟩

/-! ### The reading (R14) -/

theorem takeReading_guide (g : GuideSample) (s : State) :
    (takeReading g s).guide =
      { s.guide with reading := s.guide.reading.take g s.lim.strengthThreshold } := by
  unfold takeReading
  dsimp only
  split
  · simp
  · split
    · exact raiseFault_guide (by decide) ..
    · rfl

theorem takeReading_mayStop (g : GuideSample) (s : State) :
    MayStop s (takeReading g s) ∧ FaultsKept [.f02] s (takeReading g s) ∧ (takeReading g s).cue = s.cue := by
  unfold takeReading
  dsimp only
  split
  · exact ⟨.of_motion (by simp), (endCond_kept ..).of_setGuide, by simp⟩
  · split
    · exact ⟨(raiseFault_mayStop (by decide) ..).of_setGuide, (raiseFault_kept (by decide) ..).of_setGuide,
        (raiseFault_onlyStops (by decide) ..).cue⟩
    · exact ⟨.of_motion rfl, ⟨fun _ _ => rfl⟩, rfl⟩

/-- A strong sample stops nothing (R14). -/
theorem takeReading_strong {g : GuideSample} {s : State} (strong : s.lim.strengthThreshold ≤ g.strength.toNat) :
    (takeReading g s).motion = s.motion := by
  have zero : (s.guide.reading.take g s.lim.strengthThreshold).weak = 0 := by
    simp [GuideReading.take, strong]
  unfold takeReading
  dsimp only
  rw [if_pos zero]
  simp

end Sys2Proof.Claims

namespace Sys2Proof.Claims

open Sys2Proof.Machine

/-! ### Markers and the gap limit (R16 to R19) -/

theorem setEst_guide (e : Estimate) (s : State) : (setEst e s).guide = { s.guide with est := e } := rfl

/-- The F04 of a lost position (R18, R19). -/
def lostRecord (s : State) (cause : LostCause) : FaultRecord :=
  { active := true, latched := true, cls := .stop, count := min 255 ((s.faultRec .f04).count + 1)
    detail := .positionLost cause s.guide.est.lastMarker }

/-- What losing the position does (R18, R19). -/
theorem losePosition_spec (cause : LostCause) (s : State) :
    (losePosition cause s).guide = { s.guide with est := { s.guide.est with posState := .lost } } ∧
      (losePosition cause s).mstate = s.mstate.stopsTo ∧ MayStop s (losePosition cause s) ∧
      (losePosition cause s).faultRec .f04 = lostRecord s cause ∧
      FaultsKept [.f04] s (losePosition cause s) ∧ (losePosition cause s).cue = s.cue := by
  let u := setEst { s.guide.est with posState := .lost } s
  let x : FaultDetail := .positionLost cause s.guide.est.lastMarker
  have whole : losePosition cause s = reportPosition (raiseFault .f04 x u) := rfl
  have stops := raiseFault_stops (c := .f04) (by decide) (by decide) x u
  have may : MayStop s (raiseFault .f04 x u) := (raiseFault_mayStop (by decide) x u).of_setGuide
  have kept : FaultsKept [.f04] s (raiseFault .f04 x u) := (raiseFault_kept (by decide) x u).of_setGuide
  have recs := raiseFault_rec (c := .f04) (by decide) x .f04 u
  have guide := raiseFault_guide (c := .f04) (by decide) x u
  have cue := (raiseFault_onlyStops (c := .f04) (by decide) x u).cue
  rw [whole]
  refine ⟨?_, ?_, ⟨?_, ?_⟩, ?_, ⟨fun c out => ?_⟩, ?_⟩
  · rw [reportPosition_guide, guide]
    rfl
  · exact (by simp : (reportPosition (raiseFault .f04 x u)).mstate = _).trans stops
  · simpa [reportPosition] using may.mstate
  · simpa [reportPosition] using may.motion
  · simp only [reportPosition, postState_rec, recs]
    rfl
  · simpa [reportPosition] using kept.kept c out
  · exact (by simp : (reportPosition (raiseFault .f04 x u)).cue = _).trans cue

/-- What an accepted marker does (R17, R18). -/
theorem acceptMarker_spec (eps : Int) (s : State) :
    (acceptMarker eps s).guide = { s.guide with est := s.guide.est.accept s.P eps } ∧
      (acceptMarker eps s).faultActive .f04 = false ∧ FaultsKept [.f04] s (acceptMarker eps s) := by
  refine ⟨by simp [acceptMarker, setEst_guide], by simp [State.faultActive, acceptMarker], ?_⟩
  exact (endCond_kept ..).of_setGuide

/-- The state a mismatch's tests start from: counted, raised and reported (R18). -/
def mismatched (code : Code) (pos : Nat) (eps : Int) (s : State) : State :=
  postEvent (.marker .mismatch code pos eps)
    (raiseFault .f19 (.marker code)
      (setEst { s.guide.est with mismatch := min 2 (s.guide.est.mismatch + 1) } s))

theorem mismatchMarker_eq (code : Code) (pos : Nat) (eps : Int) (s : State) :
    mismatchMarker code pos eps s =
      if 2 ≤ s.guide.est.mismatch + 1 then losePosition .mismatch (mismatched code pos eps s)
      else
        reportPosition
          (setEst { (mismatched code pos eps s).guide.est with posState := .doubt }
            (mismatched code pos eps s)) := rfl

theorem mismatched_spec (code : Code) (pos : Nat) (eps : Int) (s : State) :
    (mismatched code pos eps s).guide =
        { s.guide with est := { s.guide.est with mismatch := min 2 (s.guide.est.mismatch + 1) } } ∧
      (mismatched code pos eps s).motion = s.motion ∧
      (mismatched code pos eps s).faultRec .f19 =
        { active := false, latched := true, cls := .note, count := min 255 ((s.faultRec .f19).count + 1)
          detail := .marker code } ∧
      FaultsKept [.f19] s (mismatched code pos eps s) ∧ (mismatched code pos eps s).cue = s.cue := by
  let u := setEst { s.guide.est with mismatch := min 2 (s.guide.est.mismatch + 1) } s
  have quiet := raiseFault_quiet .f19 (.marker code) u (by decide)
  have motion : (raiseFault .f19 (.marker code) u).motion = s.motion := by
    rw [quiet]
    simp [u, setEst]
  have cue : (raiseFault .f19 (.marker code) u).cue = s.cue := by
    rw [quiet]
    simp [u, setEst]
  have guide := raiseFault_guide (c := .f19) (by decide) (.marker code) u
  have recs := raiseFault_rec (c := .f19) (by decide) (.marker code) .f19 u
  have kept : FaultsKept [.f19] s (raiseFault .f19 (.marker code) u) :=
    (raiseFault_kept (by decide) ..).of_setGuide
  have whole : mismatched code pos eps s =
    postEvent (.marker .mismatch code pos eps) (raiseFault .f19 (.marker code) u) := rfl
  rw [whole]
  generalize raiseFault .f19 (.marker code) u = v at *
  exact ⟨guide, motion, recs, ⟨kept.kept⟩, cue⟩

/-- What a mismatch does (R18). -/
theorem mismatchMarker_spec (code : Code) (pos : Nat) (eps : Int) (s : State) :
    (mismatchMarker code pos eps s).guide =
        { s.guide with
          est :=
            { s.guide.est with
              mismatch := min 2 (s.guide.est.mismatch + 1)
              posState := if 2 ≤ s.guide.est.mismatch + 1 then .lost else .doubt } } ∧
      MayStop s (mismatchMarker code pos eps s) ∧
      (mismatchMarker code pos eps s).faultRec .f19 =
        { active := false, latched := true, cls := .note, count := min 255 ((s.faultRec .f19).count + 1)
          detail := .marker code } ∧
      FaultsKept [.f04, .f19] s (mismatchMarker code pos eps s) ∧
      (mismatchMarker code pos eps s).cue = s.cue ∧
      (2 ≤ s.guide.est.mismatch + 1 →
        (mismatchMarker code pos eps s).faultRec .f04 = lostRecord s .mismatch ∧
          (mismatchMarker code pos eps s).mstate = s.mstate.stopsTo) ∧
      (s.guide.est.mismatch = 0 →
        (mismatchMarker code pos eps s).faultRec .f04 = s.faultRec .f04 ∧
          (mismatchMarker code pos eps s).motion = s.motion) := by
  obtain ⟨guide, motion, f19, kept, cue⟩ := mismatched_spec code pos eps s
  have mstate : (mismatched code pos eps s).mstate = s.mstate := congrArg (fun m => m.record.state) motion
  rw [mismatchMarker_eq]
  generalize mismatched code pos eps s = u at *
  split
  next second =>
    obtain ⟨guide', stops, may, f04, kept', cue'⟩ := losePosition_spec .mismatch u
    refine ⟨by rw [guide', guide], (MayStop.of_motion motion).trans may, ?_,
      (kept.trans kept').mono (by decide), cue'.trans cue, fun _ => ⟨?_, by rw [stops, mstate]⟩,
      fun none => by omega⟩
    · rw [kept'.kept _ (by decide), f19]
    · rw [f04, lostRecord, kept.kept _ (by decide), guide]
      rfl
  next first =>
    refine ⟨?_, .of_motion ?_, ?_, ⟨fun c out => ?_⟩, ?_, fun second => absurd second first, fun _ => ⟨?_, ?_⟩⟩
    · rw [reportPosition_guide, setEst_guide, guide]
    · simpa [reportPosition, setEst] using motion
    · simpa [reportPosition, setEst] using f19
    · simpa [reportPosition, setEst] using kept.kept c fun mem => out (by simp_all)
    · simpa [reportPosition, setEst] using cue
    · simpa [reportPosition, setEst] using kept.kept .f04 (by decide)
    · simpa [reportPosition, setEst] using motion

/-- The gap limit test (R19). -/
theorem gapTest_spec (s : State) :
    (gapTest s).guide =
        { s.guide with
          est :=
            { s.guide.est with
              posState :=
                if s.guide.est.posState.known = true ∧ s.lim.gapLimit < s.guide.est.since then .lost
                else s.guide.est.posState } } ∧
      MayStop s (gapTest s) ∧ FaultsKept [.f04] s (gapTest s) ∧ (gapTest s).cue = s.cue ∧
      (s.guide.est.posState.known = true ∧ s.lim.gapLimit < s.guide.est.since →
        (gapTest s).faultRec .f04 = lostRecord s .gap ∧ (gapTest s).mstate = s.mstate.stopsTo) ∧
      (¬ (s.guide.est.posState.known = true ∧ s.lim.gapLimit < s.guide.est.since) → gapTest s = s) := by
  unfold gapTest
  split
  next far =>
    obtain ⟨guide, stops, may, f04, kept, cue⟩ := losePosition_spec .gap s
    exact ⟨guide, may, kept, cue, fun _ => ⟨f04, stops⟩, fun near => absurd far near⟩
  next near => exact ⟨rfl, .refl s, .refl .., rfl, fun far => absurd far near, fun _ => rfl⟩

end Sys2Proof.Claims

namespace Sys2Proof.Claims

open Sys2Proof.Machine

/-! ### A marker that is read (R16 to R18) -/

/-- The state with the marker code just read as the last one (log 47). -/
def named (code : Code) (s : State) : State := setEst { s.guide.est with lastMarker := some code } s

/-- A marker code of the table, the only one with it, is found (R5). -/
theorem findMarker_unique {s : State} {code : Code} {m : Marker} (mem : m ∈ s.guide.markers)
    (named : m.code = code) (unique : ∀ x ∈ s.guide.markers, x.code = code → x = m) :
    s.findMarker code = some m := by
  unfold State.findMarker
  cases found : s.guide.markers.find? fun x => x.code == code with
  | none => exact absurd (List.find?_eq_none.1 found m mem) (by simp [named])
  | some x =>
    have code' : x.code = code := by simpa using List.find?_some found
    rw [unique x (List.mem_of_find?_eq_some found) code']

theorem handleMarker_unknown {code : Code} {s : State} (none_ : s.findMarker code = none) :
    handleMarker code s =
      (raiseFault .f20 (.marker code) (postEvent (.marker .unknown code s.guide.est.front 0) s), none) := by
  simp [handleMarker, none_]

theorem handleMarker_found {code : Code} {m : Marker} {s : State} (found : s.findMarker code = some m) :
    handleMarker code s =
      if s.guide.est.posState.known then
        if (s.markerError m.pos).natAbs ≤ s.lim.captureWindow then
          (reportPosition (acceptMarker (s.markerError m.pos) (named code s)), some (code, -s.markerError m.pos))
        else (mismatchMarker code m.pos (s.markerError m.pos) (named code s), none)
      else
        (reportPosition
          (postEvent (.marker .locate code m.pos (-s.markerError m.pos))
            (acceptMarker (s.markerError m.pos) (named code s))), some (code, -s.markerError m.pos)) := by
  unfold handleMarker
  rw [found]
  rfl

/-- The estimate with an accepted marker's code and without its error (R17, R18). -/
def Accepted (s : State) (code : Code) (m : Marker) : Estimate :=
  { s.guide.est with lastMarker := some code }.accept s.P (s.markerError m.pos)

/-- What a marker that is accepted does, whether the position was known or not (R17, R18). -/
theorem handleMarker_accepts {code : Code} {m : Marker} {s : State} (found : s.findMarker code = some m)
    (accepted : s.guide.est.posState.known = true → (s.markerError m.pos).natAbs ≤ s.lim.captureWindow) :
    (handleMarker code s).2 = some (code, -s.markerError m.pos) ∧
      (handleMarker code s).1.guide = { s.guide with est := Accepted s code m } ∧
      (handleMarker code s).1.motion = s.motion ∧ (handleMarker code s).1.cue = s.cue ∧
      (handleMarker code s).1.faultActive .f04 = false ∧ FaultsKept [.f04] s (handleMarker code s).1 := by
  obtain ⟨guide, f04, kept⟩ := acceptMarker_spec (s.markerError m.pos) (named code s)
  have motion : (acceptMarker (s.markerError m.pos) (named code s)).motion = s.motion := by simp [named, setEst]
  have cue : (acceptMarker (s.markerError m.pos) (named code s)).cue = s.cue := by simp [named, setEst]
  have guide : (acceptMarker (s.markerError m.pos) (named code s)).guide =
      { s.guide with est := Accepted s code m } := guide
  have kept : FaultsKept [.f04] s (acceptMarker (s.markerError m.pos) (named code s)) := kept.of_setGuide
  rw [handleMarker_found found]
  cases known : s.guide.est.posState.known with
  | true =>
    rw [if_pos rfl, if_pos (accepted known)]
    generalize acceptMarker (s.markerError m.pos) (named code s) = u at *
    refine ⟨rfl, by rw [reportPosition_guide, guide], by simpa using motion, by simpa using cue, ?_,
      ⟨fun c out => ?_⟩⟩
    · simpa [State.faultActive, reportPosition] using f04
    · simpa [reportPosition] using kept.kept c out
  | false =>
    rw [if_neg (by simp)]
    generalize acceptMarker (s.markerError m.pos) (named code s) = u at *
    refine ⟨rfl, ?_, by simpa using motion, by simpa using cue, ?_, ⟨fun c out => ?_⟩⟩
    · rw [reportPosition_guide]
      exact guide
    · simpa [State.faultActive, reportPosition] using f04
    · simpa [reportPosition] using kept.kept c out

/-- What every marker leaves alone (R16 to R18). -/
theorem handleMarker_keeps (code : Code) (s : State) :
    ∃ e : Estimate, (handleMarker code s).1.guide = { s.guide with est := e } ∧
      e.speed = s.guide.est.speed ∧ e.rollback = s.guide.est.rollback ∧ MayStop s (handleMarker code s).1 ∧
      FaultsKept [.f04, .f19, .f20] s (handleMarker code s).1 ∧ (handleMarker code s).1.cue = s.cue := by
  cases found : s.findMarker code with
  | none =>
    rw [handleMarker_unknown found]
    let u := postEvent (.marker .unknown code s.guide.est.front 0) s
    have quiet := raiseFault_quiet .f20 (.marker code) u (by decide)
    have motion : (raiseFault .f20 (.marker code) u).motion = s.motion := by rw [quiet]; simp [u]
    have cue : (raiseFault .f20 (.marker code) u).cue = s.cue := by rw [quiet]; simp [u]
    have kept : FaultsKept [.f20] u _ := raiseFault_kept (by decide) (.marker code) u
    exact ⟨s.guide.est, raiseFault_guide (by decide) .., rfl, rfl, .of_motion motion,
      ⟨fun c out => kept.kept c fun mem => out (by simp_all)⟩, cue⟩
  | some m =>
    by_cases accepted : s.guide.est.posState.known = true → (s.markerError m.pos).natAbs ≤ s.lim.captureWindow
    · obtain ⟨-, guide, motion, cue, -, kept⟩ := handleMarker_accepts found accepted
      exact ⟨_, guide, rfl, rfl, .of_motion motion, kept.mono (by decide), cue⟩
    · obtain ⟨known, far⟩ := Classical.not_imp.1 accepted
      rw [handleMarker_found found, if_pos known, if_neg far]
      obtain ⟨guide, may, -, kept, cue, -⟩ :=
        mismatchMarker_spec code m.pos (s.markerError m.pos) (named code s)
      exact ⟨_, guide, rfl, rfl, ⟨may.mstate, may.motion⟩, ⟨fun c out => kept.kept c fun mem => out (by simp_all)⟩,
        cue⟩

/-! ### The steps of an arrival (R8) -/

/-- The arrival with its odometry and its reading taken. -/
def sampled (g : GuideSample) (s : State) : State := takeReading g (odometry (startGuideTimer s))

/-- The arrival with its marker handled. -/
def marked (g : GuideSample) (s : State) : State × Option (Code × Int) := sampleMarker g.marker (sampled g s)

/-- The arrival as the guidance unit hands it on. -/
def guided (g : GuideSample) (s : State) : State := steer (gapTest (marked g s).1)

/-- The position update the guidance unit hands on. -/
def update (g : GuideSample) (s : State) : PosUpdate :=
  arrivalUpdate s.guide.est (guided g s).guide.est (moved s) (marked g s).2

theorem exec_guideSample {s : State} (ready : s.config.record.state = .ready) (g : GuideSample)
    (order : UnitOrder) :
    exec (.guideSample g order) s = .next (handOn order (update g s) (guided g s)) := by
  show execGuideSample g order s = _
  rw [execGuideSample, if_pos (show s.isReady = true from decide_eq_true ready)]
  rfl

/-- The guidance unit after the odometry and the reading. -/
def sampledGuide (g : GuideSample) (s : State) : Guidance :=
  { s.guide with
    timer := .running 30, odo := 0, est := Moved s
    reading := s.guide.reading.take g s.lim.strengthThreshold }

theorem sampled_spec (g : GuideSample) (s : State) :
    (sampled g s).guide = sampledGuide g s ∧ MayStop s (sampled g s) ∧
      FaultsKept [.f02, .f03, .f05] s (sampled g s) ∧ (sampled g s).faultActive .f03 = false ∧
      (sampled g s).cue = s.cue ∧ (sampled g s).config = s.config := by
  obtain ⟨guide0, motion0, f03, kept0⟩ := startGuideTimer_spec s
  have config0 : (startGuideTimer s).config = s.config := by simp
  have mstate0 : (startGuideTimer s).mstate = s.mstate := congrArg (fun m => m.record.state) motion0
  have cue0 : (startGuideTimer s).cue = s.cue := by simp
  unfold sampled
  generalize startGuideTimer s = a at *
  have guide1 := odometry_guide a
  obtain ⟨may1, kept1⟩ := odometry_mayStop a
  have config1 : (odometry a).config = a.config := by simp
  have cue1 : (odometry a).cue = a.cue := by
    rw [odometry_eq]
    split
    · simp [odometryRead]
    · split
      · split
        · rfl
        · exact (raiseFault_onlyStops (by decide) ..).cue
      · simp [rolledRead, odometryRead]
  generalize odometry a = b at *
  have guide2 := takeReading_guide g b
  obtain ⟨may2, kept2, cue2⟩ := takeReading_mayStop g b
  refine ⟨?_, (MayStop.of_motion motion0).trans (may1.trans may2), ?_, ?_, ?_, ?_⟩
  · rw [guide2, guide1, guide0, State.lim, config1, config0, sampledGuide, Moved, Moved, mstate0, rolled, rolled,
      moved, moved, State.P, State.P, guide0, State.lim, config0]
    rfl
  · exact ((kept0.trans kept1).trans kept2).mono (by decide)
  · rw [State.faultActive, kept2.kept _ (by decide), kept1.kept _ (by decide)]
    exact f03
  · rw [cue2, cue1, cue0]
  · simp [config1, config0]

end Sys2Proof.Claims

namespace Sys2Proof.Claims

open Sys2Proof.Machine

/-- What the odometry reads is as it was once the guide timer runs again. -/
theorem startGuideTimer_same (s : State) :
    (startGuideTimer s).mstate = s.mstate ∧ (startGuideTimer s).lim = s.lim ∧
      (startGuideTimer s).guide.est = s.guide.est ∧ rolled (startGuideTimer s) = rolled s ∧
      (startGuideTimer s).faultRec .f05 = s.faultRec .f05 := by
  obtain ⟨guide, motion, -, kept⟩ := startGuideTimer_spec s
  have config : (startGuideTimer s).config = s.config := by simp
  generalize startGuideTimer s = a at *
  refine ⟨congrArg (fun m => m.record.state) motion, by rw [State.lim, config]; rfl, by rw [guide], ?_,
    kept.kept _ (by decide)⟩
  rw [rolled, rolled, moved, moved, guide, State.lim, config]
  rfl

/-- F05 as the reading leaves it (R12). -/
theorem sampled_f05 (g : GuideSample) (s : State) :
    (s.mstate.noRollback = true → (sampled g s).faultActive .f05 = false) ∧
      (s.mstate.noRollback = false →
        (rolled s ≤ s.lim.rollbackLimit →
            (sampled g s).faultRec .f05 = { s.faultRec .f05 with active := false }) ∧
          (s.guide.est.rollback ≤ s.lim.rollbackLimit → s.lim.rollbackLimit < rolled s →
            (sampled g s).faultRec .f05 =
                { active := true, latched := true, cls := .stop
                  count := min 255 ((s.faultRec .f05).count + 1), detail := .rollback (rolled s) } ∧
              (sampled g s).mstate = s.mstate.stopsTo) ∧
          (s.lim.rollbackLimit < s.guide.est.rollback → s.lim.rollbackLimit < rolled s →
            (sampled g s).faultRec .f05 = s.faultRec .f05)) := by
  obtain ⟨mstate, lim, est, roll, f05⟩ := startGuideTimer_same s
  obtain ⟨may, kept, -⟩ := takeReading_mayStop g (odometry (startGuideTimer s))
  have same : (sampled g s).faultRec .f05 = (odometry (startGuideTimer s)).faultRec .f05 :=
    kept.kept _ (by decide)
  refine ⟨fun held => ?_, fun free => ?_⟩
  · rw [State.faultActive, same]
    obtain ⟨ended, -⟩ := odometry_held (s := startGuideTimer s) (mstate ▸ held)
    exact ended
  · obtain ⟨below, passes, above⟩ := odometry_rolls (s := startGuideTimer s) (mstate ▸ free)
    rw [roll, lim, f05] at below passes above
    rw [est] at passes above
    rw [same]
    refine ⟨fun h => (below h).1, fun h1 h2 => ⟨(passes h1 h2).1, ?_⟩, fun h1 h2 => (above h1 h2).1⟩
    have stops := (passes h1 h2).2
    show (takeReading g (odometry (startGuideTimer s))).mstate = _
    rw [mstate] at stops
    rcases may.mstate with m | m
    · rw [m, stops]
    · rw [m, stops, MotionState.stopsTo_stopsTo]

/-- A strong sample without movement backward stops nothing (R12, R14). -/
theorem sampled_calm {g : GuideSample} {s : State} (strong : s.lim.strengthThreshold ≤ g.strength.toNat)
    (forward : 0 ≤ moved s) : (sampled g s).motion = s.motion := by
  obtain ⟨mstate, lim, est, roll, -⟩ := startGuideTimer_same s
  obtain ⟨-, motion0, -⟩ := startGuideTimer_spec s
  have falls : rolled s ≤ s.guide.est.rollback := by
    rw [rolled, rollbackAfter, if_neg (by omega)]
    omega
  have moved1 : (odometry (startGuideTimer s)).motion = s.motion := by
    cases held : s.mstate.noRollback with
    | true =>
      obtain ⟨-, motion⟩ := odometry_held (s := startGuideTimer s) (mstate ▸ held)
      rw [motion, motion0]
    | false =>
      obtain ⟨below, -, above⟩ := odometry_rolls (s := startGuideTimer s) (mstate ▸ held)
      rw [roll, lim] at below above
      rw [est] at above
      by_cases far : s.lim.rollbackLimit < rolled s
      · rw [(above (by omega) far).2, motion0]
      · rw [(below (by omega)).2, motion0]
  have lim1 : (odometry (startGuideTimer s)).lim = s.lim := by simp [State.lim]
  show (takeReading g (odometry (startGuideTimer s))).motion = _
  rw [takeReading_strong (by rw [lim1]; exact strong), moved1]

theorem steer_guide (s : State) :
    (steer s).guide =
      { s.guide with
        steer :=
          if s.mstate.steers then
            s.guide.steer.next s.feedforward s.feedback s.lim.steerRange s.lim.steerSlew
          else s.guide.steer } := by
  unfold steer
  split <;> rfl

/-- What every arrival leaves for the other units (R8). -/
structure Guided (g : GuideSample) (s t : State) : Prop where
  guide : ∃ e x, t.guide = { sampledGuide g s with est := e, steer := x } ∧
    e.speed = (Moved s).speed ∧ e.rollback = (Moved s).rollback
  may : MayStop s t
  faults : FaultsKept [.f02, .f03, .f04, .f05, .f19, .f20] s t
  f03 : t.faultActive .f03 = false
  f05 : t.faultRec .f05 = (sampled g s).faultRec .f05
  cue : t.cue = s.cue
  config : t.config = s.config
  zone : t.zone = s.zone

theorem marked_keeps (g : GuideSample) (s : State) :
    ∃ e : Estimate, (marked g s).1.guide = { sampledGuide g s with est := e } ∧
      e.speed = (Moved s).speed ∧ e.rollback = (Moved s).rollback ∧ MayStop (sampled g s) (marked g s).1 ∧
      FaultsKept [.f04, .f19, .f20] (sampled g s) (marked g s).1 ∧ (marked g s).1.cue = (sampled g s).cue := by
  obtain ⟨guide, -⟩ := sampled_spec g s
  unfold marked sampleMarker
  cases g.marker with
  | none => exact ⟨Moved s, guide, rfl, rfl, .refl _, .refl .., rfl⟩
  | some code =>
    obtain ⟨e, guide', speed, rollback, may, kept, cue⟩ := handleMarker_keeps code (sampled g s)
    refine ⟨e, ?_, ?_, ?_, may, kept, cue⟩
    · rw [guide', guide]
    · rw [speed, guide]
      rfl
    · rw [rollback, guide]
      rfl

theorem guided_spec (g : GuideSample) (s : State) : Guided g s (guided g s) := by
  obtain ⟨-, may0, kept0, f03, cue0, config0⟩ := sampled_spec g s
  obtain ⟨e, guide1, speed, rollback, may1, kept1, cue1⟩ := marked_keeps g s
  obtain ⟨guide2, may2, kept2, cue2, -⟩ := gapTest_spec (marked g s).1
  have guide3 := steer_guide (gapTest (marked g s).1)
  obtain ⟨-, -, motion3, -, -, cue3, -, -, fault3, -, -⟩ := steer_frame (gapTest (marked g s).1)
  have kept3 := FaultsKept.of_fault [] fault3
  have config : (guided g s).config = s.config := by simp [guided, marked, sampled]
  have zone : (guided g s).zone = s.zone := by simp [guided, marked, sampled]
  change (guided g s).guide = _ at guide3
  change (guided g s).motion = _ at motion3
  change (guided g s).cue = _ at cue3
  change FaultsKept _ _ (guided g s) at kept3
  have kept := (kept1.trans kept2).trans kept3
  refine ⟨?_, may0.trans (may1.trans (may2.trans (.of_motion motion3))), ?_, ?_, kept.kept _ (by decide), ?_,
    config, zone⟩
  · rw [guide2, guide1] at guide3
    exact ⟨_, _, guide3, speed, rollback⟩
  · exact (kept0.trans kept).mono (by decide)
  · rw [State.faultActive, kept.kept _ (by decide)]
    exact f03
  · rw [cue3, cue2, cue1, cue0]

/-- The steering demand leaves the estimate as the gap test left it. -/
theorem guided_est (g : GuideSample) (s : State) :
    (guided g s).guide.est = (gapTest (marked g s).1).guide.est := by
  rw [guided, steer_guide]

/-- What an arrival without a marker hands on (R8, R19). -/
theorem guided_noMarker {g : GuideSample} (none_ : g.marker = none) (s : State) :
    (marked g s) = (sampled g s, none) ∧
      (guided g s).guide.est =
        { Moved s with
          posState :=
            if s.guide.est.posState.known = true ∧ s.lim.gapLimit < sinceNext s then .lost
            else s.guide.est.posState } := by
  have same : marked g s = (sampled g s, none) := by simp [marked, sampleMarker, none_]
  obtain ⟨guide, -, -, -, -, config⟩ := sampled_spec g s
  obtain ⟨guide2, -⟩ := gapTest_spec (sampled g s)
  have lim : (sampled g s).lim = s.lim := by rw [State.lim, config]; rfl
  refine ⟨same, ?_⟩
  rw [guided_est, same, guide2, guide, lim]
  rfl

end Sys2Proof.Claims

namespace Sys2Proof.Claims

open Sys2Proof.Machine

/-- What may stop the vehicle stops it in the same state as a stop now would. -/
theorem MayStop.stopsTo {s t : State} (h : MayStop s t) : t.mstate.stopsTo = s.mstate.stopsTo := by
  rcases h.mstate with m | m
  · rw [m]
  · rw [m, MotionState.stopsTo_stopsTo]

/-- The error a marker shows in the arrival, from the front after its odometry (R17, R18). -/
def markerEps (s : State) (m : Marker) : Int :=
  signedDist s.P m.pos (wrapPos s.P (((Moved s).front : Int) - s.lim.readerOffset))

theorem sampled_lim (g : GuideSample) (s : State) : (sampled g s).lim = s.lim := by
  obtain ⟨-, -, -, -, -, config⟩ := sampled_spec g s
  rw [State.lim, config]
  rfl

theorem sampled_markerError (g : GuideSample) (s : State) (m : Marker) :
    (sampled g s).markerError m.pos = markerEps s m := by
  obtain ⟨guide, -⟩ := sampled_spec g s
  rw [State.markerError, sampled_lim, State.P, guide]
  rfl

/-- The marker that a sample reads, found in the arrival. -/
theorem sampled_found (g : GuideSample) {s : State} {code : Code} {m : Marker} (mem : m ∈ s.guide.markers)
    (named : m.code = code) (unique : ∀ x ∈ s.guide.markers, x.code = code → x = m) :
    (sampled g s).findMarker code = some m := by
  obtain ⟨guide, -⟩ := sampled_spec g s
  have markers : (sampled g s).guide.markers = s.guide.markers := by rw [guide]; rfl
  exact findMarker_unique (by rwa [markers]) named (by rwa [markers])

/-- The estimate of the arrival with a marker accepted (R17, R18). -/
def MovedAccepted (s : State) (code : Code) (m : Marker) : Estimate :=
  { Moved s with lastMarker := some code }.accept s.P (markerEps s m)

theorem sampled_posState (g : GuideSample) (s : State) :
    (sampled g s).guide.est.posState = s.guide.est.posState := by
  obtain ⟨guide, -⟩ := sampled_spec g s
  rw [guide]
  rfl

/-- What an arrival with an accepted marker hands on (R17, R18). -/
theorem guided_accepts {g : GuideSample} {s : State} {code : Code} {m : Marker} (read : g.marker = some code)
    (found : (sampled g s).findMarker code = some m)
    (accepted : s.guide.est.posState.known = true → (markerEps s m).natAbs ≤ s.lim.captureWindow) :
    (marked g s).2 = some (code, -markerEps s m) ∧ (marked g s).1.motion = (sampled g s).motion ∧
      (guided g s).guide.est = MovedAccepted s code m ∧ (guided g s).motion = (sampled g s).motion ∧
      (guided g s).faultActive .f04 = false ∧ guided g s = steer (marked g s).1 := by
  have eps := sampled_markerError g s m
  obtain ⟨guide0, -⟩ := sampled_spec g s
  have taken : marked g s = handleMarker code (sampled g s) := by rw [marked, read]; rfl
  obtain ⟨found2, guide, motion, -, f04, -⟩ := handleMarker_accepts found (by
    rw [sampled_posState, eps, sampled_lim]
    exact accepted)
  rw [← taken] at found2 guide motion f04
  have est : (marked g s).1.guide.est = MovedAccepted s code m := by
    rw [guide, Accepted, eps, State.P, guide0]
    rfl
  have near : gapTest (marked g s).1 = (marked g s).1 := by
    obtain ⟨-, -, -, -, -, same⟩ := gapTest_spec (marked g s).1
    refine same ?_
    rw [est]
    exact fun far => absurd far.2 (Nat.not_lt_zero _)
  have whole : guided g s = steer (marked g s).1 := by rw [guided, near]
  refine ⟨by rw [found2, eps], motion, by rw [guided_est, near, est], ?_, ?_, whole⟩
  · rw [whole]
    simpa using motion
  · rw [whole]
    have same : (steer (marked g s).1).faultRec .f04 = (marked g s).1.faultRec .f04 :=
      State.faultRec_congr (by simp) _
    rwa [State.faultActive, same]

theorem named_mstate (code : Code) (s : State) : (named code s).mstate = s.mstate := rfl

theorem named_rec (code : Code) (s : State) (c : FaultCode) : (named code s).faultRec c = s.faultRec c := rfl

/-- What an arrival with a marker out of place hands on (R18, R19). -/
theorem guided_mismatch {g : GuideSample} {s : State} {code : Code} {m : Marker} (read : g.marker = some code)
    (found : (sampled g s).findMarker code = some m) (known : s.guide.est.posState.known = true)
    (far : s.lim.captureWindow < (markerEps s m).natAbs) :
    let lost := 2 ≤ s.guide.est.mismatch + 1 ∨ s.lim.gapLimit < sinceNext s
    (guided g s).guide.est =
        { Moved s with
          lastMarker := some code, mismatch := min 2 (s.guide.est.mismatch + 1)
          posState := if lost then .lost else .doubt } ∧
      (guided g s).faultRec .f19 =
        { active := false, latched := true, cls := .note, count := min 255 ((s.faultRec .f19).count + 1)
          detail := .marker code } ∧
      (2 ≤ s.guide.est.mismatch + 1 →
        (guided g s).faultRec .f04 =
          { active := true, latched := true, cls := .stop, count := min 255 ((s.faultRec .f04).count + 1)
            detail := .positionLost .mismatch (some code) }) ∧
      (s.guide.est.mismatch = 0 → s.lim.gapLimit < sinceNext s →
        (guided g s).faultRec .f04 =
          { active := true, latched := true, cls := .stop, count := min 255 ((s.faultRec .f04).count + 1)
            detail := .positionLost .gap (some code) }) ∧
      (lost → (guided g s).mstate = s.mstate.stopsTo) ∧
      (¬ lost → (guided g s).faultRec .f04 = s.faultRec .f04) := by
  intro lost
  obtain ⟨guide0, may0, kept0, -⟩ := sampled_spec g s
  have lim := sampled_lim g s
  have eps := sampled_markerError g s m
  have taken : marked g s = (mismatchMarker code m.pos (markerEps s m) (named code (sampled g s)), none) := by
    rw [marked, read]
    show handleMarker code (sampled g s) = _
    rw [handleMarker_found found, sampled_posState, known, eps, lim, if_pos rfl, if_neg (Nat.not_le.2 far)]
  obtain ⟨guide1, may1, f19, kept1, -, second, first⟩ :=
    mismatchMarker_spec code m.pos (markerEps s m) (named code (sampled g s))
  have mstate0 : (named code (sampled g s)).mstate = (sampled g s).mstate := named_mstate ..
  have recs0 : ∀ c, (named code (sampled g s)).faultRec c = (sampled g s).faultRec c :=
    named_rec code (sampled g s)
  have named_guide : (named code (sampled g s)).guide =
      { sampledGuide g s with est := { Moved s with lastMarker := some code } } := by
    rw [named, setEst_guide, guide0]
    rfl
  have count : (named code (sampled g s)).guide.est.mismatch = s.guide.est.mismatch := by rw [named_guide]; rfl
  have lim1 : (mismatchMarker code m.pos (markerEps s m) (named code (sampled g s))).lim = s.lim := by
    rw [State.lim, (mismatchMarker_frame _ _ _ _).2.1]
    exact lim
  have lostRec : ∀ cause, lostRecord (named code (sampled g s)) cause =
      { active := true, latched := true, cls := .stop, count := min 255 ((s.faultRec .f04).count + 1)
        detail := .positionLost cause (some code) } := by
    intro cause
    rw [lostRecord, recs0, kept0.kept _ (by decide), named_guide]
  rw [count, named_guide] at guide1
  rw [count] at second first
  rw [recs0, kept0.kept _ (by decide)] at f19
  have est := guided_est g s
  have whole : guided g s =
      steer (gapTest (mismatchMarker code m.pos (markerEps s m) (named code (sampled g s)))) := by
    rw [guided, taken]
  rw [taken] at est
  generalize mismatchMarker code m.pos (markerEps s m) (named code (sampled g s)) = u at *
  obtain ⟨guide2, may2, kept2, -, gap, near⟩ := gapTest_spec u
  have recs : ∀ c, (guided g s).faultRec c = (gapTest u).faultRec c := fun c => by
    rw [whole]
    exact State.faultRec_congr (by simp) c
  have mstate : (guided g s).mstate = (gapTest u).mstate := by rw [whole]; simp
  have since : u.guide.est.since = sinceNext s := by rw [guide1]; rfl
  have posState : u.guide.est.posState = if 2 ≤ s.guide.est.mismatch + 1 then .lost else .doubt := by rw [guide1]
  have stops0 := may0.stopsTo
  by_cases twice : 2 ≤ s.guide.est.mismatch + 1
  · have same : gapTest u = u := near (by rw [posState, if_pos twice]; simp [PosState.known])
    obtain ⟨f04, stops⟩ := second twice
    have isLost : lost := .inl twice
    rw [same] at recs mstate est
    refine ⟨?_, by rw [recs, f19], fun _ => by rw [recs, f04, lostRec], fun none_ => absurd twice (by simp [none_]),
      fun _ => by rw [mstate, stops, mstate0, stops0], fun kept => absurd isLost kept⟩
    rw [est, guide1, if_pos twice, if_pos isLost]
  · obtain ⟨f04, motion⟩ := first (Nat.lt_one_iff.1 (Nat.lt_of_succ_lt_succ (Nat.not_le.1 twice)))
    have mstate1 : u.mstate = (sampled g s).mstate := congrArg (fun m => m.record.state) motion
    rw [posState, if_neg twice, since, lim1] at gap near guide2
    rw [recs0, kept0.kept _ (by decide)] at f04
    by_cases gone : s.lim.gapLimit < sinceNext s
    · have beyond : PosState.doubt.known = true ∧ s.lim.gapLimit < sinceNext s := ⟨rfl, gone⟩
      obtain ⟨f04', stops⟩ := gap beyond
      have isLost : lost := .inr gone
      refine ⟨?_, by rw [recs, kept2.kept _ (by decide), f19], fun h => absurd h twice, fun _ _ => ?_,
        fun _ => by rw [mstate, stops, mstate1, stops0], fun kept => absurd isLost kept⟩
      · rw [est, guide2, guide1, if_pos isLost, if_pos beyond]
      · rw [recs, f04', lostRecord, f04, guide1]
    · have notLost : ¬ lost := fun h => h.elim twice gone
      have same : gapTest u = u := near fun both => gone both.2
      rw [same] at recs est
      refine ⟨?_, by rw [recs, f19], fun h => absurd h twice, fun _ h => absurd h gone,
        fun h => absurd h notLost, fun _ => by rw [recs, f04]⟩
      rw [est, guide1, if_neg twice, if_neg notLost]

end Sys2Proof.Claims

namespace Sys2Proof.Claims

open Sys2Proof.Machine

/-! ### The motion unit on a position update, before the speed demand (R13, R30, R36, R38, R60, R63) -/

/-- The still count after the update (R13). -/
def stillNext (s : State) : Nat :=
  if s.guide.est.speed.natAbs < 5 then min 50 (s.motion.still + 1) else 0

theorem updateStill_eq (s : State) :
    updateStill s =
      s.setMotion
        { s.motion with still := stillNext s, standstill := decide (stillNext s = 50) } := rfl

/-- Standstill, creep, stop, station stop and show pause have been worked out. -/
def settled (u : PosUpdate) (s : State) : State :=
  evalPause (arrivalTest (armingTest (stoppedTest (creepTest u (updateStill s)))))

theorem motionUpdate_eq {u : PosUpdate} (moves : u.isSet = false) (s : State) :
    motionUpdate u s = sendDemand (missTest (speedDemand (settled u s))) := by
  have whole : motionUpdate u s =
      if u.isSet = true then s else sendDemand (missTest (speedDemand (settled u s))) := rfl
  rw [whole, if_neg (by simp [moves])]

/-- Whether a stop ends with the update (R60). -/
def stopEnds (s : State) : Bool := decide (s.mstate = .stopping) && decide (stillNext s = 50)

theorem stopEnds_iff {s : State} : stopEnds s = true ↔ s.mstate = .stopping ∧ stillNext s = 50 := by
  simp [stopEnds]

theorem not_stopEnds {s : State} (other : s.mstate ≠ .stopping) : stopEnds s = false := by
  simp [stopEnds, other]

/-- What the working out does, whatever the motion state. -/
structure Settled (s t : State) : Prop where
  speed : t.motion.speed = s.motion.speed
  drive : t.motion.drive = s.motion.drive
  still : t.motion.still = stillNext s
  standstill : t.motion.standstill = decide (stillNext s = 50)
  config : t.config = s.config
  zone : t.zone = s.zone
  cue : t.cue = s.cue
  guide : t.guide =
    if stopEnds s then { s.guide with est := { s.guide.est with rollback := 0 } } else s.guide
  faults : FaultsKept [.f05] s t
  f05 : t.faultRec .f05 =
    if stopEnds s then { s.faultRec .f05 with active := false } else s.faultRec .f05

theorem updateStill_settled {s : State} (goesOn : stopEnds s = false) : Settled s (updateStill s) := by
  rw [updateStill_eq]
  refine ⟨rfl, rfl, rfl, rfl, rfl, rfl, rfl, ?_, ⟨fun _ _ => rfl⟩, ?_⟩
  · rw [goesOn]
    rfl
  · rw [goesOn]
    rfl

/-- A change of the record alone, or of the arming, settles nothing further. -/
theorem Settled.setMotion {s t : State} (h : Settled s t) {m : Motion} (speed : m.speed = t.motion.speed)
    (drive : m.drive = t.motion.drive) (still : m.still = t.motion.still)
    (standstill : m.standstill = t.motion.standstill) : Settled s (t.setMotion m) :=
  ⟨speed.trans h.speed, drive.trans h.drive, still.trans h.still, standstill.trans h.standstill, h.config,
    h.zone, h.cue, h.guide, ⟨h.faults.kept⟩, h.f05⟩

/-- A change to HOLD or RUN settles nothing further. -/
theorem Settled.changeMotion {s t : State} (h : Settled s t) {new : MotionState} (rolls : new.noRollback = false)
    (moves : new.zeroSpeed = false) (resume : Bool) : Settled s (changeMotion new resume t) := by
  have drives := changeMotion_drives rolls resume t
  have motion := changeMotion_motion new resume t
  have recs := fun c => State.faultRec_congr drives.fault c
  generalize Machine.changeMotion new resume t = w at *
  refine ⟨?_, ?_, ?_, ?_, drives.config.trans h.config, drives.zone.trans h.zone, drives.cue.trans h.cue,
    drives.guide.trans h.guide, ⟨fun c out => (recs c).trans (h.faults.kept c out)⟩, (recs _).trans h.f05⟩
  · rw [motion, ← h.speed]
    simp [Motion.enter, moves]
  · rw [motion]
    exact h.drive
  · rw [motion]
    exact h.still
  · rw [motion]
    exact h.standstill

theorem Settled.evalPause {s t : State} (h : Settled s t) : Settled s (evalPause t) := by
  have motion := evalPause_motion t
  obtain ⟨-, config, guide, zone, -, cue, -, fault, -, -⟩ := evalPause_frame t
  generalize Machine.evalPause t = w at *
  refine ⟨?_, ?_, ?_, ?_, config.trans h.config, zone.trans h.zone, cue.trans h.cue, guide.trans h.guide,
    ⟨fun c out => (State.faultRec_congr fault c).trans (h.faults.kept c out)⟩,
    (State.faultRec_congr fault _).trans h.f05⟩
  · rw [motion]
    exact h.speed
  · rw [motion]
    exact h.drive
  · rw [motion]
    exact h.still
  · rw [motion]
    exact h.standstill

theorem Settled.setHost {s t : State} (h : Settled s t) (x : HostLink) : Settled s (t.setHost x) :=
  ⟨h.speed, h.drive, h.still, h.standstill, h.config, h.zone, h.cue, h.guide, ⟨h.faults.kept⟩, h.f05⟩

/-! #### By the motion state -/

/-- The creep distance after the update (R63). -/
def creepNext (u : PosUpdate) (s : State) : Nat := min 5000 (s.motion.record.creepDist + u.movement.natAbs)

/-- The creep goes on with its distance. -/
def crept (u : PosUpdate) (s : State) : State :=
  s.setMotion { s.motion with record := { s.motion.record with creepDist := creepNext u s } }

theorem creepTest_creep {u : PosUpdate} {s : State} (creep : s.mstate = .creep) :
    creepTest u s =
      match u.accepted with
      | some (code, corr) => creepEnd (.found code corr) (changeMotion .hold false (crept u s))
      | none =>
        if creepNext u s = 5000 then
          creepEnd (.limit (creepNext u s)) (changeMotion .hold false (crept u s))
        else crept u s := by
  have target : moveTo .hold (crept u s) = changeMotion .hold false (crept u s) := by
    have still : (crept u s).mstate = .creep := creep
    simp [moveTo, still, resumeAfter]
  rw [← target]
  unfold creepTest
  rw [if_pos creep]
  rfl

theorem creepTest_other {u : PosUpdate} {s : State} (other : s.mstate ≠ .creep) : creepTest u s = s := by
  rw [creepTest, if_neg other]

theorem stoppedTest_other {s : State} (other : s.mstate ≠ .stopping) : stoppedTest s = s := by
  rw [stoppedTest, if_neg fun both => other both.1]

theorem armingTest_other {s : State} (other : s.mstate ≠ .run) : armingTest s = s := by
  rw [armingTest, if_neg fun both => other both.1]

theorem arrivalTest_other {s : State} (other : s.mstate ≠ .run) : arrivalTest s = s := by
  rw [arrivalTest, if_neg fun both => other both.1]

/-- In PARKED, HOLD, STOPPED and ESTOP only standstill and the show pause are worked out. -/
theorem settled_rests (u : PosUpdate) {s : State} (creep : s.mstate ≠ .creep) (stopping : s.mstate ≠ .stopping)
    (run : s.mstate ≠ .run) :
    settled u s = evalPause (updateStill s) ∧ Settled s (settled u s) ∧ (settled u s).mstate = s.mstate := by
  have mstate : (updateStill s).mstate = s.mstate := rfl
  have whole : settled u s = evalPause (updateStill s) := by
    rw [settled, creepTest_other (mstate ▸ creep), stoppedTest_other (mstate ▸ stopping),
      armingTest_other (mstate ▸ run), arrivalTest_other (mstate ▸ run)]
  refine ⟨whole, ?_, ?_⟩
  · rw [whole]
    exact (updateStill_settled (not_stopEnds stopping)).evalPause
  · rw [whole]
    simp

/-- In CREEP the creep's end is tested (R63). -/
theorem settled_creep (u : PosUpdate) {s : State} (creep : s.mstate = .creep) :
    settled u s = evalPause (creepTest u (updateStill s)) ∧ Settled s (settled u s) ∧
      (settled u s).motion.record.creepDist = creepNext u s ∧
      (u.accepted = none ∧ creepNext u s ≠ 5000 → (settled u s).mstate = .creep) ∧
      (¬ (u.accepted = none ∧ creepNext u s ≠ 5000) →
        (settled u s).mstate = .hold ∧ (settled u s).motion.record.resumeRun = false) := by
  have mstate : (updateStill s).mstate = .creep := creep
  have dist : creepNext u (updateStill s) = creepNext u s := rfl
  have test := creepTest_creep (u := u) mstate
  have start : Settled s (crept u (updateStill s)) :=
    (updateStill_settled (not_stopEnds (by simp [creep]))).setMotion rfl rfl rfl rfl
  have held := start.changeMotion (new := .hold) rfl rfl false
  have motion := changeMotion_motion .hold false (crept u (updateStill s))
  have whole : settled u s = evalPause (creepTest u (updateStill s)) := by
    have other : (creepTest u (updateStill s)).mstate = .creep ∨ (creepTest u (updateStill s)).mstate = .hold := by
      rw [test]
      split
      · simp
      · split
        · simp
        · exact .inl creep
    have stopping : (creepTest u (updateStill s)).mstate ≠ .stopping := by rcases other with m | m <;> simp [m]
    have run : (creepTest u (updateStill s)).mstate ≠ .run := by rcases other with m | m <;> simp [m]
    rw [settled, stoppedTest_other stopping, armingTest_other run, arrivalTest_other run]
  rw [whole, test]
  generalize changeMotion .hold false (crept u (updateStill s)) = w at *
  have ended : ∀ o, Settled s (evalPause (creepEnd o w)) ∧
      (evalPause (creepEnd o w)).motion.record.creepDist = creepNext u s ∧
      (evalPause (creepEnd o w)).mstate = .hold ∧
      (evalPause (creepEnd o w)).motion.record.resumeRun = false := by
    refine fun o => ⟨(held.setHost _).evalPause, ?_, ?_, ?_⟩
    · rw [evalPause_motion, show (creepEnd o w).motion = w.motion from rfl, motion]
      rfl
    · rw [State.mstate, evalPause_motion, show (creepEnd o w).motion = w.motion from rfl, motion]
      rfl
    · rw [evalPause_motion, show (creepEnd o w).motion = w.motion from rfl, motion]
      rfl
  cases accepted : u.accepted with
  | some x =>
    obtain ⟨settles, distance, hold, none_⟩ := ended (.found x.1 x.2)
    exact ⟨rfl, settles, distance, fun both => by simp at both, fun _ => ⟨hold, none_⟩⟩
  | none =>
    dsimp only
    rw [dist]
    split
    next far =>
      obtain ⟨settles, distance, hold, none_⟩ := ended (.limit (creepNext u s))
      exact ⟨rfl, settles, distance, fun both => absurd far both.2, fun _ => ⟨hold, none_⟩⟩
    next near =>
      refine ⟨rfl, start.evalPause, ?_, fun _ => ?_, fun both => absurd ⟨rfl, near⟩ both⟩
      · rw [evalPause_motion]
        rfl
      · rw [State.mstate, evalPause_motion]
        exact creep

/-- In STOPPING the end of the stop is tested (R60). -/
theorem settled_stopping (u : PosUpdate) {s : State} (stopping : s.mstate = .stopping) :
    Settled s (settled u s) ∧
      (settled u s).mstate = if stillNext s = 50 then .stopped else .stopping := by
  have mstate : (updateStill s).mstate = .stopping := stopping
  have creep : creepTest u (updateStill s) = updateStill s := creepTest_other (by simp [mstate])
  by_cases ends : stillNext s = 50
  · have stops : stopEnds s = true := stopEnds_iff.2 ⟨stopping, ends⟩
    obtain ⟨resume, h, entered, -⟩ := enterStopped_eq (updateStill s)
    have test : stoppedTest (updateStill s) = enterStopped (updateStill s) := by
      rw [stoppedTest, if_pos ⟨mstate, decide_eq_true ends⟩]
    have motion := changeMotion_motion .stopped resume (updateStill s)
    have guide := changeMotion_guide .stopped resume (updateStill s)
    have cue := changeMotion_cue .stopped resume (updateStill s)
    have recs := fun c => changeMotion_rec .stopped resume c (updateStill s)
    obtain ⟨-, config, zone, -, -⟩ := changeMotion_frame .stopped resume (updateStill s)
    have settles : Settled s (changeMotion .stopped resume (updateStill s)) := by
      generalize changeMotion .stopped resume (updateStill s) = w at *
      refine ⟨by rw [motion]; rfl, by rw [motion]; rfl, by rw [motion]; rfl, by rw [motion]; rfl, config, zone,
        cue, ?_, ⟨fun c out => ?_⟩, ?_⟩
      · rw [guide, stops]
        rfl
      · rw [recs, if_neg fun both => out (by simp [both.2])]
        rfl
      · rw [recs, stops]
        rfl
    have stopped : (changeMotion .stopped resume (updateStill s)).mstate = .stopped := by simp
    rw [settled, creep, test, entered]
    generalize changeMotion .stopped resume (updateStill s) = w at *
    have state : (w.setHost h).mstate = .stopped := stopped
    rw [armingTest_other (by simp [state]), arrivalTest_other (by simp [state]), if_pos ends]
    exact ⟨(settles.setHost h).evalPause, by simp [state]⟩
  · have goesOn : stopEnds s = false := by simp [stopEnds, ends]
    have test : stoppedTest (updateStill s) = updateStill s := by
      rw [stoppedTest, if_neg fun both => ends (of_decide_eq_true both.2)]
    rw [settled, creep, test, armingTest_other (by simp [mstate]), arrivalTest_other (by simp [mstate]),
      if_neg ends]
    exact ⟨(updateStill_settled goesOn).evalPause, by simp [mstate]⟩

/-- The arming of the station stop after an update in RUN (R36). -/
def armedNext (s : State) : Option Half :=
  if s.motion.armed = none ∧ s.inLoadZone = false then some s.guide.est.lap else s.motion.armed

/-- Whether the vehicle arrives with the update in RUN (R38). -/
def arrivesNext (s : State) : Prop :=
  (armedNext s).isSome = true ∧ stillNext s = 50 ∧ inArrivalWindow s.P s.guide.est.front = true

/-- In RUN the station stop is armed, and arrival is tested (R36, R38). -/
theorem settled_run (u : PosUpdate) {s : State} (run : s.mstate = .run) :
    Settled s (settled u s) ∧
      (arrivesNext s → (settled u s).mstate = .hold ∧ (settled u s).motion.armed = none ∧
        (settled u s).motion.record.resumeRun = false) ∧
      (¬ arrivesNext s → (settled u s).mstate = .run ∧ (settled u s).motion.armed = armedNext s) := by
  have mstate : (updateStill s).mstate = .run := run
  have start : Settled s (updateStill s) := updateStill_settled (not_stopEnds (by simp [run]))
  have arming : Settled s (armingTest (updateStill s)) ∧ (armingTest (updateStill s)).mstate = .run ∧
      (armingTest (updateStill s)).motion.armed = armedNext s ∧
      (armingTest (updateStill s)).guide = s.guide := by
    have load : (updateStill s).inLoadZone = s.inLoadZone := rfl
    have armed : (updateStill s).motion.armed = s.motion.armed := rfl
    unfold armingTest armedNext
    rw [mstate, load, armed]
    by_cases arms : s.motion.armed = none ∧ s.inLoadZone = false
    · rw [if_pos ⟨rfl, arms⟩, if_pos arms]
      exact ⟨start.setMotion rfl rfl rfl rfl, run, rfl, rfl⟩
    · rw [if_neg fun all => arms all.2, if_neg arms]
      exact ⟨start, run, rfl, rfl⟩
  obtain ⟨settles, state, armed, guide⟩ := arming
  rw [settled, creepTest_other (by simp [mstate]), stoppedTest_other (by simp [mstate])]
  generalize armingTest (updateStill s) = v at *
  have tested : (v.mstate = .run ∧ v.motion.armed.isSome ∧ v.motion.standstill = true ∧
      inArrivalWindow v.P v.guide.est.front = true) ↔ arrivesNext s := by
    rw [armed, settles.standstill, State.P, guide, state, arrivesNext, decide_eq_true_iff]
    exact ⟨fun all => all.2, fun all => ⟨rfl, all⟩⟩
  unfold arrivalTest
  by_cases arrives : arrivesNext s
  · rw [if_pos (tested.2 arrives)]
    have held := (settles.setMotion (m := { v.motion with armed := none }) rfl rfl rfl rfl).changeMotion
      (new := .hold) rfl rfl false
    have motion := changeMotion_motion .hold false (v.setMotion { v.motion with armed := none })
    generalize changeMotion .hold false (v.setMotion { v.motion with armed := none }) = w at *
    refine ⟨held.evalPause, fun _ => ⟨?_, ?_, ?_⟩, fun not => absurd arrives not⟩
    · rw [State.mstate, evalPause_motion, motion]
      rfl
    · rw [evalPause_motion, motion]
      rfl
    · rw [evalPause_motion, motion]
      rfl
  · rw [if_neg (fun all => arrives (tested.1 all))]
    refine ⟨settles.evalPause, fun h => absurd h arrives, fun _ => ⟨?_, ?_⟩⟩
    · simpa using state
    · rw [evalPause_motion]
      exact armed

end Sys2Proof.Claims

namespace Sys2Proof.Claims

open Sys2Proof.Machine

/-! ### The speed demand and the DEMAND frame (R31 to R41) -/

/-- What the miss count's test leaves alone (R41). -/
theorem missTest_spec (s : State) :
    ((missTest s).mstate = s.mstate ∨ (missTest s).mstate = s.mstate.stopsTo) ∧
      (∃ n r, (missTest s).motion = { s.motion with record := r, drive := { s.motion.drive with miss := n } }) ∧
      (s.motion.drive.miss < 4 → (missTest s).motion.record = s.motion.record) ∧
      (missTest s).guide = s.guide ∧ (missTest s).cue = s.cue ∧ FaultsKept [.f08] s (missTest s) := by
  have same : ∃ n r, s.motion = { s.motion with record := r, drive := { s.motion.drive with miss := n } } :=
    ⟨s.motion.drive.miss, s.motion.record, rfl⟩
  have none_ : (s.mstate = s.mstate ∨ s.mstate = s.mstate.stopsTo) ∧
      (∃ n r, s.motion = { s.motion with record := r, drive := { s.motion.drive with miss := n } }) ∧
      (s.motion.drive.miss < 4 → s.motion.record = s.motion.record) ∧
      s.guide = s.guide ∧ s.cue = s.cue ∧ FaultsKept [.f08] s s :=
    ⟨.inl rfl, same, fun _ => rfl, rfl, rfl, .refl ..⟩
  unfold missTest
  split
  next d _ =>
    split
    · exact none_
    · dsimp only
      let v := s.setMotion { s.motion with drive := { s.motion.drive with miss := bump 5 s.motion.drive.miss } }
      split
      next fifth =>
        have may := raiseFault_mayStop (c := .f08) (by decide) (.sequence d.seq) v
        have stops := raiseFault_onlyStops (c := .f08) (by decide) (.sequence d.seq) v
        have kept := raiseFault_kept (c := .f08) (by decide) (.sequence d.seq) v
        refine ⟨may.mstate, ⟨_, _, may.motion⟩, fun few => ?_, stops.guide, stops.cue, ⟨kept.kept⟩⟩
        exact absurd fifth.1 (by unfold bump; omega)
      next => exact ⟨.inl rfl, ⟨_, _, rfl⟩, fun _ => rfl, rfl, rfl, ⟨fun _ _ => rfl⟩⟩
  next => exact none_

theorem stopsTo_enable (m : MotionState) : m.stopsTo.enable = m.enable := by cases m <;> rfl

theorem stopsTo_zeroSpeed (m : MotionState) : m.stopsTo.zeroSpeed = m.zeroSpeed := by cases m <;> rfl

/-- The speed fields after an update (R30 to R37). -/
def speedNext (s : State) : SpeedRecord :=
  if s.mstate.zeroSpeed then { s.motion.speed with demand := 0 }
  else
    let best := leastTerm (s.segmentCap, Setter.segmentCap) s.speedTerms
    let v := stepSpeed s.motion.speed.demand best.1 s.lim.accelStep s.downStep
    { demand := min v s.segmentCap, target := best.1, holdDist := s.holdDistNow.map (·.1), setter := best.2 }

theorem speedDemand_eq (s : State) : speedDemand s = s.setMotion { s.motion with speed := speedNext s } := by
  unfold speedDemand speedNext
  split <;> rfl

/-- What the motion unit makes of a position update (R30). -/
structure Driven (u : PosUpdate) (s t : State) : Prop where
  mstate : t.mstate = (settled u s).mstate ∨ t.mstate = (settled u s).mstate.stopsTo
  record : s.motion.drive.miss < 4 → t.motion.record = (settled u s).motion.record
  speed : t.motion.speed = speedNext (settled u s)
  still : t.motion.still = stillNext s
  standstill : t.motion.standstill = decide (stillNext s = 50)
  armed : t.motion.armed = (settled u s).motion.armed
  seq : t.motion.drive.seq = s.motion.drive.seq + 1
  last : t.motion.drive.last =
    some { seq := s.motion.drive.seq, delta := s.guide.steer.delta, enable := (settled u s).mstate.enable
           answered := false }
  frame : t.motion.drive.frame =
    some (demandBytes s.motion.drive.seq (speedNext (settled u s)).demand s.guide.steer.delta
      (settled u s).mstate.enable)
  config : t.config = s.config
  zone : t.zone = s.zone
  cue : t.cue = s.cue
  guide : t.guide =
    if stopEnds s then { s.guide with est := { s.guide.est with rollback := 0 } } else s.guide
  faults : FaultsKept [.f05, .f08] s t
  f05 : t.faultRec .f05 =
    if stopEnds s then { s.faultRec .f05 with active := false } else s.faultRec .f05

/-- The working out settles, whatever the motion state. -/
theorem settled_settles (u : PosUpdate) (s : State) : Settled s (settled u s) := by
  by_cases creep : s.mstate = .creep
  · exact (settled_creep u creep).2.1
  · by_cases stopping : s.mstate = .stopping
    · exact (settled_stopping u stopping).1
    · by_cases run : s.mstate = .run
      · exact (settled_run u run).1
      · exact (settled_rests u creep stopping run).2.1

theorem motionUpdate_driven {u : PosUpdate} (moves : u.isSet = false) (s : State) :
    Driven u s (motionUpdate u s) := by
  have settles := settled_settles u s
  rw [motionUpdate_eq moves, speedDemand_eq]
  generalize settled_eq : settled u s = d at *
  let v := d.setMotion { d.motion with speed := speedNext d }
  obtain ⟨mstate, ⟨n, r, motion⟩, record, guide, cue, kept⟩ := missTest_spec v
  obtain ⟨-, config, zone, -, -⟩ := missTest_frame v
  change Driven u s (sendDemand (missTest v))
  generalize missTest v = w at *
  have vstate : v.mstate = d.mstate := rfl
  have enable : w.mstate.enable = d.mstate.enable := by
    rcases mstate with m | m
    · rw [m, vstate]
    · rw [m, stopsTo_enable, vstate]
  have zero : w.mstate.zeroSpeed = d.mstate.zeroSpeed := by
    rcases mstate with m | m
    · rw [m, vstate]
    · rw [m, stopsTo_zeroSpeed, vstate]
  have sent : sendDemand w = w.setMotion
      { w.motion with
        drive :=
          { w.motion.drive with
            seq := w.motion.drive.seq + 1
            last := some { seq := w.motion.drive.seq, delta := w.guide.steer.delta, enable := w.mstate.enable
                           answered := false }
            frame := some (demandBytes w.motion.drive.seq
              (if w.mstate.zeroSpeed then 0 else w.motion.speed.demand) w.guide.steer.delta w.mstate.enable) } } := rfl
  have seq : w.motion.drive.seq = s.motion.drive.seq := by
    rw [motion, ← settles.drive]
    rfl
  have delta : w.guide.steer.delta = s.guide.steer.delta := by
    rw [guide, show v.guide = d.guide from rfl, settles.guide]
    split <;> rfl
  have demand : (if w.mstate.zeroSpeed then 0 else w.motion.speed.demand) = (speedNext d).demand := by
    rw [zero, motion]
    cases slow : d.mstate.zeroSpeed with
    | true => simp [speedNext, slow]
    | false => rfl
  rw [sent, enable, demand, seq, delta]
  refine ⟨?_, fun few => ?_, ?_, ?_, ?_, ?_, rfl, ?_, ?_, config.trans settles.config, zone.trans settles.zone,
    cue.trans settles.cue, guide.trans settles.guide, ?_, ?_⟩
  · rw [settled_eq]
    exact mstate
  · rw [settled_eq]
    exact record (settles.drive ▸ few)
  · rw [settled_eq]
    exact congrArg Motion.speed motion
  · exact (congrArg Motion.still motion).trans settles.still
  · exact (congrArg Motion.standstill motion).trans settles.standstill
  · rw [settled_eq]
    exact (congrArg Motion.armed motion).trans rfl
  · rw [settled_eq]
    rfl
  · rw [settled_eq]
    rfl
  · exact ⟨fun c out => (kept.kept c fun mem => out (by simp_all)).trans
      (settles.faults.kept c fun mem => out (by simp_all))⟩
  · exact (kept.kept _ (by decide)).trans settles.f05

end Sys2Proof.Claims

namespace Sys2Proof.Claims

open Sys2Proof.Machine

/-! ### What the zone unit and the cue unit do to the others on an update (R8) -/

/-- A vehicle that will not go on by itself does not begin to. -/
structure StaysOut (s t : State) : Prop where
  out : s.mstate ≠ .run → s.motion.record.resumeRun = false →
    t.mstate ≠ .run ∧ t.motion.record.resumeRun = false

theorem StaysOut.of_motion {s t : State} (h : t.motion = s.motion) : StaysOut s t := by
  refine ⟨fun run resume => ?_⟩
  rw [State.mstate, h]
  exact ⟨run, resume⟩

theorem StaysOut.trans {s t u : State} (h : StaysOut s t) (k : StaysOut t u) : StaysOut s u := by
  refine ⟨fun run resume => ?_⟩
  obtain ⟨run', resume'⟩ := h.out run resume
  exact k.out run' resume'

theorem stopCause_staysOut (cause : StopCause) (s : State) : StaysOut s (stopCause cause s) := by
  have state (x : State) : x.mstate = x.motion.record.state := rfl
  refine ⟨fun run resume => ?_⟩
  unfold stopCause takeStop
  split
  next m =>
    simp [m, moveTo, state (changeMotion _ _ _), changeMotion_motion, Motion.enter, setStopRecord, resumeAfter,
      resume]
  next m => exact absurd m run
  next m =>
    simp [m, moveTo, state (changeMotion _ _ _), changeMotion_motion, Motion.enter, setStopRecord, resumeAfter,
      creepEnd]
  next => exact ⟨run, resume⟩
  next => exact ⟨run, resume⟩
  next => exact ⟨run, resume⟩
  next => exact ⟨run, resume⟩

theorem raiseAs_staysOut {c : FaultCode} (hc : c ≠ .f01) (k : FaultClass) (d : FaultDetail) (s : State) :
    StaysOut s (raiseAs c k d s) := by
  by_cases stop : k = .stop
  · rw [stop]
    refine ⟨fun run resume => ?_⟩
    obtain ⟨run', resume'⟩ :=
      (stopCause_staysOut (.fault c) (recordRaise c .stop d s)).out (by simpa using run) (by simpa using resume)
    have motion : (raiseAs c .stop d s).motion = (stopCause (.fault c) (recordRaise c .stop d s)).motion := by
      simp [raiseAs, actByClass, if_neg hc]
    rw [State.mstate, motion]
    exact ⟨run', resume'⟩
  · rw [raiseAs_quiet stop]
    exact .of_motion (by simp)

/-- What a unit that is not the motion unit does on an update: it may stop the vehicle, and says why. -/
structure Beside (u : PosUpdate) (s t : State) : Prop where
  may : MayStop s t
  guide : t.guide = s.guide
  config : t.config = s.config
  faults : FaultsKept [.f09, .f10] s t
  unknown : u.after.known = false → t.motion = s.motion
  why : t.mstate = s.mstate ∨ (t.faultRec .f09).latched = true ∨
    (t.faultRec .f10).latched = true ∧ (s.mstate = .run ∨ s.mstate = .creep ∨ s.mstate = .stopping)
  out : StaysOut s t
  holds : s.mstate = .hold → u.before.known = false → t.motion = s.motion

theorem Beside.of_quiet {u : PosUpdate} {s t : State} (guide : t.guide = s.guide) (config : t.config = s.config)
    (motion : t.motion = s.motion) (fault : t.fault = s.fault) : Beside u s t :=
  ⟨.of_motion motion, guide, config, .of_fault _ fault, fun _ => motion,
    .inl (congrArg (fun m => m.record.state) motion), .of_motion motion, fun _ _ => motion⟩

theorem cueUpdate_beside (u : PosUpdate) (s : State) : Beside u s (cueUpdate u s) :=
  .of_quiet (by simp) (by simp) (by simp) (by simp)

/-- The test of F10 (R91). -/
theorem testF10_acts (d : FaultDetail) (s : State) :
    MayStop s (testF10 d s) ∧ FaultsKept [.f10] s (testF10 d s) ∧ StaysOut s (testF10 d s) ∧
      ((testF10 d s).mstate = s.mstate ∨ ((testF10 d s).faultRec .f10).latched = true ∧
        (s.mstate = .run ∨ s.mstate = .creep ∨ s.mstate = .stopping)) := by
  refine ⟨.of_stopsOnly (testF10_stopsOnly d s), ⟨fun c out => testF10_rec_other (by simpa using out) d s⟩, ?_⟩
  unfold testF10
  split
  · split
    · exact ⟨.of_motion rfl, .inl rfl⟩
    · refine ⟨raiseAs_staysOut (by decide) .., ?_⟩
      by_cases stop : s.f10Class = .stop
      · refine .inr ⟨?_, ?_⟩
        · rw [stop]
          simp [raiseAs, actByClass, endMomentary_rec, stopCause_rec, FaultRecord.raised, FaultCode.momentary]
        · revert stop
          unfold State.f10Class
          split <;> simp_all
      · exact .inl (by rw [raiseAs_quiet stop]; simp)
  · exact ⟨.of_motion (by simp), .inl (by simp)⟩

/-- The entries as the claims and releases of an update leave them (R71, R79). -/
def claimed (u : PosUpdate) (s : State) : State :=
  if (sortTable s).claimsNow u then claimTest (releaseTest (sortTable s)) else sortTable s

theorem zoneUpdate_eq (u : PosUpdate) (s : State) :
    zoneUpdate u s = violationTest u (recomputeHold (claimed u s)) := rfl

/-- The releases of an update, before F10 is tested (R79). -/
def released (s : State) : State := (s.zone.table.map (·.zone)).foldl (fun st z => releaseOne z st) s

theorem released_frame (s : State) :
    (released s).guide = s.guide ∧ (released s).motion = s.motion ∧ (released s).config = s.config ∧
      (released s).fault = s.fault ∧ (released s).cue = s.cue := by simp [released]

theorem claimed_acts (u : PosUpdate) (s : State) :
    MayStop s (claimed u s) ∧ FaultsKept [.f10] s (claimed u s) ∧ StaysOut s (claimed u s) ∧
      (claimed u s).guide = s.guide ∧
      (u.after.known = false → (claimed u s).motion = s.motion) ∧
      (s.mstate = .hold → (claimed u s).motion = s.motion) ∧
      ((claimed u s).mstate = s.mstate ∨ ((claimed u s).faultRec .f10).latched = true ∧
        (s.mstate = .run ∨ s.mstate = .creep ∨ s.mstate = .stopping)) := by
  unfold claimed
  split
  next claims =>
    have released_eq : releaseTest (sortTable s) = testF10 .link (released (sortTable s)) := rfl
    obtain ⟨guide, motion, -, fault, -⟩ := released_frame (sortTable s)
    rw [released_eq]
    generalize released (sortTable s) = a at *
    have mstate : a.mstate = s.mstate := congrArg (fun m => m.record.state) (motion.trans (by simp))
    obtain ⟨may, kept, out, why⟩ := testF10_acts .link a
    have guide' := (testF10_stopsOnly .link a).2.2.1
    have fault0 : FaultsKept [] s a := .of_fault _ (fault.trans (by simp))
    have may' : MayStop s (testF10 .link a) := (MayStop.of_motion (motion.trans (by simp))).trans may
    have out' : StaysOut s (testF10 .link a) := (StaysOut.of_motion (motion.trans (by simp))).trans out
    have kept' := fault0.trans kept
    have quiet : s.mstate = .hold → (testF10 .link a).motion = s.motion := fun hold => by
      obtain ⟨-, same, -⟩ := testF10_quiet (s := a) (by rw [State.f10Class, mstate, hold]) .link
      exact (same.trans motion).trans (by simp)
    rw [mstate] at why
    generalize testF10 .link a = b at *
    have recs := fun c => State.faultRec_congr (s := claimTest b) (t := b) (by simp) c
    refine ⟨may'.trans (.of_motion (by simp)), ⟨fun c out => (recs c).trans (kept'.kept c out)⟩,
      out'.trans (.of_motion (by simp)), ?_, fun unknown => ?_, fun hold => ?_, ?_⟩
    · simp [guide', guide]
    · simp [State.claimsNow, unknown] at claims
    · simp [quiet hold]
    · rw [recs]
      simpa using why
  next =>
    exact ⟨.of_motion (by simp), .of_fault _ (by simp), .of_motion (by simp), by simp, fun _ => by simp,
      fun _ => by simp, .inl (by simp)⟩

/-- The reports of a zone violation (R84). -/
def violationsTold (zs : List Nat) (s : State) : State :=
  zs.foldl (fun st x => reportZone (.violation x) st) s

theorem violationTest_eq (u : PosUpdate) (s : State) :
    violationTest u s =
      if u.crosses then
        match s.violated u with
        | [] => s
        | z :: zs => raiseFault .f09 (.zone z) (violationsTold (z :: zs) s)
      else s := rfl

theorem violationsTold_frame (zs : List Nat) (s : State) :
    (violationsTold zs s).guide = s.guide ∧ (violationsTold zs s).motion = s.motion ∧
      (violationsTold zs s).fault = s.fault ∧ (violationsTold zs s).cue = s.cue ∧
      (violationsTold zs s).zone = s.zone ∧ (violationsTold zs s).config = s.config := by simp [violationsTold]

theorem violationTest_acts (u : PosUpdate) (s : State) :
    MayStop s (violationTest u s) ∧ FaultsKept [.f09] s (violationTest u s) ∧ StaysOut s (violationTest u s) ∧
      (violationTest u s).guide = s.guide ∧
      ((violationTest u s).mstate = s.mstate ∨ ((violationTest u s).faultRec .f09).latched = true) := by
  have same : MayStop s s ∧ FaultsKept [.f09] s s ∧ StaysOut s s ∧ s.guide = s.guide ∧
      (s.mstate = s.mstate ∨ (s.faultRec .f09).latched = true) :=
    ⟨.refl s, .refl .., .of_motion rfl, rfl, .inl rfl⟩
  rw [violationTest_eq]
  split
  · split
    · exact same
    next z zs _ =>
      obtain ⟨guide, motion, fault, -⟩ := violationsTold_frame (z :: zs) s
      generalize violationsTold (z :: zs) s = a at *
      refine ⟨(MayStop.of_motion motion).trans (raiseFault_mayStop (by decide) ..),
        ((FaultsKept.of_fault [] fault).trans (raiseFault_kept (by decide) ..)).mono (by decide),
        (StaysOut.of_motion motion).trans (raiseAs_staysOut (by decide) ..),
        (raiseFault_guide (by decide) ..).trans guide, .inr ?_⟩
      rw [raiseFault_rec (by decide)]
      rfl
  · exact same

theorem zoneUpdate_beside (u : PosUpdate) (s : State) : Beside u s (zoneUpdate u s) := by
  obtain ⟨may, kept, out, guide, unknown, holds, why⟩ := claimed_acts u s
  have config : (zoneUpdate u s).config = s.config := by simp
  have crosses : u.crosses = false → zoneUpdate u s = recomputeHold (claimed u s) := by
    intro none_
    rw [zoneUpdate_eq, violationTest_eq, if_neg (by simp [none_])]
  have hold : (recomputeHold (claimed u s)).motion = (claimed u s).motion := rfl
  obtain ⟨may', kept', out', guide', why'⟩ := violationTest_acts u (recomputeHold (claimed u s))
  rw [← zoneUpdate_eq] at may' kept' out' guide' why'
  have recs : ∀ c, (recomputeHold (claimed u s)).faultRec c = (claimed u s).faultRec c := fun _ => rfl
  have mstate : (recomputeHold (claimed u s)).mstate = (claimed u s).mstate := rfl
  refine ⟨may.trans ((MayStop.of_motion hold).trans may'), guide'.trans guide, config, ⟨fun c out => ?_⟩,
    fun none_ => ?_, ?_, out.trans ((StaysOut.of_motion hold).trans out'), fun still none_ => ?_⟩
  · rw [kept'.kept c fun mem => out (by simp_all), recs, kept.kept c fun mem => out (by simp_all)]
  · rw [crosses (by simp [PosUpdate.crosses, none_]), hold, unknown none_]
  · rcases why' with same | f09
    · rw [same, mstate, kept'.kept .f10 (by decide), recs]
      exact why.imp id .inr
    · exact .inr (.inl f09)
  · rw [crosses (by simp [PosUpdate.crosses, none_]), hold, holds still]

end Sys2Proof.Claims

namespace Sys2Proof.Claims

open Sys2Proof.Machine

/-! ### The order of the units (R8, log 5) -/

/-- Only the long queue of the zone unit may differ. -/
structure OnlyLong (s t : State) : Prop where
  zone : t.zone = { s.zone with long := t.zone.long }

theorem OnlyLong.of_eq {s t : State} (h : t.zone = s.zone) : OnlyLong s t := ⟨by rw [h]⟩

theorem OnlyLong.trans {s t u : State} (h : OnlyLong s t) (k : OnlyLong t u) : OnlyLong s u :=
  ⟨by rw [k.zone, h.zone]⟩

theorem putScene_onlyLong (f : SceneFrame) (s : State) : OnlyLong s (putScene f s) := by
  unfold putScene
  split
  · exact ⟨rfl⟩
  · exact .of_eq (by simp)

theorem fireScene_onlyLong (id : Nat) (late : Bool) (controller number : Nat) (ack : Bool) (s : State) :
    OnlyLong s (fireScene id late controller number ack s) := by
  unfold fireScene
  dsimp only
  refine .trans (.of_eq ?_) (putScene_onlyLong ..)
  split
  · split <;> simp [takeSceneTag]
  · rfl

theorem fireCue_onlyLong (id : Nat) (late : Bool) (k : CueKind) (s : State) :
    OnlyLong s (fireCue id late k s) := by
  unfold fireCue
  cases k with
  | scene controller number ack => exact fireScene_onlyLong ..
  | voiceStart v clip gain routes hold loop =>
    dsimp only [cueVoiceStart]
    split
    · split <;> exact .of_eq (by simp)
    · exact .of_eq rfl
  | voiceStop v fade =>
    dsimp only
    split <;> exact .of_eq (by simp)
  | voiceGain v target ramp =>
    dsimp only
    split <;> exact .of_eq (by simp)
  | output o op time =>
    dsimp only
    split <;> exact .of_eq (by simp)
  | flag i v =>
    dsimp only
    split <;> exact .of_eq (by simp)

theorem takeCue_onlyLong (i : Nat) (c : Cue) (front : Nat) (s : State) :
    OnlyLong s (takeCue i c front s) := by
  unfold takeCue
  dsimp only
  split
  · refine .trans (.of_eq ?_) (fireCue_onlyLong ..)
    split <;> simp
  · refine .of_eq ?_
    split <;> simp

theorem takeCues_onlyLong (n front : Nat) (s : State) : OnlyLong s (takeCues n front s) := by
  induction n generalizing s with
  | zero => exact .of_eq rfl
  | succ n ih =>
    rw [takeCues]
    split
    · exact .of_eq rfl
    · split
      · exact (takeCue_onlyLong ..).trans (ih _)
      · exact .of_eq rfl

/-- The cue unit with the lap of the update checked (R123). -/
def lapChecked (u : PosUpdate) (s : State) : State :=
  if 0 < s.lapDiff u.lapAfter then newLap u.lapAfter s else s

theorem cueUpdate_eq (u : PosUpdate) (s : State) :
    cueUpdate u s =
      if s.isReady = false then s
      else if s.lapDiff u.lapAfter < 0 then s
      else
        match u.placing with
        | some cause => placeCues cause u.frontAfter (lapChecked u s)
        | none =>
          if (lapChecked u s).cueTested u then
            takeCues (lapChecked u s).cue.cues.length u.frontAfter (lapChecked u s)
          else lapChecked u s := rfl

theorem lapChecked_onlyLong (u : PosUpdate) (s : State) : OnlyLong s (lapChecked u s) := by
  unfold lapChecked
  split <;> exact .of_eq (by simp)

theorem cueUpdate_onlyLong (u : PosUpdate) (s : State) : OnlyLong s (cueUpdate u s) := by
  have lap := lapChecked_onlyLong u s
  rw [cueUpdate_eq]
  split
  · exact .of_eq rfl
  · split
    · exact .of_eq rfl
    · split
      · exact lap.trans (.of_eq (by simp))
      · split
        · exact lap.trans (takeCues_onlyLong ..)
        · exact lap

/-- The units that the others read are as they were. -/
structure Quiet (s t : State) : Prop where
  guide : t.guide = s.guide
  config : t.config = s.config
  motion : t.motion = s.motion
  fault : t.fault = s.fault

theorem Quiet.refl (s : State) : Quiet s s := ⟨rfl, rfl, rfl, rfl⟩

theorem Quiet.mstate {s t : State} (h : Quiet s t) : t.mstate = s.mstate :=
  congrArg (fun m => m.record.state) h.motion

theorem cueUpdate_quiet (u : PosUpdate) (s : State) : Quiet s (cueUpdate u s) :=
  ⟨by simp, by simp, by simp, by simp⟩

theorem Beside.refl (u : PosUpdate) (s : State) : Beside u s s := .of_quiet rfl rfl rfl rfl

theorem Beside.after {u : PosUpdate} {r s t : State} (q : Quiet r s) (h : Beside u s t) : Beside u r t := by
  refine ⟨(MayStop.of_motion q.motion).trans h.may, h.guide.trans q.guide, h.config.trans q.config,
    ⟨fun c out => (h.faults.kept c out).trans (State.faultRec_congr q.fault c)⟩,
    fun n => (h.unknown n).trans q.motion, ?_, (StaysOut.of_motion q.motion).trans h.out,
    fun hold none_ => (h.holds (q.mstate.trans hold) none_).trans q.motion⟩
  rw [← q.mstate]
  exact h.why

theorem Beside.then {u : PosUpdate} {s t v : State} (h : Beside u s t) (q : Quiet t v) : Beside u s v := by
  refine ⟨h.may.trans (.of_motion q.motion), q.guide.trans h.guide, q.config.trans h.config,
    ⟨fun c out => (State.faultRec_congr q.fault c).trans (h.faults.kept c out)⟩,
    fun n => q.motion.trans (h.unknown n), ?_, h.out.trans (.of_motion q.motion),
    fun hold none_ => q.motion.trans (h.holds hold none_)⟩
  rw [q.mstate, State.faultRec_congr q.fault, State.faultRec_congr q.fault]
  exact h.why

/-- The three units on an update, in any order: what comes before the motion unit and what comes after. -/
structure Handed (order : UnitOrder) (u : PosUpdate) (s t : State) : Prop where
  parts : ∃ a, Beside u s a ∧ Beside u (motionUpdate u a) t ∧
    (¬ ZoneFirst order → Quiet s a ∧ OnlyLong s a ∧ (a = s ∨ a = cueUpdate u s))

theorem handOn_handed (order : UnitOrder) (u : PosUpdate) (s : State) :
    Handed order u s (handOn order u s) := by
  refine ⟨?_⟩
  unfold handOn
  cases order with
  | motionZoneCue =>
    exact ⟨s, .refl u s, (zoneUpdate_beside u _).then (cueUpdate_quiet u _),
      fun _ => ⟨.refl s, .of_eq rfl, .inl rfl⟩⟩
  | motionCueZone =>
    exact ⟨s, .refl u s, (zoneUpdate_beside u _).after (cueUpdate_quiet u _),
      fun _ => ⟨.refl s, .of_eq rfl, .inl rfl⟩⟩
  | zoneMotionCue =>
    exact ⟨zoneUpdate u s, zoneUpdate_beside u s, cueUpdate_beside u _, fun h => absurd (.inl rfl) h⟩
  | zoneCueMotion =>
    exact ⟨cueUpdate u (zoneUpdate u s), (zoneUpdate_beside u s).then (cueUpdate_quiet u _), .refl u _,
      fun h => absurd (.inr (.inl rfl)) h⟩
  | cueMotionZone =>
    exact ⟨cueUpdate u s, cueUpdate_beside u s, zoneUpdate_beside u _,
      fun _ => ⟨cueUpdate_quiet u s, cueUpdate_onlyLong u s, .inr rfl⟩⟩
  | cueZoneMotion =>
    exact ⟨zoneUpdate u (cueUpdate u s), (zoneUpdate_beside u _).after (cueUpdate_quiet u s), .refl u _,
      fun h => absurd (.inr (.inr rfl)) h⟩

/-- The guidance unit after all units have acted: the rollback distance is 0 where a stop has ended. -/
structure HandedOn (s t : State) : Prop where
  guide : t.guide = s.guide ∨ t.guide = { s.guide with est := { s.guide.est with rollback := 0 } }
  faults : FaultsKept [.f05, .f08, .f09, .f10] s t
  config : t.config = s.config

theorem handOn_keeps (order : UnitOrder) {u : PosUpdate} (moves : u.isSet = false) (s : State) :
    HandedOn s (handOn order u s) := by
  obtain ⟨a, before, after, -⟩ := (handOn_handed order u s).parts
  have driven := motionUpdate_driven moves a
  generalize motionUpdate u a = b at *
  refine ⟨?_, ((before.faults.trans driven.faults).trans after.faults).mono (by decide), ?_⟩
  · rw [after.guide, driven.guide, before.guide]
    split
    · exact .inr rfl
    · exact .inl rfl
  · rw [after.config, driven.config, before.config]

end Sys2Proof.Claims

namespace Sys2Proof.Claims

open Sys2Proof.Machine

/-! ### The estimate and the steering after a guide sample (R8 to R28) -/

theorem markerEps_eq (s : State) (m : Marker) :
    markerEps s m =
      (let P : Int := lapLength s.guide.path
       let acc : Int := (s.guide.est.front : Int) * 1024 + s.guide.est.frac + s.guide.odo * s.lim.odoK
       let front : Nat := (acc / 1024 % P).toNat
       let reader : Nat := (((front : Int) - s.lim.readerOffset) % P).toNat
       let d : Int := ((reader : Int) - m.pos) % P
       if d ≥ P / 2 then d - P else d) := rfl

/-- A guide sample taken while READY, from the guidance unit on. -/
theorem guideSample_handed {s : State} (ready : s.config.record.state = .ready) (g : GuideSample)
    (order : UnitOrder) :
    ∃ t, exec (.guideSample g order) s = .next t ∧ t = handOn order (update g s) (guided g s) ∧
      HandedOn (guided g s) t :=
  ⟨_, exec_guideSample ready g order, rfl, handOn_keeps order rfl _⟩

theorem guided_frame (g : GuideSample) (s : State) :
    (guided g s).pending = s.pending ∧ (guided g s).clip.mem = s.clip.mem ∧
      (guided g s).zone = s.zone ∧ (guided g s).host.port = s.host.port := by
  simp [guided, marked, sampled]

/-- The estimate after all units have acted, but for the rollback distance. -/
theorem HandedOn.est {s t : State} (h : HandedOn s t) : ∃ r, t.guide.est = { s.guide.est with rollback := r } := by
  rcases h.guide with same | zero
  · exact ⟨s.guide.est.rollback, by rw [same]⟩
  · exact ⟨0, by rw [zero]⟩

/-- The guidance unit after all units have acted, but for the estimate. -/
theorem HandedOn.guide_but_est {s t : State} (h : HandedOn s t) : t.guide = { s.guide with est := t.guide.est } := by
  rcases h.guide with same | zero
  · rw [same]
  · rw [zero]

/-- A sample that is not taken while READY gives the reading only (R8). -/
theorem exec_guideSample_unready {s : State} (unready : s.config.record.state ≠ .ready) (g : GuideSample)
    (order : UnitOrder) : exec (.guideSample g order) s = .next (takeReading g (readOdometer s)) := by
  show execGuideSample g order s = _
  rw [execGuideSample, if_neg (by simpa [State.isReady] using unready)]

/-- The offset follows a strong sample (R14). -/
theorem take_offset (r : GuideReading) (g : GuideSample) (threshold : Nat) :
    (r.take g threshold).e =
        (if threshold ≤ g.strength.toNat then max (-250) (min 250 g.offset) else r.e) ∧
      (r.take g threshold).ePrev = r.e := by
  unfold GuideReading.take
  dsimp only
  split <;> exact ⟨rfl, rfl⟩

/-- Settles O35: the guidance unit's steps by name, and what the other units leave of the estimate. -/
theorem guideSampleMovesEstimate : Obligations.GuideSampleMovesEstimate := by
  refine ⟨fun s g order ready => ?_, fun s g order unready => ?_⟩
  · obtain ⟨t, step, whole, handed⟩ := guideSample_handed ready g order
    obtain ⟨pending, mem, -, -⟩ := guided_frame g s
    obtain ⟨pending', -, -, mem'⟩ := handOn_frame order (update g s) (guided g s)
    obtain ⟨⟨e, x, guide, speed, -⟩, -, faults, f03, -, -, config, -⟩ := guided_spec g s
    obtain ⟨r, est⟩ := handed.est
    have rest := handed.guide_but_est
    dsimp only
    refine ⟨t, step, ?_, handed.config.trans config, ?_, ?_, ?_, ?_, fun noMarker => ?_, ?_⟩
    · rw [whole, pending', pending]
    · rw [whole, mem', mem]
    · rw [rest, guide]
      rfl
    · rw [State.faultActive, handed.faults.kept _ (by decide)]
      exact f03
    · rw [est, guide]
      exact speed
    · obtain ⟨-, after⟩ := guided_noMarker noMarker s
      rw [est, after]
      exact ⟨rfl, rfl, rfl, rfl, rfl⟩
    · intro code m read mem named unique known
      rw [← markerEps_eq s m]
      intro near
      obtain ⟨-, -, after, -, f04, -⟩ :=
        guided_accepts read (sampled_found g mem named unique) (fun _ => near)
      rw [est, after]
      refine ⟨rfl, rfl, rfl, rfl, rfl, rfl, rfl, rfl, ?_⟩
      rw [State.faultActive, handed.faults.kept _ (by decide)]
      exact f04
  · have guide := takeReading_guide g (readOdometer s)
    obtain ⟨-, -, cue⟩ := takeReading_mayStop g (readOdometer s)
    refine ⟨_, exec_guideSample_unready unready g order, ?_, ?_, ?_⟩
    · refine State.ext_fields ?_ ?_ ?_ rfl ?_ rfl cue ?_ rfl rfl rfl
      · simp [readOdometer]
      · simp [readOdometer]
      · rw [guide]
        rfl
      · simp [readOdometer]
      · simp [readOdometer]
    · rw [guide]
      exact (take_offset ..).1
    · rw [guide]
      exact (take_offset ..).2

end Sys2Proof.Claims

namespace Sys2Proof.Claims

open Sys2Proof.Machine

/-! ### Motion after all units have acted (R8, R13, R60) -/

/-- The still count reads what a unit beside the motion unit leaves alone (R13). -/
theorem Beside.stillNext {u : PosUpdate} {s t : State} (h : Beside u s t) : stillNext t = stillNext s := by
  rw [Claims.stillNext, Claims.stillNext, h.guide, h.may.motion]

theorem Beside.mstate_stopped {u : PosUpdate} {s t : State} (h : Beside u s t)
    (stops : s.mstate.stopsTo = s.mstate) : t.mstate = s.mstate := by
  rcases h.may.mstate with m | m
  · exact m
  · rw [m, stops]

/-- Every update moves the still count on (R13). -/
theorem handOn_still (order : UnitOrder) {u : PosUpdate} (moves : u.isSet = false) (s : State) :
    (handOn order u s).motion.still = stillNext s ∧
      (handOn order u s).motion.standstill = decide (stillNext s = 50) := by
  obtain ⟨a, before, after, -⟩ := (handOn_handed order u s).parts
  have driven := motionUpdate_driven moves a
  rw [← before.stillNext, after.may.motion]
  exact ⟨driven.still, driven.standstill⟩

/-- A stop goes on, or ends at standstill (R60). -/
theorem handOn_stopping (order : UnitOrder) {u : PosUpdate} (moves : u.isSet = false) {s : State}
    (stopping : s.mstate = .stopping) :
    (handOn order u s).mstate = if stillNext s = 50 then .stopped else .stopping := by
  obtain ⟨a, before, after, -⟩ := (handOn_handed order u s).parts
  have driven := motionUpdate_driven moves a
  have start : a.mstate = .stopping := (before.mstate_stopped (by rw [stopping]; rfl)).trans stopping
  have drives : (motionUpdate u a).mstate = if stillNext s = 50 then .stopped else .stopping := by
    obtain ⟨-, state⟩ := settled_stopping u start
    rw [before.stillNext] at state
    rcases driven.mstate with m | m
    · rw [m, state]
    · rw [m, state]
      split <;> rfl
  refine (after.mstate_stopped ?_).trans drives
  rw [drives]
  split <;> rfl

/-- In PARKED, STOPPED and ESTOP the vehicle stays there. -/
theorem handOn_rests (order : UnitOrder) {u : PosUpdate} (moves : u.isSet = false) {s : State}
    (rests : s.mstate.noRollback = true) : (handOn order u s).mstate = s.mstate := by
  obtain ⟨a, before, after, -⟩ := (handOn_handed order u s).parts
  have driven := motionUpdate_driven moves a
  have stands : s.mstate.stopsTo = s.mstate := by
    revert rests
    cases s.mstate <;> simp [MotionState.noRollback, MotionState.stopsTo]
  have start := before.mstate_stopped stands
  have drives : (motionUpdate u a).mstate = s.mstate := by
    have other : a.mstate ≠ .creep ∧ a.mstate ≠ .stopping ∧ a.mstate ≠ .run := by
      rw [start]
      revert rests
      cases s.mstate <;> simp [MotionState.noRollback]
    obtain ⟨-, -, state⟩ := settled_rests u other.1 other.2.1 other.2.2
    rcases driven.mstate with m | m
    · rw [m, state, start]
    · rw [m, state, start, stands]
  exact (after.mstate_stopped (by rw [drives, stands])).trans drives

/-! ### Steering (R25 to R28) -/

theorem clampInt_def (lo hi x : Int) : clampInt lo hi x = max lo (min hi x) := rfl

theorem feedforward_creep {s : State} (creep : s.mstate = .creep) : s.feedforward = 0 := by
  rw [State.feedforward, if_pos creep]

theorem feedforward_segment {s : State} (other : s.mstate ≠ .creep) {x : SegAt}
    (under : segmentAt s.guide.path s.guide.est.front = some x) :
    s.feedforward =
      x.seg.biasIn +
        ((x.seg.biasOut - x.seg.biasIn) * ((s.guide.est.front - x.start : Nat) : Int)).tdiv x.seg.len := by
  rw [State.feedforward, if_neg other, State.frontSeg, under]

/-- The state the steering demand is worked out in. -/
theorem guided_before_steer (g : GuideSample) (s : State) :
    MayStop s (gapTest (marked g s).1) ∧ (gapTest (marked g s).1).guide.steer = s.guide.steer ∧
      (gapTest (marked g s).1).guide.gains = s.guide.gains ∧ (gapTest (marked g s).1).guide.path = s.guide.path ∧
      (gapTest (marked g s).1).lim = s.lim := by
  obtain ⟨-, may0, -, -, -, config0⟩ := sampled_spec g s
  obtain ⟨e, guide1, -, -, may1, -⟩ := marked_keeps g s
  obtain ⟨guide2, may2, -⟩ := gapTest_spec (marked g s).1
  have config : (gapTest (marked g s).1).config = s.config := by simp [marked, sampled]
  refine ⟨may0.trans (may1.trans may2), ?_, ?_, ?_, by rw [State.lim, config]; rfl⟩
  · rw [guide2, guide1]
    rfl
  · rw [guide2, guide1]
    rfl
  · rw [guide2, guide1]
    rfl

/-- Settles O36: the steering fields of R25 to R28 in the state after the gap limit's test, which the
later units leave alone. -/
theorem steeringFollowsRangeAndSlew : Obligations.SteeringFollowsRangeAndSlew := by
  intro s g order ready
  obtain ⟨t, step, whole, handed⟩ := guideSample_handed ready g order
  obtain ⟨may, steer0, gains, path, lim⟩ := guided_before_steer g s
  have guide := steer_guide (gapTest (marked g s).1)
  have mstate : (guided g s).mstate = (gapTest (marked g s).1).mstate := by simp [guided]
  have rest := handed.guide_but_est
  obtain ⟨r, est⟩ := handed.est
  change (guided g s).guide = _ at guide
  generalize gapTest (marked g s).1 = v at *
  have steering : t.guide.steer = (guided g s).guide.steer := by rw [rest]
  have reading : t.guide.reading = v.guide.reading := by rw [rest, guide]
  have front : t.guide.est.front = v.guide.est.front := by rw [est, guide]
  refine ⟨t, step, fun rests => ?_, fun drives => ?_⟩
  · have same : v.mstate = s.mstate := by
      rcases may.mstate with m | m
      · exact m
      · rw [m]
        rcases rests with m | m | m <;> rw [m] <;> rfl
    rw [steering, guide, same, ← steer0]
    rcases rests with m | m | m <;> rw [m] <;> rfl
  · have steers : v.mstate.steers = true := by
      rcases may.mstate with m | m <;> rw [m] <;> rcases drives with d | d | d | d <;> rw [d] <;> rfl
    have next : t.guide.steer = s.guide.steer.next v.feedforward v.feedback s.lim.steerRange s.lim.steerSlew := by
      rw [steering, guide, if_pos steers, steer0, lim]
    have feedback : v.feedback =
        0 - (s.guide.gains.kp * t.guide.reading.e +
          s.guide.gains.kd * (t.guide.reading.e - t.guide.reading.ePrev)).tdiv 256 := by
      rw [State.feedback, reading, gains]
    dsimp only
    rw [next]
    refine ⟨feedback, rfl, rfl, rfl, fun other x under => ?_, fun creep state => ?_⟩
    · have otherwise : v.mstate ≠ .creep := by
        rcases may.mstate with m | m <;> rw [m]
        · exact other
        · cases s.mstate <;> simp [MotionState.stopsTo]
      rw [front, ← path] at under
      rw [front]
      exact feedforward_segment otherwise under
    · refine feedforward_creep ?_
      rcases may.mstate with m | m
      · rw [m, creep]
      · have stopping : (guided g s).mstate = .stopping := by
          rw [mstate, m, creep]
          rfl
        have state' := handOn_stopping order (u := update g s) rfl stopping
        rw [← whole] at state'
        rw [state'] at state
        split at state <;> simp at state

end Sys2Proof.Claims

namespace Sys2Proof.Claims

open Sys2Proof.Machine

/-! ### The DEMAND frame of a sample (R31, R39, R47) -/

theorem zeroSpeed_eq (m : MotionState) : m.zeroSpeed = !m.enable := by cases m <;> rfl

theorem enable_eq (m : MotionState) : m.enable = !(decide (m = .parked) || decide (m = .estop)) := by
  cases m <;> rfl

/-- No update switches the drive on or off (R47). -/
theorem settled_enable (u : PosUpdate) (s : State) : (settled u s).mstate.enable = s.mstate.enable := by
  by_cases creep : s.mstate = .creep
  · obtain ⟨-, -, -, goesOn, ends⟩ := settled_creep u creep
    by_cases on : u.accepted = none ∧ creepNext u s ≠ 5000
    · rw [goesOn on, creep]
    · rw [(ends on).1, creep]
      rfl
  · by_cases stopping : s.mstate = .stopping
    · rw [(settled_stopping u stopping).2, stopping]
      split <;> rfl
    · by_cases run : s.mstate = .run
      · obtain ⟨-, arrives, runs⟩ := settled_run u run
        by_cases here : arrivesNext s
        · rw [(arrives here).1, run]
          rfl
        · rw [(runs here).1, run]
      · rw [(settled_rests u creep stopping run).2.2]

theorem mayStop_enable {s t : State} (h : MayStop s t) : t.mstate.enable = s.mstate.enable := by
  rcases h.mstate with m | m
  · rw [m]
  · rw [m, stopsTo_enable]

/-- The segment cap with the estimate that is handed on. -/
theorem segmentCap_at {s : State} {x : SegAt} (under : segmentAt s.guide.path s.guide.est.front = some x) :
    s.segmentCap = x.seg.limit := by
  rw [State.segmentCap, State.frontSeg, under]

theorem speedNext_zero {s : State} (zero : s.mstate.zeroSpeed = true) : (speedNext s).demand = 0 := by
  rw [speedNext, if_pos zero]

/-- The speed demand is never above the segment's limit (R31). -/
theorem speedNext_capped (s : State) : (speedNext s).demand ≤ s.segmentCap := by
  unfold speedNext
  split
  · exact Nat.zero_le _
  · exact Nat.min_le_right ..

/-- What the settling leaves of the position. -/
theorem Settled.position {s t : State} (h : Settled s t) :
    t.guide.path = s.guide.path ∧ t.guide.est.front = s.guide.est.front ∧ t.guide.est.lap = s.guide.est.lap := by
  rw [h.guide]
  split <;> exact ⟨rfl, rfl, rfl⟩

/-- Settles O37: the motion unit's frame, and what the units beside it leave alone. -/
theorem sampleSendsDemandFrame : Obligations.SampleSendsDemandFrame := by
  intro s g order ready
  obtain ⟨t, step, whole, handed⟩ := guideSample_handed ready g order
  obtain ⟨⟨e, y, guide, -⟩, may, -⟩ := guided_spec g s
  obtain ⟨a, before, after, -⟩ := (handOn_handed order (update g s) (guided g s)).parts
  rw [← whole] at after
  have driven := motionUpdate_driven (u := update g s) rfl a
  generalize motionUpdate (update g s) a = b at *
  have settles := settled_settles (update g s) a
  have toward : MayStop s a := may.trans before.may
  have enable : (settled (update g s) a).mstate.enable =
      !(decide (s.mstate = .parked) || decide (s.mstate = .estop)) := by
    rw [settled_enable, mayStop_enable toward, enable_eq]
  have seq : a.motion.drive.seq = s.motion.drive.seq := by rw [toward.motion]
  have delta : a.guide.steer.delta = t.guide.steer.delta := by rw [before.guide, handed.guide_but_est]
  have speed : t.motion.speed = speedNext (settled (update g s) a) := by rw [after.may.motion]; exact driven.speed
  have drive : t.motion.drive = b.motion.drive := by rw [after.may.motion]
  obtain ⟨r, est⟩ := handed.est
  dsimp only
  refine ⟨t, step, ?_, ?_, ?_, fun off => ?_, fun x under => ?_⟩
  · rw [drive, driven.seq, seq]
  · rw [drive, driven.last, seq, delta, enable]
  · rw [drive, driven.frame, seq, delta, enable, speed]
    rfl
  · rw [speed, speedNext_zero]
    rw [zeroSpeed_eq, enable, off]
    rfl
  · obtain ⟨path, front, -⟩ := settles.position
    rw [speed, ← segmentCap_at (s := settled (update g s) a) (x := x)]
    · exact speedNext_capped _
    · rw [path, front, before.guide, ← under, est, guide]
      rfl

end Sys2Proof.Claims

namespace Sys2Proof.Claims

open Sys2Proof.Machine

/-! ### The conditions a guide sample is tested for (R12, R18, R19) -/

theorem known_iff {s : State} : Known s ↔ s.guide.est.posState.known = true := by
  unfold Known
  cases s.guide.est.posState <;> simp [PosState.known]

/-- Where a stop has been taken, no unit makes the vehicle drive on. -/
theorem handOn_stopped (order : UnitOrder) {u : PosUpdate} (moves : u.isSet = false) {s : State}
    (stops : s.mstate.stopsTo = s.mstate) :
    (handOn order u s).mstate ≠ .hold ∧ (handOn order u s).mstate ≠ .run ∧
      (handOn order u s).mstate ≠ .creep := by
  by_cases stopping : s.mstate = .stopping
  · rw [handOn_stopping order moves stopping]
    split <;> simp
  · have rests : s.mstate.noRollback = true := by
      revert stops stopping
      cases s.mstate <;> simp [MotionState.stopsTo, MotionState.noRollback]
    rw [handOn_rests order moves rests]
    revert rests
    cases s.mstate <;> simp [MotionState.noRollback]

/-- A motion state entered without a stop's end is not STOPPED. -/
theorem settled_notStopped {u : PosUpdate} {s : State} (free : s.mstate.noRollback = false)
    (goesOn : stopEnds s = false) :
    (settled u s).mstate ≠ .stopped ∧ (settled u s).mstate.stopsTo ≠ .stopped := by
  by_cases creep : s.mstate = .creep
  · obtain ⟨-, -, -, goes, ends⟩ := settled_creep u creep
    by_cases on : u.accepted = none ∧ creepNext u s ≠ 5000
    · rw [goes on]
      decide
    · rw [(ends on).1]
      decide
  · by_cases stopping : s.mstate = .stopping
    · have moving : ¬ stillNext s = 50 := fun still => by simp [stopEnds, stopping, still] at goesOn
      rw [(settled_stopping u stopping).2, if_neg moving]
      decide
    · by_cases run : s.mstate = .run
      · obtain ⟨-, arrives, runs⟩ := settled_run u run
        by_cases here : arrivesNext s
        · rw [(arrives here).1]
          decide
        · rw [(runs here).1]
          decide
      · rw [(settled_rests u creep stopping run).2.2]
        revert free
        cases s.mstate <;> simp_all [MotionState.noRollback, MotionState.stopsTo]

/-- In the states where the rollback distance is followed, it is 0 at once where a stop has ended, and
F05 with it (R12). -/
theorem handOn_rollback (order : UnitOrder) {u : PosUpdate} (moves : u.isSet = false) {s : State}
    (free : s.mstate.noRollback = false) :
    (handOn order u s).guide =
        (if (handOn order u s).mstate = .stopped then
          { s.guide with est := { s.guide.est with rollback := 0 } } else s.guide) ∧
      (handOn order u s).faultRec .f05 =
        if (handOn order u s).mstate = .stopped then { s.faultRec .f05 with active := false }
        else s.faultRec .f05 := by
  obtain ⟨a, before, after, -⟩ := (handOn_handed order u s).parts
  have driven := motionUpdate_driven moves a
  generalize motionUpdate u a = b at *
  have free' : a.mstate.noRollback = false := by
    rcases before.may.mstate with m | m
    · rw [m, free]
    · rw [m]
      revert free
      cases s.mstate <;> simp [MotionState.noRollback, MotionState.stopsTo]
  have ended : (handOn order u s).mstate = .stopped ↔ stopEnds a = true := by
    cases ends : stopEnds a with
    | true =>
      obtain ⟨stopping, still⟩ := stopEnds_iff.1 ends
      have state := (settled_stopping u stopping).2
      rw [if_pos still] at state
      have stopped : b.mstate = .stopped := by
        rcases driven.mstate with m | m
        · rw [m, state]
        · rw [m, state]
          rfl
      exact ⟨fun _ => rfl, fun _ => (after.mstate_stopped (by rw [stopped]; rfl)).trans stopped⟩
    | false =>
      obtain ⟨other, otherwise⟩ := settled_notStopped (u := u) free' ends
      refine ⟨fun stopped => ?_, fun h => by simp at h⟩
      exfalso
      rcases after.may.mstate with m | m <;> rcases driven.mstate with d | d <;> rw [m, d] at stopped
      · exact other stopped
      · exact otherwise stopped
      · exact otherwise stopped
      · rw [MotionState.stopsTo_stopsTo] at stopped
        exact otherwise stopped
  rw [after.guide, driven.guide, before.guide, after.faults.kept _ (by decide), driven.f05,
    before.faults.kept _ (by decide)]
  by_cases stopped : (handOn order u s).mstate = .stopped
  · rw [if_pos stopped, if_pos stopped, if_pos (ended.1 stopped), if_pos (ended.1 stopped)]
    exact ⟨rfl, rfl⟩
  · rw [if_neg stopped, if_neg stopped, if_neg fun e => stopped (ended.2 e), if_neg fun e => stopped (ended.2 e)]
    exact ⟨rfl, rfl⟩

/-- In PARKED, STOPPED and ESTOP the later units leave the rollback distance and F05 alone. -/
theorem handOn_rests_keeps (order : UnitOrder) {u : PosUpdate} (moves : u.isSet = false) {s : State}
    (rests : s.mstate.noRollback = true) :
    (handOn order u s).guide = s.guide ∧ (handOn order u s).faultRec .f05 = s.faultRec .f05 := by
  obtain ⟨a, before, after, -⟩ := (handOn_handed order u s).parts
  have driven := motionUpdate_driven moves a
  have start : a.mstate ≠ .stopping := by
    rcases before.may.mstate with m | m <;> rw [m] <;> revert rests <;> cases s.mstate <;>
      simp [MotionState.noRollback, MotionState.stopsTo]
  have goesOn := not_stopEnds start
  rw [after.guide, driven.guide, before.guide, after.faults.kept _ (by decide), driven.f05,
    before.faults.kept _ (by decide), goesOn]
  exact ⟨rfl, rfl⟩

theorem guided_after_sampled (g : GuideSample) (s : State) : MayStop (sampled g s) (guided g s) := by
  obtain ⟨e, -, -, -, may1, -⟩ := marked_keeps g s
  obtain ⟨-, may2, -⟩ := gapTest_spec (marked g s).1
  exact may1.trans (may2.trans (.of_motion (by simp [guided])))

/-- F04 after an arrival without a marker (R19). -/
theorem guided_gap {g : GuideSample} (none_ : g.marker = none) (s : State) :
    (Known s ∧ s.lim.gapLimit < sinceNext s →
        (guided g s).faultRec .f04 =
            { active := true, latched := true, cls := .stop
              count := min 255 ((s.faultRec .f04).count + 1)
              detail := .positionLost .gap s.guide.est.lastMarker } ∧
          (guided g s).mstate = s.mstate.stopsTo) ∧
      (¬ (Known s ∧ s.lim.gapLimit < sinceNext s) → (guided g s).faultRec .f04 = s.faultRec .f04 ∧
        (guided g s).mstate = (sampled g s).mstate) := by
  obtain ⟨same, -⟩ := guided_noMarker none_ s
  obtain ⟨guide, may0, kept, -⟩ := sampled_spec g s
  obtain ⟨-, -, -, -, far, near⟩ := gapTest_spec (sampled g s)
  have recs : (guided g s).faultRec .f04 = (gapTest (sampled g s)).faultRec .f04 := by
    rw [guided, same]
    exact State.faultRec_congr (by simp) _
  have mstate : (guided g s).mstate = (gapTest (sampled g s)).mstate := by simp [guided, same]
  rw [sampled_posState, sampled_lim, show (sampled g s).guide.est.since = sinceNext s by rw [guide]; rfl,
    ← known_iff] at far near
  refine ⟨fun lost => ?_, fun kept_ => ?_⟩
  · obtain ⟨f04, stops⟩ := far lost
    refine ⟨?_, by rw [mstate, stops, may0.stopsTo]⟩
    rw [recs, f04, lostRecord, kept.kept _ (by decide), guide]
    rfl
  · rw [recs, mstate, near kept_]
    exact ⟨kept.kept _ (by decide), rfl⟩

/-- What loses the position, with its F04 and its stop (R18, R19). -/
def PositionLost (s t : State) (cause : LostCause) (marker : Option Code) : Prop :=
  t.guide.est.posState = .lost ∧
    t.faultRec .f04 =
      { active := true, latched := true, cls := .stop
        count := min 255 ((s.faultRec .f04).count + 1)
        detail := .positionLost cause marker } ∧
    t.mstate ≠ .hold ∧ t.mstate ≠ .run ∧ t.mstate ≠ .creep

/-- A position lost in the guidance unit stays lost, and the vehicle stopped. -/
theorem handOn_lost (order : UnitOrder) {u : PosUpdate} (moves : u.isSet = false) {s v : State}
    {cause : LostCause} {marker : Option Code} (posState : v.guide.est.posState = .lost)
    (stops : v.mstate = s.mstate.stopsTo)
    (f04 : v.faultRec .f04 =
      { active := true, latched := true, cls := .stop
        count := min 255 ((s.faultRec .f04).count + 1)
        detail := .positionLost cause marker }) :
    PositionLost s (handOn order u v) cause marker := by
  have handed := handOn_keeps order moves v
  obtain ⟨r, est⟩ := handed.est
  refine ⟨by rw [est, posState], ?_, handOn_stopped order moves (by rw [stops, MotionState.stopsTo_stopsTo])⟩
  rw [handed.faults.kept _ (by decide), f04]

/-- The rollback distance and F05 after a sample (R12). -/
theorem guideSample_rollback (s : State) (g : GuideSample) (order : UnitOrder) :
    let t := handOn order (update g s) (guided g s)
    (s.mstate.noRollback = true → t.guide.est.rollback = 0 ∧ t.faultActive .f05 = false) ∧
      (s.mstate.noRollback = false →
        t.guide.est.rollback = (if t.mstate = .stopped then 0 else rolled s) ∧
          (rolled s ≤ s.lim.rollbackLimit →
            t.faultRec .f05 = { s.faultRec .f05 with active := false }) ∧
          (s.guide.est.rollback ≤ s.lim.rollbackLimit → s.lim.rollbackLimit < rolled s →
            t.faultRec .f05 =
                { active := decide (t.mstate ≠ .stopped), latched := true, cls := .stop
                  count := min 255 ((s.faultRec .f05).count + 1), detail := .rollback (rolled s) } ∧
              (t.mstate = .stopping ∨ t.mstate = .stopped)) ∧
          (s.lim.rollbackLimit < s.guide.est.rollback → s.lim.rollbackLimit < rolled s →
            t.mstate ≠ .stopped → t.faultRec .f05 = s.faultRec .f05)) := by
  intro t
  obtain ⟨⟨e, x, guide, -, rollback⟩, may, -, -, f05, -⟩ := guided_spec g s
  obtain ⟨rests5, free5⟩ := sampled_f05 g s
  have later := guided_after_sampled g s
  refine ⟨fun rests => ?_, fun free => ?_⟩
  · have rests' : (guided g s).mstate.noRollback = true := by
      rcases may.mstate with m | m <;> rw [m] <;> revert rests <;> cases s.mstate <;>
        simp [MotionState.noRollback, MotionState.stopsTo]
    obtain ⟨guide', f05'⟩ := handOn_rests_keeps order (u := update g s) rfl rests'
    refine ⟨?_, ?_⟩
    · show (handOn order (update g s) (guided g s)).guide.est.rollback = 0
      rw [guide', guide]
      show e.rollback = 0
      rw [rollback, Moved, rests]
      rfl
    · show (State.faultRec (handOn order (update g s) (guided g s)) .f05).active = false
      rw [f05', f05]
      exact rests5 rests
  · obtain ⟨below, passes, above⟩ := free5 free
    have free' : (guided g s).mstate.noRollback = false := by
      rcases may.mstate with m | m <;> rw [m] <;> revert free <;> cases s.mstate <;>
        simp [MotionState.noRollback, MotionState.stopsTo]
    obtain ⟨guide', f05'⟩ := handOn_rollback order (u := update g s) rfl free'
    have roll : (guided g s).guide.est.rollback = rolled s := by
      rw [guide]
      show e.rollback = _
      rw [rollback, Moved, free]
      rfl
    change t.guide = if t.mstate = .stopped then _ else _ at guide'
    change t.faultRec .f05 = if t.mstate = .stopped then _ else _ at f05'
    rw [f05] at f05'
    refine ⟨?_, fun low => ?_, fun wasLow high => ?_, fun wasHigh high other => ?_⟩
    · rw [guide']
      split
      · rfl
      · exact roll
    · rw [f05', below low]
      split <;> rfl
    · obtain ⟨raised, stops⟩ := passes wasLow high
      have stopping : (guided g s).mstate = .stopping := by
        have stopped : (sampled g s).mstate = .stopping := by
          rw [stops]
          revert free
          cases s.mstate <;> simp [MotionState.noRollback, MotionState.stopsTo]
        rcases later.mstate with m | m
        · rw [m, stopped]
        · rw [m, stopped]
          rfl
      have state : t.mstate = if stillNext (guided g s) = 50 then .stopped else .stopping :=
        handOn_stopping order (u := update g s) rfl stopping
      refine ⟨?_, by rw [state]; split <;> simp⟩
      rw [f05', raised]
      split
      next stopped => simp [stopped]
      next other => simp [other]
    · rw [f05', if_neg other, above wasHigh high]

end Sys2Proof.Claims

namespace Sys2Proof.Claims

open Sys2Proof.Machine

/-- The gap limit after a sample without a marker (R19). -/
theorem guideSample_gap (s : State) {g : GuideSample} (order : UnitOrder) (none_ : g.marker = none) :
    let t := handOn order (update g s) (guided g s)
    t.guide.est.since = sinceNext s ∧
      (Known s → s.lim.gapLimit < sinceNext s → PositionLost s t .gap s.guide.est.lastMarker) ∧
      (¬ Known s ∨ sinceNext s ≤ s.lim.gapLimit →
        t.guide.est.posState = s.guide.est.posState ∧ t.faultRec .f04 = s.faultRec .f04) := by
  intro t
  have handed : HandedOn (guided g s) t := handOn_keeps order rfl _
  obtain ⟨r, est⟩ := handed.est
  obtain ⟨-, after⟩ := guided_noMarker none_ s
  obtain ⟨far, near⟩ := guided_gap none_ s
  refine ⟨by rw [est, after]; rfl, fun known gone => ?_, fun stays => ?_⟩
  · obtain ⟨f04, stops⟩ := far ⟨known, gone⟩
    exact handOn_lost order rfl (by rw [after, if_pos ⟨known_iff.1 known, gone⟩]) stops f04
  · have kept : ¬ (Known s ∧ s.lim.gapLimit < sinceNext s) := by
      rintro ⟨known, gone⟩
      rcases stays with h | h
      · exact h known
      · omega
    refine ⟨by rw [est, after, if_neg fun both => kept ⟨known_iff.2 both.1, both.2⟩], ?_⟩
    rw [handed.faults.kept _ (by decide), (near kept).1]

/-- A marker out of place after a sample (R18, R19, log 47). -/
theorem guideSample_mismatch {s : State} {g : GuideSample} (order : UnitOrder) {code : Code} {m : Marker}
    (read : g.marker = some code) (found : (sampled g s).findMarker code = some m) (known : Known s)
    (far : s.lim.captureWindow < (markerEps s m).natAbs) :
    let t := handOn order (update g s) (guided g s)
    (∃ r p,
        t.guide.est =
          { Moved s with
            rollback := r, lastMarker := some code, mismatch := min 2 (s.guide.est.mismatch + 1)
            posState := p }) ∧
      t.faultRec .f19 =
        { active := false, latched := true, cls := .note
          count := min 255 ((s.faultRec .f19).count + 1), detail := .marker code } ∧
      (1 ≤ s.guide.est.mismatch → PositionLost s t .mismatch (some code)) ∧
      (s.guide.est.mismatch = 0 → s.lim.gapLimit < sinceNext s → PositionLost s t .gap (some code)) ∧
      (s.guide.est.mismatch = 0 → sinceNext s ≤ s.lim.gapLimit →
        t.guide.est.posState = .doubt ∧ t.faultRec .f04 = s.faultRec .f04) := by
  intro t
  have handed : HandedOn (guided g s) t := handOn_keeps order rfl _
  obtain ⟨r, est⟩ := handed.est
  obtain ⟨after, f19, second, gap, stops, first⟩ := guided_mismatch read found (known_iff.1 known) far
  refine ⟨⟨r, _, by rw [est, after]⟩, by rw [handed.faults.kept _ (by decide), f19], fun again => ?_,
    fun once gone => ?_, fun once near => ?_⟩
  · have twice : 2 ≤ s.guide.est.mismatch + 1 := by omega
    exact handOn_lost order rfl (by rw [after, if_pos (.inl twice)]) (stops (.inl twice)) (second twice)
  · exact handOn_lost order rfl (by rw [after, if_pos (.inr gone)]) (stops (.inr gone)) (gap once gone)
  · have stays : ¬ (2 ≤ s.guide.est.mismatch + 1 ∨ s.lim.gapLimit < sinceNext s) := by omega
    exact ⟨by rw [est, after, if_neg stays], by rw [handed.faults.kept _ (by decide), first stays]⟩

/-! ### Motion after a sample (R13, R31 to R38, R60, R63) -/

/-- The estimate's speed and still count, and the stop's end, after a sample (R13, R60). -/
theorem guideSample_stops (s : State) (g : GuideSample) (order : UnitOrder) :
    let t := handOn order (update g s) (guided g s)
    t.motion.still = (if t.guide.est.speed.natAbs < 5 then min 50 (s.motion.still + 1) else 0) ∧
      t.motion.standstill = decide (t.motion.still = 50) ∧
      (s.mstate = .stopping → t.mstate = if t.motion.standstill = true then .stopped else .stopping) ∧
      (s.mstate = .parked ∨ s.mstate = .stopped ∨ s.mstate = .estop → t.mstate = s.mstate) := by
  intro t
  have handed : HandedOn (guided g s) t := handOn_keeps order rfl _
  obtain ⟨-, may, -⟩ := guided_spec g s
  obtain ⟨still, standstill⟩ := handOn_still order (u := update g s) rfl (guided g s)
  change t.motion.still = _ at still
  change t.motion.standstill = _ at standstill
  obtain ⟨r, est⟩ := handed.est
  have stillness : stillNext (guided g s) =
      if t.guide.est.speed.natAbs < 5 then min 50 (s.motion.still + 1) else 0 := by
    rw [stillNext, est, may.motion]
  refine ⟨still.trans stillness, by rw [standstill, still], fun stopping => ?_, fun rests => ?_⟩
  · have stopping' : (guided g s).mstate = .stopping := by
      rcases may.mstate with m | m <;> rw [m, stopping]
      rfl
    rw [standstill]
    have state : t.mstate = _ := handOn_stopping order (u := update g s) rfl stopping'
    rw [state]
    by_cases ends : stillNext (guided g s) = 50
    · rw [if_pos ends, if_pos (decide_eq_true ends)]
    · rw [if_neg ends, if_neg (by simpa using ends)]
  · have same : (guided g s).mstate = s.mstate := by
      rcases may.mstate with m | m
      · exact m
      · rw [m]
        rcases rests with h | h | h <;> rw [h] <;> rfl
    rw [← same]
    refine handOn_rests order rfl ?_
    rw [same]
    rcases rests with h | h | h <;> rw [h] <;> rfl

/-! #### The speed demand -/

/-- The least term is at most each of them. -/
theorem leastTerm_le (ts : List (Nat × Setter)) (best : Nat × Setter) :
    (leastTerm best ts).1 ≤ best.1 ∧ ∀ x ∈ ts, (leastTerm best ts).1 ≤ x.1 := by
  induction ts generalizing best with
  | nil => exact ⟨Nat.le_refl _, by simp⟩
  | cons t ts ih =>
    obtain ⟨least, rest⟩ := ih (if t.1 < best.1 then t else best)
    have both : (if t.1 < best.1 then t else best).1 ≤ best.1 ∧ (if t.1 < best.1 then t else best).1 ≤ t.1 := by
      split
      · exact ⟨Nat.le_of_lt ‹_›, Nat.le_refl _⟩
      · exact ⟨Nat.le_refl _, by omega⟩
    refine ⟨least.trans both.1, fun x mem => ?_⟩
    rcases List.mem_cons.1 mem with rfl | mem
    · exact least.trans both.2
    · exact rest x mem

/-- A term of 0 brings the target to 0 (R35). -/
theorem speedNext_zeroTerm {s : State} (drives : s.mstate.zeroSpeed = false) {w : Setter}
    (zero : (0, w) ∈ s.speedTerms) : (speedNext s).target = 0 := by
  rw [speedNext, if_neg (by simp [drives])]
  obtain ⟨-, least⟩ := leastTerm_le s.speedTerms (s.segmentCap, Setter.segmentCap)
  exact Nat.le_zero.1 (least _ zero)

/-- In every state but RUN and CREEP the motion cap is 0 (R34). -/
theorem speedTerms_cap {s : State} (run : s.mstate ≠ .run) (creep : s.mstate ≠ .creep) :
    (0, Setter.motionCap) ∈ s.speedTerms := by
  have cap : s.motionCap = some 0 := by
    unfold State.motionCap
    split <;> simp_all
  simp [State.speedTerms, cap]

/-- With the drive not ready its cap is 0 (R34). -/
theorem speedTerms_drive {s : State} (unready : s.motion.drive.ready = false) :
    (0, Setter.driveCap) ∈ s.speedTerms := by
  simp [State.speedTerms, unready]

/-- A hold distance of 0 or less gives a term of 0 (R33). -/
theorem speedTerms_hold {s : State} {d : Int} {w : Setter} (dist : s.holdDistNow = some (d, w)) (gone : d ≤ 0) :
    (0, w) ∈ s.speedTerms := by
  simp [State.speedTerms, dist, gone]

/-- The demand moves one step toward the target, and the segment caps it (R31, R35). -/
theorem speedNext_demand {s : State} (drives : s.mstate.zeroSpeed = false) :
    (speedNext s).demand =
      min (stepSpeed s.motion.speed.demand (speedNext s).target s.lim.accelStep s.downStep) s.segmentCap := by
  rw [speedNext, if_neg (by simp [drives])]

end Sys2Proof.Claims

namespace Sys2Proof.Claims

open Sys2Proof.Machine

/-! ### How many reports are posted (R209, R210) -/

/-- The event reports in the queue stay there, and it grows by at most so many. -/
structure Tells (n : Nat) (s t : State) : Prop where
  kept : ∀ e : EventReport, Report.event e ∈ s.host.reports → Report.event e ∈ t.host.reports
  grows : t.host.reports.length ≤ s.host.reports.length + n

theorem Tells.of_host {s t : State} (h : t.host = s.host) : Tells 0 s t :=
  ⟨fun _ mem => h ▸ mem, by rw [h]; exact Nat.le_refl _⟩

theorem Tells.refl (s : State) : Tells 0 s s := .of_host rfl

theorem Tells.trans {n m : Nat} {s t u : State} (h : Tells n s t) (k : Tells m t u) : Tells (n + m) s u :=
  ⟨fun e mem => k.kept e (h.kept e mem), by have := h.grows; have := k.grows; omega⟩

theorem Tells.mono {n m : Nat} {s t : State} (h : Tells n s t) (le : n ≤ m) : Tells m s t :=
  ⟨h.kept, h.grows.trans (Nat.add_le_add_left le _)⟩

theorem Tells.setCue {n : Nat} {s t : State} (h : Tells n s t) (c : CueUnit) : Tells n s (t.setCue c) :=
  ⟨h.kept, h.grows⟩

theorem joinTail_grows (l : HostLink) (r : Report) : (l.joinTail r).reports.length ≤ l.reports.length + 1 := by
  rcases l.joinTail_cases r with ⟨-, e⟩ | ⟨-, -, e⟩ | ⟨-, -, e⟩ <;> rw [e]
  · simp
  · simp only [List.length_append, List.length_singleton]
    have := List.length_eraseP_le (l := l.reports) (p := Report.isState)
    omega
  · exact Nat.le_succ _

theorem postEvent_tells (e : EventReport) (s : State) : Tells 1 s (postEvent e s) :=
  ⟨fun _ mem => HostLink.joinTail_event _ mem, joinTail_grows ..⟩

theorem postState_tells (k : StateKind) (i : Nat) (s : State) : Tells 1 s (postState k i s) := by
  unfold postState
  split
  · exact (Tells.refl s).mono (by omega)
  · exact ⟨fun _ mem => HostLink.joinTail_event _ mem, joinTail_grows ..⟩

theorem noteSummary_tells (b : FaultSummary) (s : State) : Tells 1 s (noteSummary b s) := by
  unfold noteSummary
  split
  · exact (Tells.refl s).mono (by omega)
  · exact postState_tells ..

/-- A condition that keeps its latch ends without a report (R188). -/
theorem endCond_silent {c : FaultCode} {s : State} (keeps : s.selfClears c = false) :
    (endCond c s).host = s.host := by
  unfold endCond
  simp only [keeps, Bool.and_false, Bool.false_eq_true, if_false]
  split
  · simp
  · rfl

theorem endMomentary_tells (c : FaultCode) (s : State) : Tells 0 s (endMomentary c s) := by
  unfold endMomentary
  split
  · exact .of_host (by simp)
  · exact .refl s

theorem raiseQuiet_tells (c : FaultCode) (k : FaultClass) (d : FaultDetail) (s : State) :
    Tells 2 s (raiseQuiet c k d s) := by
  have told : Tells 1 s (recordRaise c k d s) :=
    (Tells.of_host (s := s) (by simp)).trans (postEvent_tells _ _)
  exact (told.trans (endMomentary_tells ..)).trans (noteSummary_tells ..)

theorem endCond_tells (c : FaultCode) (s : State) : Tells 2 s (endCond c s) := by
  unfold endCond
  dsimp only
  split
  · split
    · exact ((Tells.of_host (s := s) (by simp)).trans (postEvent_tells _ _)).trans (noteSummary_tells ..)
    · exact (Tells.of_host (by simp)).mono (by omega)
  · exact (Tells.refl s).mono (by omega)

theorem evalPause_tells (s : State) : Tells 1 s (evalPause s) := by
  unfold evalPause
  dsimp only
  split
  · exact (Tells.refl s).mono (by omega)
  · refine (Tells.of_host (s := s) ?_).trans (postState_tells ..)
    split <;> simp

/-- From CREEP to HOLD the state and the show pause are reported (R48, R66). -/
theorem creepHolds_tells (resume : Bool) {s : State} (creep : s.mstate = .creep) :
    Tells 2 s (changeMotion .hold resume s) := by
  unfold changeMotion
  dsimp only
  rw [if_neg (by decide), if_neg (by rw [creep]; decide), if_neg (by decide)]
  exact ((Tells.of_host (s := s) (by simp)).trans (postState_tells ..)).trans (evalPause_tells _)

theorem newLap_tells (lap : Half) (s : State) : Tells 1 s (newLap lap s) := by
  unfold newLap
  dsimp only
  split
  · exact (Tells.of_host (by simp)).mono (by omega)
  · have marked : Tells 0 s (markSpan s.cue.pointer s.cue.cues.length .missed s) := .of_host (by simp)
    exact (marked.trans (postEvent_tells _ _)).setCue _

theorem placeCues_tells (cause : PlacingCause) (front : Nat) (s : State) :
    Tells 1 s (placeCues cause front s) := by
  unfold placeCues
  dsimp only
  split
  · exact (Tells.refl s).mono (by omega)
  · exact (Tells.of_host (s := s) (by simp)).trans (postEvent_tells _ _)

/-- An update that takes no cues posts at most a new lap and a placing (R123 to R125). -/
theorem cueUpdate_tells {u : PosUpdate} (before : u.before.known = false)
    (after : u.after = .located ∨ u.after.known = false) (s : State) : Tells 2 s (cueUpdate u s) := by
  have lap : Tells 1 s (lapChecked u s) := by
    unfold lapChecked
    split
    · exact newLap_tells ..
    · exact (Tells.refl s).mono (by omega)
  rw [cueUpdate_eq]
  split
  · exact (Tells.refl s).mono (by omega)
  · split
    · exact (Tells.refl s).mono (by omega)
    · split
      · exact lap.trans (placeCues_tells ..)
      next none_ =>
        have unknown : u.after.known = false := by
          rcases after with located | unknown
          · have placed : u.before = .unlocated ∨ u.before = .lost := by
              revert before
              cases u.before <;> simp [PosState.known]
            unfold PosUpdate.placing at none_
            split at none_ <;> simp [located, placed] at none_
          · exact unknown
        rw [if_neg (by simp [State.cueTested, unknown])]
        exact lap.mono (by omega)

end Sys2Proof.Claims

namespace Sys2Proof.Claims

open Sys2Proof.Machine

/-! ### The reports of a creep's end (R63) -/

/-- The event reports in the queue stay there. -/
structure KeepsEvents (s t : State) : Prop where
  kept : ∀ e : EventReport, Report.event e ∈ s.host.reports → Report.event e ∈ t.host.reports

theorem Tells.keeps {n : Nat} {s t : State} (h : Tells n s t) : KeepsEvents s t := ⟨h.kept⟩

theorem KeepsEvents.of_host {s t : State} (h : t.host = s.host) : KeepsEvents s t := (Tells.of_host h).keeps

theorem KeepsEvents.trans {s t u : State} (h : KeepsEvents s t) (k : KeepsEvents t u) : KeepsEvents s u :=
  ⟨fun e mem => k.kept e (h.kept e mem)⟩

theorem KeepsEvents.foldl {α : Type} {f : State → α → State} (each : ∀ s a, KeepsEvents s (f s a))
    (l : List α) (s : State) : KeepsEvents s (l.foldl f s) := by
  induction l generalizing s with
  | nil => exact ⟨fun _ h => h⟩
  | cons a l ih => exact (each s a).trans (ih (f s a))

theorem reportTable_events (s : State) : KeepsEvents s (reportTable s) := (postState_tells ..).keeps

theorem sendEntry_events (z : Nat) (s : State) : KeepsEvents s (sendEntry z s) :=
  .of_host (by
    unfold sendEntry
    split
    · rfl
    · split <;> simp)

theorem claimZone_events (z : Nat) (s : State) : KeepsEvents s (claimZone z s) := by
  unfold claimZone
  exact ((KeepsEvents.of_host (s := s) (by simp)).trans (reportTable_events _)).trans (sendEntry_events ..)

theorem releaseOne_events (z : Nat) (s : State) : KeepsEvents s (releaseOne z s) := by
  have removes : KeepsEvents s (removeEntry z s) := by
    unfold removeEntry
    exact (KeepsEvents.of_host (s := s) (by rfl)).trans (reportTable_events _)
  have releases : KeepsEvents s (startRelease z s) := by
    unfold startRelease
    exact ((KeepsEvents.of_host (s := s) (by simp)).trans (reportTable_events _)).trans (sendEntry_events ..)
  have same : KeepsEvents s s := ⟨fun _ h => h⟩
  unfold releaseOne
  split
  · split
    · split
      · exact releases
      · split
        · exact releases
        · exact removes
      · exact removes
      · exact removes
      · exact same
    · exact same
  · exact same

/-- The front's zone is claimed (R71). -/
def claimFront (fz : Nat) (s : State) : State :=
  if (s.mstate = .hold ∨ s.mstate = .run) ∧ s.entryOf fz = none ∧ s.zone.table.length < Config.tableMax then
    claimZone fz s
  else s

/-- The first zone ahead without an entry is claimed (R71). -/
def claimAhead (fz : Nat) (s : State) : State :=
  match (zonesAhead s.zone.zmap fz).find? fun i => (s.entryOf i.zone).isNone with
  | none => s
  | some i =>
    if s.fromFront i.entry ≤ s.lim.claimDistance ∧ s.zone.table.length < Config.tableMax then
      claimZone i.zone s
    else s

theorem claimTest_eq (s : State) :
    claimTest s =
      match s.frontZone with
      | none => s
      | some fz => claimAhead fz (claimFront fz s) := rfl

theorem claimTest_events (s : State) : KeepsEvents s (claimTest s) := by
  have same : ∀ x : State, KeepsEvents x x := fun _ => ⟨fun _ h => h⟩
  have front : ∀ fz, KeepsEvents s (claimFront fz s) := fun fz => by
    unfold claimFront
    split
    · exact claimZone_events ..
    · exact same s
  have ahead : ∀ fz x, KeepsEvents x (claimAhead fz x) := fun fz x => by
    unfold claimAhead
    split
    · exact same x
    · split
      · exact claimZone_events ..
      · exact same x
  rw [claimTest_eq]
  split
  · exact same s
  · exact (front _).trans (ahead _ _)

/-- Where F10 would be a HOLD-class fault, its test keeps the event reports (R91, R187). -/
theorem testF10_events {s : State} (hold : s.f10Class = .hold) (d : FaultDetail) :
    KeepsEvents s (testF10 d s) := by
  unfold testF10
  split
  · split
    · exact ⟨fun _ h => h⟩
    · rw [hold, raiseAs_quiet (by decide)]
      exact (raiseQuiet_tells ..).keeps
  · exact (endCond_tells ..).keeps

/-- An update that tests nothing for violation keeps the event reports in HOLD (R84). -/
theorem zoneUpdate_events {u : PosUpdate} (before : u.before.known = false) {s : State}
    (rests : s.mstate = .hold ∨ u.after.known = false) : KeepsEvents s (zoneUpdate u s) := by
  rw [zoneUpdate_eq, violationTest_eq, if_neg (by simp [PosUpdate.crosses, before])]
  refine KeepsEvents.trans ?_ (.of_host (s := claimed u s) (by simp [recomputeHold]))
  have sorted : KeepsEvents s (sortTable s) := .of_host (by simp)
  unfold claimed
  split
  next claims =>
    have hold : s.mstate = .hold := by
      rcases rests with hold | unknown
      · exact hold
      · simp [State.claimsNow, unknown] at claims
    have released_eq : releaseTest (sortTable s) = testF10 .link (released (sortTable s)) := rfl
    have quiet : (released (sortTable s)).f10Class = .hold := by
      have same : (released (sortTable s)).mstate = s.mstate := by simp [released]
      rw [State.f10Class, same, hold]
    rw [released_eq]
    exact ((sorted.trans (.foldl (fun st z => releaseOne_events z st) _ _)).trans
      (testF10_events quiet _)).trans (claimTest_events _)
  next => exact sorted

/-- With the motion unit before the zone unit: what comes before it, and what comes after. -/
theorem handOn_motionFirst {order : UnitOrder} (first : ¬ ZoneFirst order) (u : PosUpdate) (s : State) :
    ∃ a, Quiet s a ∧ OnlyLong s a ∧ (a = s ∨ a = cueUpdate u s) ∧
      Beside u (motionUpdate u a) (handOn order u s) ∧
      (u.before.known = false → u.after = .located ∨ u.after.known = false →
        (motionUpdate u a).mstate = .hold ∨ u.after.known = false →
        KeepsEvents (motionUpdate u a) (handOn order u s)) := by
  have cue (before : u.before.known = false) (after : u.after = .located ∨ u.after.known = false) (x : State) :
      KeepsEvents x (cueUpdate u x) := (cueUpdate_tells before after x).keeps
  cases order with
  | motionZoneCue =>
    exact ⟨s, .refl s, .of_eq rfl, .inl rfl, (zoneUpdate_beside u _).then (cueUpdate_quiet u _),
      fun before after rests => (zoneUpdate_events before rests).trans (cue before after _)⟩
  | motionCueZone =>
    exact ⟨s, .refl s, .of_eq rfl, .inl rfl, (zoneUpdate_beside u _).after (cueUpdate_quiet u _),
      fun before after rests => (cue before after _).trans
        (zoneUpdate_events before (rests.imp (cueUpdate_quiet u _).mstate.trans id))⟩
  | cueMotionZone =>
    exact ⟨cueUpdate u s, cueUpdate_quiet u s, cueUpdate_onlyLong u s, .inr rfl, zoneUpdate_beside u _,
      fun before after rests => zoneUpdate_events before rests⟩
  | zoneMotionCue => exact absurd (.inl rfl) first
  | zoneCueMotion => exact absurd (.inr (.inl rfl)) first
  | cueZoneMotion => exact absurd (.inr (.inr rfl)) first

/-- How the creep ends with the update, if it does (R63). -/
def creepOutcome (u : PosUpdate) (s : State) : Option CreepOutcome :=
  match u.accepted with
  | some x => some (.found x.1 x.2)
  | none => if creepNext u s = 5000 then some (.limit (creepNext u s)) else none

/-- The end of a creep is reported (R63). -/
theorem settled_creep_posts {u : PosUpdate} {s : State} (creep : s.mstate = .creep) {o : CreepOutcome}
    (ends : creepOutcome u s = some o) (room : s.host.reports.length ≤ 45) :
    Report.event (.creepEnd o) ∈ (settled u s).host.reports := by
  obtain ⟨whole, -⟩ := settled_creep u creep
  have state : (updateStill s).mstate = .creep := creep
  have dist : creepNext u (updateStill s) = creepNext u s := rfl
  have holds := creepHolds_tells false (s := crept u (updateStill s)) creep
  have reports : (crept u (updateStill s)).host.reports = s.host.reports := rfl
  have posted : creepTest u (updateStill s) =
      creepEnd o (changeMotion .hold false (crept u (updateStill s))) := by
    rw [creepTest_creep state, dist]
    unfold creepOutcome at ends
    cases accepted : u.accepted with
    | some x =>
      rw [accepted] at ends
      rw [← Option.some.inj ends]
    | none =>
      rw [accepted] at ends
      dsimp only at ends ⊢
      by_cases far : creepNext u s = 5000
      · rw [if_pos far] at ends ⊢
        rw [← Option.some.inj ends]
      · rw [if_neg far] at ends
        cases ends
  rw [whole, posted]
  refine (evalPause_tells _).kept _ (postEvent_self _ _ ?_)
  have grows := holds.grows
  rw [reports] at grows
  show _ < 48
  omega

theorem missTest_few {s : State} (few : s.motion.drive.miss < 4) : (missTest s).host = s.host := by
  unfold missTest
  split
  · split
    · rfl
    · dsimp only
      rw [if_neg (by unfold bump; omega)]
      simp
  · rfl

theorem sendDemand_host (s : State) : (sendDemand s).host = s.host := rfl

theorem motionUpdate_host {u : PosUpdate} (moves : u.isSet = false) {s : State} (few : s.motion.drive.miss < 4) :
    (motionUpdate u s).host = (settled u s).host := by
  have settles := settled_settles u s
  rw [motionUpdate_eq moves, speedDemand_eq]
  generalize settled u s = d at *
  have few' : (d.setMotion { d.motion with speed := speedNext d }).motion.drive.miss < 4 := by
    rw [State.setMotion_motion, settles.drive]
    exact few
  exact (sendDemand_host _).trans (missTest_few few')

/-- A creep on an update whose position was unknown before, with the motion unit before the zone unit (R63). -/
theorem creep_handed {order : UnitOrder} (first : ¬ ZoneFirst order) {u : PosUpdate} (moves : u.isSet = false)
    (before : u.before.known = false) (after : u.after = .located ∨ u.after.known = false) {s : State}
    (creep : s.mstate = .creep) (few : s.motion.drive.miss < 4) :
    (creepOutcome u s = none → u.after.known = false →
        (handOn order u s).mstate = .creep ∧
          (handOn order u s).motion.record.creepDist = creepNext u s) ∧
      ∀ o, creepOutcome u s = some o →
        (handOn order u s).mstate = .hold ∧ (handOn order u s).motion.record.resumeRun = false ∧
          (handOn order u s).motion.record.creepDist = creepNext u s ∧
          (s.host.reports.length ≤ 43 → Report.event (.creepEnd o) ∈ (handOn order u s).host.reports) := by
  obtain ⟨a, quiet, -, cue, beside, events⟩ := handOn_motionFirst first u s
  have creep' : a.mstate = .creep := quiet.mstate.trans creep
  have few' : a.motion.drive.miss < 4 := by rw [quiet.motion]; exact few
  have driven := motionUpdate_driven moves a
  have record := driven.record few'
  have host := motionUpdate_host moves few'
  obtain ⟨-, -, dist, goesOn, holds⟩ := settled_creep u creep'
  have next : creepNext u a = creepNext u s := by rw [creepNext, creepNext, quiet.motion]
  have outcome : creepOutcome u a = creepOutcome u s := by rw [creepOutcome, creepOutcome, next]
  have grown : a.host.reports.length ≤ s.host.reports.length + 2 := by
    rcases cue with same | same
    · rw [same]; omega
    · rw [same]
      exact (cueUpdate_tells before after s).grows
  generalize motionUpdate u a = b at *
  have state : b.mstate = (settled u a).mstate := congrArg (·.state) record
  refine ⟨fun none_ unknown => ?_, fun o some_ => ?_⟩
  · have motion := beside.unknown unknown
    have both : u.accepted = none ∧ creepNext u a ≠ 5000 := by
      rw [← outcome, creepOutcome] at none_
      cases accepted : u.accepted with
      | some x => simp [accepted] at none_
      | none =>
        rw [accepted] at none_
        exact ⟨rfl, fun far => by simp [far] at none_⟩
    refine ⟨?_, ?_⟩
    · rw [State.mstate, motion, ← goesOn both, ← state]
      rfl
    · rw [motion, record, dist, next]
  · have either : ¬ (u.accepted = none ∧ creepNext u a ≠ 5000) := by
      rintro ⟨none_, near⟩
      rw [← outcome, creepOutcome, none_] at some_
      simp [near] at some_
    obtain ⟨hold, resume⟩ := holds either
    have held : b.mstate = .hold := state.trans hold
    have motion := beside.holds held before
    refine ⟨?_, ?_, ?_, fun room => ?_⟩
    · rw [State.mstate, motion]
      exact held
    · rw [motion, record, resume]
    · rw [motion, record, dist, next]
    · refine (events before after (.inl held)).kept _ ?_
      rw [host]
      exact settled_creep_posts creep' (outcome.trans some_) (by omega)

end Sys2Proof.Claims

namespace Sys2Proof.Claims

open Sys2Proof.Machine

/-! ### A sample that stops nothing, in CREEP (R63) -/

theorem endCond_f05_silent (s : State) : (endCond .f05 s).host = s.host := endCond_silent rfl

/-- A strong sample without movement backward posts nothing (R12, R14, R15). -/
theorem sampled_silent {g : GuideSample} {s : State} (strong : s.lim.strengthThreshold ≤ g.strength.toNat)
    (forward : 0 ≤ moved s) : (sampled g s).host = s.host := by
  obtain ⟨mstate, lim, est, roll, -⟩ := startGuideTimer_same s
  have timer : (startGuideTimer s).host = s.host := by
    unfold startGuideTimer
    rw [endCond_silent rfl]
    rfl
  have falls : rolled s ≤ s.guide.est.rollback := by
    rw [rolled, rollbackAfter, if_neg (by omega)]
    omega
  have odo : (odometry (startGuideTimer s)).host = s.host := by
    rw [odometry_eq, roll, lim, est]
    split
    · unfold zeroRollback
      rw [endCond_f05_silent, ← timer]
      rfl
    · split
      next far =>
        rw [if_pos (by omega), ← timer]
        rfl
      next =>
        rw [endCond_f05_silent, ← timer]
        rfl
  have lim1 : (odometry (startGuideTimer s)).lim = s.lim := by simp [State.lim]
  show (takeReading g (odometry (startGuideTimer s))).host = _
  generalize odometry (startGuideTimer s) = b at *
  have zero : (b.guide.reading.take g b.lim.strengthThreshold).weak = 0 := by
    simp [GuideReading.take, lim1, strong]
  unfold takeReading
  dsimp only
  rw [if_pos zero, endCond_silent rfl]
  exact odo

/-- What a sample that stops nothing hands on. -/
structure Undisturbed (g : GuideSample) (s t : State) (accepted : Option (Code × Int)) : Prop where
  motion : t.motion = s.motion
  tells : Tells 2 s t
  accepted : (update g s).accepted = accepted

/-- A calm sample hands on the motion unit and the reports as they were, while the position is unknown. -/
theorem guided_calm {g : GuideSample} {s : State} (calm : Calm s g) : (guided g s).motion = s.motion := by
  obtain ⟨none_, strong, forward, near⟩ := calm
  obtain ⟨same, -⟩ := guided_noMarker none_ s
  obtain ⟨-, -, -, -, -, kept⟩ := gapTest_spec (sampled g s)
  obtain ⟨guide, -⟩ := sampled_spec g s
  have stays : gapTest (sampled g s) = sampled g s := by
    refine kept fun both => ?_
    rw [sampled_posState, sampled_lim, show (sampled g s).guide.est.since = sinceNext s by rw [guide]; rfl] at both
    exact absurd both.2 (by have := near (known_iff.2 both.1); omega)
  rw [guided, same, stays]
  simpa using sampled_calm strong forward

theorem guided_calm_unknown {g : GuideSample} {s : State} (calm : Calm s g) (unknown : ¬ Known s) :
    Undisturbed g s (guided g s) none := by
  obtain ⟨none_, strong, forward, -⟩ := calm
  obtain ⟨same, -⟩ := guided_noMarker none_ s
  obtain ⟨-, -, -, -, -, kept⟩ := gapTest_spec (sampled g s)
  have stays : gapTest (sampled g s) = sampled g s := by
    refine kept fun both => unknown (known_iff.2 ?_)
    rw [← sampled_posState g s]
    exact both.1
  refine ⟨guided_calm ⟨none_, strong, forward, fun known => absurd known unknown⟩, ?_, congrArg Prod.snd same⟩
  refine (Tells.of_host ?_).mono (Nat.zero_le 2)
  rw [guided, same, stays]
  have steers : (steer (sampled g s)).host = (sampled g s).host := by simp
  rw [steers, sampled_silent strong forward]

theorem acceptMarker_silent (eps : Int) (code : Code) (s : State) :
    (acceptMarker eps (named code s)).host = s.host := by
  unfold acceptMarker
  rw [endCond_silent rfl]
  rfl

theorem located_tells {e : EventReport} {s t : State} (same : t.host = s.host) :
    Tells 2 s (reportPosition (postEvent e t)) :=
  ((Tells.of_host same).trans (postEvent_tells _ _)).trans (postState_tells ..)

theorem handleMarker_locates_tells {code : Code} {m : Marker} {s : State} (found : s.findMarker code = some m)
    (unknown : s.guide.est.posState.known = false) : Tells 2 s (handleMarker code s).1 := by
  rw [handleMarker_found found, unknown, if_neg (by simp)]
  exact located_tells (acceptMarker_silent ..)

/-- A marker found while the position is unknown is accepted, and posts two reports (R17). -/
theorem guided_locates {g : GuideSample} {s : State} {code : Code} {m : Marker} (read : g.marker = some code)
    (found : (sampled g s).findMarker code = some m) (unknown : ¬ Known s)
    (strong : s.lim.strengthThreshold ≤ g.strength.toNat) (forward : 0 ≤ moved s) :
    Undisturbed g s (guided g s) (some (code, -markerEps s m)) := by
  have unknown' : s.guide.est.posState.known = false := by simpa [known_iff] using unknown
  obtain ⟨accepted, -, -, motion, -, whole⟩ :=
    guided_accepts read found (fun known => absurd known (by simp [unknown']))
  refine ⟨motion.trans (sampled_calm strong forward), ?_, accepted⟩
  have taken : marked g s = handleMarker code (sampled g s) := by rw [marked, read]; rfl
  have steers : (steer (marked g s).1).host = (marked g s).1.host := by simp
  have posted := handleMarker_locates_tells found ((congrArg PosState.known (sampled_posState g s)).trans unknown')
  rw [whole]
  have start : Tells 0 s (sampled g s) := .of_host (sampled_silent strong forward)
  refine (start.trans posted).trans (m := 0) (.of_host ?_)
  rw [steers, taken]

/-- The creep clauses of a sample (R63). -/
theorem guideSample_creeps {s : State} {g : GuideSample} {order : UnitOrder} (first : ¬ ZoneFirst order)
    (unknown : ¬ Known s) (creep : s.mstate = .creep) (few : s.motion.drive.miss < 4) :
    let t := handOn order (update g s) (guided g s)
    let dist := min 5000 (s.motion.record.creepDist + (moved s).natAbs)
    (Calm s g →
        t.motion.record.creepDist = dist ∧ (dist < 5000 → t.mstate = .creep) ∧
          (dist = 5000 →
            t.mstate = .hold ∧ t.motion.record.resumeRun = false ∧ Posted s t (.creepEnd (.limit dist)))) ∧
      ∀ (code : Code) (m : Marker), g.marker = some code → m ∈ s.guide.markers →
        m.code = code → (∀ x ∈ s.guide.markers, x.code = code → x = m) →
        s.lim.strengthThreshold ≤ g.strength.toNat → 0 ≤ moved s →
        t.motion.record.creepDist = dist ∧ t.mstate = .hold ∧ t.motion.record.resumeRun = false ∧
          Posted s t (.creepEnd (.found code t.guide.est.lastCorrection)) := by
  intro t dist
  have before : (update g s).before.known = false := by
    show s.guide.est.posState.known = false
    simpa [known_iff] using unknown
  have handed : HandedOn (guided g s) t := handOn_keeps order rfl _
  obtain ⟨r, est⟩ := handed.est
  have distance : (guided g s).motion = s.motion → creepNext (update g s) (guided g s) = dist := fun same => by
    rw [creepNext, same]
    rfl
  have state : (guided g s).motion = s.motion → (guided g s).mstate = .creep := fun same => by
    rw [State.mstate, same]
    exact creep
  refine ⟨fun calm => ?_, fun code m read mem named unique strong forward => ?_⟩
  · obtain ⟨motion, tells, accepted⟩ := guided_calm_unknown calm unknown
    obtain ⟨-, pos⟩ := guided_noMarker calm.1 s
    have after : (update g s).after.known = false := by
      show (guided g s).guide.est.posState.known = false
      rw [pos]
      split <;> simp_all [PosState.known, known_iff]
    obtain ⟨goes, ends⟩ := creep_handed first (u := update g s) rfl before (.inr after) (state motion)
      (by rw [motion]; exact few)
    rw [creepOutcome, accepted, distance motion] at goes ends
    by_cases far : dist = 5000
    · obtain ⟨hold, resume, along, told⟩ := ends (.limit dist) (if_pos far)
      refine ⟨along, fun near => by omega, fun _ => ⟨hold, resume, fun room => told ?_⟩⟩
      have := tells.grows
      omega
    · obtain ⟨stays, along⟩ := goes (if_neg far) after
      exact ⟨along, fun _ => stays, fun h => absurd h far⟩
  · have found := sampled_found g mem named unique
    obtain ⟨motion, tells, accepted⟩ := guided_locates read found unknown strong forward
    obtain ⟨-, -, pos, -⟩ :=
      guided_accepts read found (fun known => absurd (known_iff.2 known) unknown)
    have after : (update g s).after = .located := by
      show (guided g s).guide.est.posState = .located
      rw [pos]
      rfl
    obtain ⟨-, ends⟩ := creep_handed first (u := update g s) rfl before (.inl after) (state motion)
      (by rw [motion]; exact few)
    rw [creepOutcome, accepted, distance motion] at ends
    obtain ⟨hold, resume, along, told⟩ := ends (.found code (-markerEps s m)) rfl
    have correction : t.guide.est.lastCorrection = -markerEps s m := by
      rw [est, pos]
      rfl
    refine ⟨along, hold, resume, fun room => ?_⟩
    rw [correction]
    refine told ?_
    have := tells.grows
    omega

end Sys2Proof.Claims

namespace Sys2Proof.Claims

open Sys2Proof.Machine

/-! ### The speed and the station stop of a sample (R31 to R38) -/

theorem setDrive_staysOut (s : State) (d : DriveLink) : StaysOut s (s.setMotion { s.motion with drive := d }) :=
  ⟨fun run resume => ⟨run, resume⟩⟩

theorem raiseFault_staysOut {c : FaultCode} (hc : c ≠ .f01) (d : FaultDetail) (s : State) :
    StaysOut s (raiseFault c d s) := raiseAs_staysOut hc ..

theorem missTest_staysOut (s : State) : StaysOut s (missTest s) := by
  have same : StaysOut s s := .of_motion rfl
  unfold missTest
  split
  · split
    · exact same
    · dsimp only
      split
      · exact (setDrive_staysOut s _).trans (raiseFault_staysOut (c := .f08) (by decide) _ _)
      · exact setDrive_staysOut ..
  · exact same

/-- What is not driving after the working out does not begin to with the miss count's test (R41). -/
theorem motionUpdate_staysOut {u : PosUpdate} (moves : u.isSet = false) (s : State) :
    StaysOut (settled u s) (motionUpdate u s) := by
  rw [motionUpdate_eq moves, speedDemand_eq]
  generalize settled u s = d
  have out := (missTest_staysOut (d.setMotion { d.motion with speed := speedNext d })).out
  exact ⟨fun run resume => out run resume⟩

/-- The station stop's arming with the segment under the front (R36). -/
theorem armedNext_eq {s : State} {x : SegAt} (under : segmentAt s.guide.path s.guide.est.front = some x) :
    armedNext s =
      match s.motion.armed with
      | some a => some a
      | none => if x.seg.load = true then none else some s.guide.est.lap := by
  have load : s.inLoadZone = x.seg.load := by rw [State.inLoadZone, State.frontSeg, under]
  rw [armedNext, load]
  cases s.motion.armed with
  | some a => simp
  | none => cases x.seg.load <;> simp

/-- The hold distance while the station stop is armed (R33, R37). -/
theorem holdDistNow_armed {s : State} (run : s.mstate = .run) {a : Half} (armed : s.motion.armed = some a) :
    ∃ w, s.holdDistNow =
      some
        (let station : Int :=
          if s.guide.est.lap = a then (s.P : Int) - s.guide.est.front
          else if s.guide.est.lap = a + 1 then -(s.guide.est.front : Int)
          else 0
         match s.zone.hold with
         | none => station
         | some h => min (signedDist s.P s.guide.est.front h.pos) station, w) := by
  unfold State.holdDistNow State.stationDist
  rw [if_neg (by rw [run]; decide), armed]
  dsimp only [Option.map_some]
  generalize (if s.guide.est.lap = a then (s.P : Int) - s.guide.est.front
    else if s.guide.est.lap = a + 1 then -(s.guide.est.front : Int) else 0) = station
  cases s.zone.hold with
  | none => exact ⟨_, rfl⟩
  | some h =>
    dsimp only [Option.map_some]
    split
    next near => exact ⟨_, by rw [← min_eq_left near]; rfl⟩
    next far => exact ⟨_, congrArg (fun d => some (d, _)) (min_eq_right (Int.le_of_not_le far)).symm⟩

/-- The working out's motion state where the vehicle may drive. -/
theorem settled_drives (u : PosUpdate) {s : State} (drives : s.mstate = .hold ∨ s.mstate = .run ∨ s.mstate = .creep) :
    (s.mstate = .hold → (settled u s).mstate = .hold) ∧
      ((settled u s).mstate = .hold ∨ (settled u s).mstate = .run ∨ (settled u s).mstate = .creep) := by
  rcases drives with hold | run | creep
  · obtain ⟨-, -, same⟩ := settled_rests u (s := s) (by simp [hold]) (by simp [hold]) (by simp [hold])
    exact ⟨fun _ => same.trans hold, .inl (same.trans hold)⟩
  · obtain ⟨-, arrives, runs⟩ := settled_run u run
    refine ⟨fun hold => absurd (run.symm.trans hold) (by decide), ?_⟩
    by_cases here : arrivesNext s
    · exact .inl (arrives here).1
    · exact .inr (.inl (runs here).1)
  · obtain ⟨-, -, -, goes, ends⟩ := settled_creep u creep
    refine ⟨fun hold => absurd (creep.symm.trans hold) (by decide), ?_⟩
    by_cases on : u.accepted = none ∧ creepNext u s ≠ 5000
    · exact .inr (.inr (goes on))
    · exact .inl (ends on).1

/-- What the speed demand reads is as it was before the update's working out. -/
theorem Settled.limits {s t : State} (h : Settled s t) : t.lim = s.lim := by rw [State.lim, h.config]; rfl

/-- The units beside the motion unit leave the speed fields alone. -/
theorem Beside.speed {u : PosUpdate} {a t : State} (moves : u.isSet = false) (h : Beside u (motionUpdate u a) t) :
    t.motion.speed = speedNext (settled u a) := by
  rw [h.may.motion]
  exact (motionUpdate_driven moves a).speed

/-- The speed of a driving vehicle after an update, with the motion unit before the zone unit (R31 to R35). -/
theorem handOn_speed {order : UnitOrder} {u : PosUpdate} (moves : u.isSet = false) {a s : State}
    (beside : Beside u (motionUpdate u a) (handOn order u s))
    {x : SegAt} (under : segmentAt a.guide.path a.guide.est.front = some x)
    (drives : a.mstate = .hold ∨ a.mstate = .run ∨ a.mstate = .creep) :
    let t := handOn order u s
    t.motion.speed = speedNext (settled u a) ∧
      t.motion.speed.demand =
        min
          (if a.motion.speed.demand < t.motion.speed.target then
            a.motion.speed.demand + min a.lim.accelStep (t.motion.speed.target - a.motion.speed.demand)
          else a.motion.speed.demand - min a.lim.brakeStep (a.motion.speed.demand - t.motion.speed.target))
          x.seg.limit ∧
      (a.mstate = .hold ∨ a.motion.drive.ready = false → t.motion.speed.target = 0) := by
  intro t
  have settles := settled_settles u a
  obtain ⟨hold, state⟩ := settled_drives u drives
  have speed : t.motion.speed = speedNext (settled u a) := beside.speed moves
  obtain ⟨path, front, -⟩ := settles.position
  have cap : (settled u a).segmentCap = x.seg.limit := segmentCap_at (by rw [path, front, under])
  have moving : (settled u a).mstate.zeroSpeed = false := by rcases state with m | m | m <;> rw [m] <;> rfl
  have down : (settled u a).downStep = a.lim.brakeStep := by
    rw [State.downStep, settles.limits]
    rcases state with m | m | m <;> rw [m]
  refine ⟨speed, ?_, fun stands => ?_⟩
  · rw [speed, speedNext_demand moving, cap, down, settles.limits, settles.speed]
    rfl
  · rw [speed]
    rcases stands with still | unready
    · exact speedNext_zeroTerm moving (speedTerms_cap (by simp [hold still]) (by simp [hold still]))
    · exact speedNext_zeroTerm moving (speedTerms_drive (by rw [settles.drive]; exact unready))

/-- The station stop after an update in RUN, with the motion unit before the zone unit (R36 to R38). -/
theorem handOn_run {order : UnitOrder} {u : PosUpdate} (moves : u.isSet = false) {a s : State}
    (beside : Beside u (motionUpdate u a) (handOn order u s)) (run : a.mstate = .run) :
    let t := handOn order u s
    (arrivesNext a →
        t.motion.armed = none ∧ t.motion.record.resumeRun = false ∧
          (a.motion.drive.miss < 4 →
            t.mstate = .hold ∨ t.mstate = .stopping ∧ (t.faultRec .f09).latched = true)) ∧
      (¬ arrivesNext a →
        t.motion.armed = armedNext a ∧
          (a.motion.drive.miss < 4 →
            t.mstate = .run ∨
              t.mstate = .stopping ∧
                ((t.faultRec .f09).latched = true ∨ (t.faultRec .f10).latched = true))) := by
  intro t
  have driven := motionUpdate_driven moves a
  have out := motionUpdate_staysOut moves a
  obtain ⟨-, arrives, runs⟩ := settled_run u run
  have armed : t.motion.armed = (settled u a).motion.armed := by
    have motion : t.motion = _ := beside.may.motion
    rw [motion]
    exact driven.armed
  have record := driven.record
  generalize motionUpdate u a = b at *
  have state : a.motion.drive.miss < 4 → b.mstate = (settled u a).mstate :=
    fun few => congrArg (·.state) (record few)
  refine ⟨fun here => ?_, fun there => ?_⟩
  · obtain ⟨hold, none_, resume⟩ := arrives here
    obtain ⟨run', resume'⟩ := out.out (by simp [hold]) resume
    refine ⟨armed.trans none_, (beside.out.out run' resume').2, fun few => ?_⟩
    have held : b.mstate = .hold := (state few).trans hold
    rcases beside.may.mstate with m | m
    · exact .inl (m.trans held)
    · have stopping : t.mstate = .stopping := by
        rw [held] at m
        exact m
      rcases beside.why with same | f09 | ⟨-, moving⟩
      · exact .inl (same.trans held)
      · exact .inr ⟨stopping, f09⟩
      · simp [held] at moving
  · obtain ⟨running, arming⟩ := runs there
    refine ⟨armed.trans arming, fun few => ?_⟩
    have ran : b.mstate = .run := (state few).trans running
    rcases beside.may.mstate with m | m
    · exact .inl (m.trans ran)
    · have stopping : t.mstate = .stopping := by
        rw [ran] at m
        exact m
      rcases beside.why with same | f09 | ⟨f10, -⟩
      · exact .inl (same.trans ran)
      · exact .inr ⟨stopping, .inl f09⟩
      · exact .inr ⟨stopping, .inr f10⟩

end Sys2Proof.Claims

namespace Sys2Proof.Claims

open Sys2Proof.Machine

/-- In STOPPING and STOPPED the demand falls by the stop step (R35). -/
theorem guideSample_falls {s : State} (g : GuideSample) (order : UnitOrder)
    (stops : s.mstate = .stopping ∨ s.mstate = .stopped) {x : SegAt}
    (under : segmentAt s.guide.path (handOn order (update g s) (guided g s)).guide.est.front = some x) :
    let t := handOn order (update g s) (guided g s)
    t.motion.speed.target = 0 ∧
      t.motion.speed.demand =
        min (s.motion.speed.demand - min s.lim.stopStep s.motion.speed.demand) x.seg.limit := by
  intro t
  obtain ⟨⟨e, y, guide, -⟩, may, -, -, -, -, config, -⟩ := guided_spec g s
  have handed : HandedOn (guided g s) t := handOn_keeps order rfl _
  obtain ⟨r, est⟩ := handed.est
  obtain ⟨a, before, after, -⟩ := (handOn_handed order (update g s) (guided g s)).parts
  have settles := settled_settles (update g s) a
  have toward : MayStop s a := may.trans before.may
  have speed : t.motion.speed = speedNext (settled (update g s) a) := after.speed rfl
  have stopped : a.mstate = s.mstate := by
    rcases toward.mstate with m | m
    · exact m
    · rw [m]
      rcases stops with h | h <;> rw [h] <;> rfl
  have state : (settled (update g s) a).mstate = .stopping ∨ (settled (update g s) a).mstate = .stopped := by
    rcases stops with h | h
    · have now := (settled_stopping (update g s) (stopped.trans h)).2
      rw [now]
      split <;> simp
    · obtain ⟨-, -, now⟩ := settled_rests (update g s) (s := a) (by simp [stopped, h]) (by simp [stopped, h])
        (by simp [stopped, h])
      exact .inr (now.trans (stopped.trans h))
  have lim : (settled (update g s) a).lim = s.lim := by
    rw [settles.limits, State.lim, before.config, config]
    rfl
  have demand : (settled (update g s) a).motion.speed.demand = s.motion.speed.demand := by
    rw [settles.speed, toward.motion]
  obtain ⟨path, front, -⟩ := settles.position
  have cap : (settled (update g s) a).segmentCap = x.seg.limit := by
    refine segmentCap_at ?_
    rw [path, front, before.guide, ← under, est, guide]
    rfl
  rw [speed]
  generalize settled (update g s) a = d at *
  have moving : d.mstate.zeroSpeed = false := by rcases state with m | m <;> rw [m] <;> rfl
  have zero : (speedNext d).target = 0 :=
    speedNext_zeroTerm moving (speedTerms_cap (by rcases state with m | m <;> simp [m])
      (by rcases state with m | m <;> simp [m]))
  have down : d.downStep = s.lim.stopStep := by
    rw [State.downStep, lim]
    rcases state with m | m <;> rw [m]
  refine ⟨zero, ?_⟩
  rw [speedNext_demand moving, zero, cap, down, demand]
  rfl

/-- The speed and the station stop of a calm sample, with the motion unit before the zone unit. -/
theorem guideSample_drives {s : State} {g : GuideSample} {order : UnitOrder} (first : ¬ ZoneFirst order)
    (calm : Calm s g) {x : SegAt}
    (under : segmentAt s.guide.path (handOn order (update g s) (guided g s)).guide.est.front = some x) :
    let t := handOn order (update g s) (guided g s)
    let P := lapLength s.guide.path
    let front := t.guide.est.front
    let v := s.motion.speed.demand
    let w := t.motion.speed.demand
    let target := t.motion.speed.target
    (s.mstate = .hold ∨ s.mstate = .run ∨ s.mstate = .creep →
        w =
            min
              (if v < target then v + min s.lim.accelStep (target - v)
              else v - min s.lim.brakeStep (v - target))
              x.seg.limit ∧
          (s.mstate = .hold ∨ s.motion.drive.ready = false → target = 0)) ∧
      (s.mstate = .run →
        let armed : Option Half :=
          match s.motion.armed with
          | some a => some a
          | none => if x.seg.load = true then none else some t.guide.est.lap
        let arrives : Prop :=
          armed.isSome = true ∧ t.motion.standstill = true ∧ (P ≤ front + 250 ∨ front ≤ 250)
        (arrives →
            t.motion.armed = none ∧ t.motion.record.resumeRun = false ∧
              (s.motion.drive.miss < 4 →
                t.mstate = .hold ∨
                  t.mstate = .stopping ∧ (t.faultRec .f09).latched = true)) ∧
          (¬ arrives →
            t.motion.armed = armed ∧
              (s.motion.drive.miss < 4 →
                t.mstate = .run ∨
                  t.mstate = .stopping ∧
                    ((t.faultRec .f09).latched = true ∨ (t.faultRec .f10).latched = true)) ∧
              ∀ a, armed = some a →
                let station : Int :=
                  if t.guide.est.lap = a then (P : Int) - front
                  else if t.guide.est.lap = a + 1 then -(front : Int)
                  else 0
                let hold : Int :=
                  match s.zone.hold with
                  | none => station
                  | some h => min (Machine.signedDist P front h.pos) station
                t.motion.speed.holdDist = some hold ∧ (hold ≤ 0 → target = 0))) := by
  obtain ⟨a, quiet, long, -, beside, -⟩ := handOn_motionFirst first (update g s) (guided g s)
  obtain ⟨⟨e, y, guide, -⟩, -, -, -, -, -, config, zone⟩ := guided_spec g s
  have handed : HandedOn (guided g s) (handOn order (update g s) (guided g s)) := handOn_keeps order rfl _
  obtain ⟨r, est⟩ := handed.est
  have motion : a.motion = s.motion := quiet.motion.trans (guided_calm calm)
  have mstate : a.mstate = s.mstate := congrArg (fun m => m.record.state) motion
  have lim : a.lim = s.lim := by
    rw [State.lim, quiet.config, config]
    rfl
  have path : a.guide.path = s.guide.path := by
    rw [quiet.guide, guide]
    rfl
  have place : (handOn order (update g s) (guided g s)).guide.est.front = a.guide.est.front ∧
      (handOn order (update g s) (guided g s)).guide.est.lap = a.guide.est.lap := by
    rw [est, quiet.guide]
    exact ⟨rfl, rfl⟩
  have hold : a.zone.hold = s.zone.hold := by rw [long.zone, zone]
  have still : (handOn order (update g s) (guided g s)).motion.standstill = decide (stillNext a = 50) := by
    rw [(handOn_still order (u := update g s) rfl (guided g s)).2, stillNext, stillNext, quiet.guide, quiet.motion]
  have settles := settled_settles (update g s) a
  rw [place.1, ← path] at under
  have driving := handOn_speed rfl beside under
  have running := handOn_run rfl beside
  have speed := beside.speed rfl
  generalize handOn order (update g s) (guided g s) = t at *
  dsimp only
  rw [place.1, place.2, still]
  refine ⟨fun drives => ?_, fun run => ?_⟩
  · obtain ⟨-, demand, target⟩ := driving (mstate ▸ drives)
    rw [motion, lim] at demand
    rw [motion, mstate] at target
    exact ⟨demand, target⟩
  · obtain ⟨arrives, goes⟩ := running (mstate.trans run)
    have arming := armedNext_eq under
    rw [motion] at arming arrives goes
    have here : arrivesNext a ↔
        (armedNext a).isSome = true ∧ decide (stillNext a = 50) = true ∧
          (lapLength s.guide.path ≤ a.guide.est.front + 250 ∨ a.guide.est.front ≤ 250) := by
      have window : inArrivalWindow a.P a.guide.est.front = true ↔
          (lapLength s.guide.path ≤ a.guide.est.front + 250 ∨ a.guide.est.front ≤ 250) := by
        rw [State.P, path]
        simp [inArrivalWindow, Config.arrivalWindow]
      rw [arrivesNext, window, decide_eq_true_iff]
    generalize armed_eq : (match s.motion.armed with
      | some a => some a
      | none => if x.seg.load = true then none else some a.guide.est.lap) = armed
    have same : armed = armedNext a := armed_eq.symm.trans arming.symm
    rw [same, ← here]
    refine ⟨arrives, fun there => ?_⟩
    obtain ⟨armed, state⟩ := goes there
    refine ⟨armed, state, fun h some_ => ?_⟩
    obtain ⟨-, -, runs⟩ := settled_run (update g s) (mstate.trans run)
    obtain ⟨ran, along⟩ := runs there
    obtain ⟨w, dist⟩ := holdDistNow_armed ran (along.trans some_)
    obtain ⟨path', front', lap'⟩ := settles.position
    rw [State.P, path', front', lap', settles.zone, hold, path] at dist
    have moving : (settled (update g s) a).mstate.zeroSpeed = false := by rw [ran]; rfl
    rw [speed]
    refine ⟨?_, fun gone => speedNext_zeroTerm moving (speedTerms_hold dist gone)⟩
    rw [speedNext, if_neg (by rw [moving]; decide), dist]
    rfl

/-- Settles O38: rollback, markers and gap by the guidance unit's lemmas, motion by the motion unit's. -/
theorem guideSampleTestsConditionsAndMovesDrive : Obligations.GuideSampleTestsConditionsAndMovesDrive := by
  refine ⟨fun s g order ready => ?_, fun s g order ready => ?_⟩
  · obtain ⟨rests, rolls⟩ := guideSample_rollback s g order
    refine ⟨_, exec_guideSample ready g order, fun still => rests ?_, fun free => rolls ?_,
      fun none_ => guideSample_gap s order none_, fun code m read mem named unique known far => ?_⟩
    · rcases still with h | h | h <;> rw [h] <;> rfl
    · rcases free with h | h | h | h <;> rw [h] <;> rfl
    · obtain ⟨⟨r, p, est⟩, f19, second, gap, first⟩ :=
        guideSample_mismatch order read (sampled_found g mem named unique) known far
      exact ⟨by rw [est]; rfl, by rw [est]; rfl, by rw [est]; rfl, by rw [est], by rw [est]; rfl, by rw [est],
        by rw [est]; rfl, f19, second, gap, first⟩
  · obtain ⟨still, standstill, stopping, rests⟩ := guideSample_stops s g order
    refine ⟨_, exec_guideSample ready g order, still, standstill, stopping, rests,
      fun stops x under => guideSample_falls g order stops under,
      fun first unknown creep few => guideSample_creeps first unknown creep few,
      fun first calm x under => guideSample_drives first calm under⟩

end Sys2Proof.Claims

namespace Sys2Proof.Claims

open Sys2Proof.Machine

/-! ### SET POSITION (R21) -/

/-- What a set of the position leaves to the zone unit and the cue unit: the reservation table with F10,
and the taking of cues. -/
structure Places (s t : State) : Prop where
  pending : t.pending = s.pending
  config : t.config = s.config
  guide : t.guide = s.guide
  motion : t.motion = s.motion
  seat : t.seat = s.seat
  clip : t.clip = s.clip
  voice : t.voice = s.voice
  cue : t.cue = { s.cue with cues := t.cue.cues, pointer := t.cue.pointer, lap := t.cue.lap }
  faults : FaultsKept [.f10] s t
  port : t.host.port = s.host.port

theorem Places.refl (s : State) : Places s s := ⟨rfl, rfl, rfl, rfl, rfl, rfl, rfl, rfl, .refl .., rfl⟩

theorem Places.trans {s t u : State} (h : Places s t) (k : Places t u) : Places s u :=
  ⟨k.pending.trans h.pending, k.config.trans h.config, k.guide.trans h.guide, k.motion.trans h.motion,
    k.seat.trans h.seat, k.clip.trans h.clip, k.voice.trans h.voice, by rw [k.cue, h.cue],
    (h.faults.trans k.faults).mono (by decide), k.port.trans h.port⟩

theorem newLap_places (lap : Half) (s : State) : Places s (newLap lap s) := by
  refine ⟨by simp, by simp, by simp, by simp, by simp, by simp, by simp, ?_, .of_fault _ (by simp), by simp⟩
  unfold newLap
  dsimp only
  split <;> rfl

theorem placeCues_places (cause : PlacingCause) (front : Nat) (s : State) :
    Places s (placeCues cause front s) := by
  refine ⟨by simp, by simp, by simp, by simp, by simp, by simp, by simp, ?_, .of_fault _ (by simp), by simp⟩
  unfold placeCues
  dsimp only
  split <;> rfl

theorem cueUpdate_places {u : PosUpdate} (set : u.isSet = true) (s : State) : Places s (cueUpdate u s) := by
  have lap : Places s (lapChecked u s) := by
    unfold lapChecked
    split
    · exact newLap_places ..
    · exact .refl s
  have placing : u.placing = some .set := by rw [PosUpdate.placing, if_pos set]
  rw [cueUpdate_eq, placing]
  split
  · exact .refl s
  · split
    · exact .refl s
    · exact lap.trans (placeCues_places ..)

/-- The test of F10 where it would be a HOLD-class fault (R91). -/
theorem testF10_places {s : State} (quiet : s.f10Class = .hold) (d : FaultDetail) : Places s (testF10 d s) := by
  obtain ⟨guide, motion, seat, cue, voice, -⟩ := testF10_quiet quiet d
  exact ⟨by simp, by simp, guide, motion, seat, by simp, voice, by rw [cue],
    ⟨fun c out => testF10_rec_other (by simpa using out) d s⟩, by simp⟩

theorem Places.of_frame {s t : State} (pending : t.pending = s.pending) (config : t.config = s.config)
    (guide : t.guide = s.guide) (motion : t.motion = s.motion) (seat : t.seat = s.seat)
    (clip : t.clip = s.clip) (voice : t.voice = s.voice) (cue : t.cue = s.cue) (fault : t.fault = s.fault)
    (port : t.host.port = s.host.port) : Places s t :=
  ⟨pending, config, guide, motion, seat, clip, voice, by rw [cue], .of_fault _ fault, port⟩

theorem sortTable_places (s : State) : Places s (sortTable s) :=
  .of_frame rfl rfl rfl rfl rfl rfl rfl rfl rfl rfl

theorem released_places (s : State) : Places s (released s) :=
  .of_frame (by simp [released]) (by simp [released]) (by simp [released]) (by simp [released])
    (by simp [released]) (by simp [released]) (by simp [released]) (by simp [released]) (by simp [released])
    (by simp [released])

theorem claimTest_places (s : State) : Places s (claimTest s) :=
  .of_frame (by simp) (by simp) (by simp) (by simp) (by simp) (by simp) (by simp) (by simp) (by simp) (by simp)

theorem zoneUpdate_places {u : PosUpdate} (set : u.isSet = true) {s : State}
    (rests : s.mstate = .hold ∨ s.mstate = .parked) : Places s (zoneUpdate u s) := by
  rw [zoneUpdate_eq, violationTest_eq, if_neg (by simp [PosUpdate.crosses, set])]
  have hold : Places (claimed u s) (recomputeHold (claimed u s)) :=
    .of_frame rfl rfl rfl rfl rfl rfl rfl rfl rfl rfl
  refine Places.trans ?_ hold
  unfold claimed
  have sorted := sortTable_places s
  split
  · have released_eq : releaseTest (sortTable s) = testF10 .link (released (sortTable s)) := rfl
    have before := sorted.trans (released_places _)
    have quiet : (released (sortTable s)).f10Class = .hold := by
      rw [State.f10Class, State.mstate, before.motion]
      rcases rests with h | h <;> (rw [State.mstate] at h; rw [h])
    rw [released_eq]
    exact (before.trans (testF10_places quiet _)).trans (claimTest_places _)
  · exact sorted

/-- On a set, in any order, the zone unit and the cue unit act alone. -/
theorem handOn_places (order : UnitOrder) {u : PosUpdate} (set : u.isSet = true) {s : State}
    (rests : s.mstate = .hold ∨ s.mstate = .parked) : Places s (handOn order u s) := by
  have motion : ∀ x, motionUpdate u x = x := fun x => if_pos set
  have cue := fun x => cueUpdate_places set x
  have zone : ∀ x, Places s x → Places s (zoneUpdate u x) := fun x h =>
    h.trans (zoneUpdate_places set (by rw [State.mstate, h.motion]; exact rests))
  have zoneThenCue : Places s (cueUpdate u (zoneUpdate u s)) := (zone s (.refl s)).trans (cue _)
  have cueThenZone : Places s (zoneUpdate u (cueUpdate u s)) := zone _ (cue s)
  unfold handOn
  cases order with
  | motionZoneCue => simpa only [runUnits, motion] using zoneThenCue
  | zoneMotionCue => simpa only [runUnits, motion] using zoneThenCue
  | zoneCueMotion => simpa only [runUnits, motion] using zoneThenCue
  | motionCueZone => simpa only [runUnits, motion] using cueThenZone
  | cueMotionZone => simpa only [runUnits, motion] using cueThenZone
  | cueZoneMotion => simpa only [runUnits, motion] using cueThenZone

/-- The vehicle with its front placed, before the other units act (R21). -/
def placed (front : Nat) (s : State) : State :=
  reportPosition (endConds [.f04, .f05] (setEst (s.guide.est.set front) s))

theorem placed_spec (front : Nat) (s : State) :
    (placed front s).guide = { s.guide with est := s.guide.est.set front } ∧
      (placed front s).motion = s.motion ∧ (placed front s).seat = s.seat ∧ (placed front s).cue = s.cue ∧
      (placed front s).voice = s.voice ∧ (placed front s).clip = s.clip ∧ (placed front s).config = s.config ∧
      (placed front s).pending = s.pending ∧ (placed front s).host.port = s.host.port ∧
      (placed front s).faultActive .f04 = false ∧ (placed front s).faultActive .f05 = false ∧
      FaultsKept [.f04, .f05] s (placed front s) := by
  have recs : ∀ c, (placed front s).faultRec c =
      (endCond .f05 (endCond .f04 (setEst (s.guide.est.set front) s))).faultRec c := fun c => by
    simp [placed, reportPosition, endConds]
  refine ⟨?_, by simp [placed], by simp [placed], by simp [placed], by simp [placed], by simp [placed],
    by simp [placed], by simp [placed], by simp [placed], ?_, ?_, ⟨fun c out => ?_⟩⟩
  · rw [placed, reportPosition_guide]
    simp [endConds, setEst_guide]
  · rw [State.faultActive, recs]
    simp
  · rw [State.faultActive, recs]
    simp
  · rw [recs]
    have both : c ≠ .f04 ∧ c ≠ .f05 := by simpa using out
    simp [both.1, both.2, setEst]

theorem setPosition_places {front : Nat} {order : UnitOrder} {s : State}
    (ready : s.config.record.state = .ready) (on : front < (s.guide.path.map (·.len)).sum)
    (rests : s.mstate = .hold ∨ s.mstate = .parked) (still : s.motion.standstill = true) :
    setPosition order front s =
      (handOn order (setUpdate s.guide.est (s.guide.est.set front)) (placed front s), .done) := by
  have judged : ¬ (s.mstate ≠ .hold ∧ s.mstate ≠ .parked) := by
    rintro ⟨hold, parked⟩
    rcases rests with h | h
    · exact hold h
    · exact parked h
  unfold setPosition
  rw [if_neg (by simp [State.isReady, ready]), if_neg (show ¬ s.P ≤ front from Nat.not_le.2 on), if_neg judged, if_neg (by simp [still])]
  rfl

/-- Settles O39: the front is placed, and only the zone unit and the cue unit act on it. -/
theorem setPositionPlacesFront : Obligations.SetPositionPlacesFront := by
  intro s f rest front order taken ready on rests still
  let s0 := frameTaken s rest
  have judged : setPosition order front s0 = _ := setPosition_places (s := s0) ready on rests still
  obtain ⟨guide, motion, seat, cue, voice, clip, config, pending, port, f04, f05, kept⟩ := placed_spec front s0
  have places : Places (placed front s0) (handOn order (setUpdate s0.guide.est (s0.guide.est.set front))
      (placed front s0)) := handOn_places order rfl (by rw [State.mstate, motion]; exact rests)
  generalize handOn order (setUpdate s0.guide.est (s0.guide.est.set front)) (placed front s0) = w at *
  obtain ⟨h, step, answered⟩ := onRequest_does taken judged (places.port.trans port)
  have recs : ∀ c, c ≠ .f10 → (w.setHost h).faultRec c = (placed front s0).faultRec c := fun c out =>
    places.faults.kept c (by simpa using out)
  refine ⟨w.setHost h, step, answered, ?_, places.guide.trans guide, ?_, ?_, ?_, fun c out4 out5 out10 => ?_⟩
  · exact State.ext_fields (places.pending.trans pending) (places.config.trans config) rfl
      (places.motion.trans motion) rfl (places.seat.trans seat) rfl (places.clip.trans clip)
      (places.voice.trans voice) rfl rfl
  · rw [State.faultActive, recs _ (by decide)]
    exact f04
  · rw [State.faultActive, recs _ (by decide)]
    exact f05
  · have form := places.cue
    rw [cue] at form
    exact form
  · rw [recs _ out10, kept.kept c (by simp [out4, out5])]
    rfl

end Sys2Proof.Claims

namespace Sys2Proof.Claims

open Sys2Proof.Machine

/-! ### The zone unit's rules (R70, R72, R85) -/

/-- The zone unit alone differs, but for the reports and the records of some faults. -/
structure ZoneEdit (cs : List FaultCode) (s t : State) : Prop where
  pending : t.pending = s.pending
  config : t.config = s.config
  guide : t.guide = s.guide
  motion : t.motion = s.motion
  seat : t.seat = s.seat
  cue : t.cue = s.cue
  clip : t.clip = s.clip
  voice : t.voice = s.voice
  faults : FaultsKept cs s t
  port : t.host.port = s.host.port

theorem ZoneEdit.refl (s : State) : ZoneEdit [] s s := ⟨rfl, rfl, rfl, rfl, rfl, rfl, rfl, rfl, .refl .., rfl⟩

theorem ZoneEdit.trans {cs ds : List FaultCode} {s t u : State} (h : ZoneEdit cs s t) (k : ZoneEdit ds t u) :
    ZoneEdit (cs ++ ds) s u :=
  ⟨k.pending.trans h.pending, k.config.trans h.config, k.guide.trans h.guide, k.motion.trans h.motion,
    k.seat.trans h.seat, k.cue.trans h.cue, k.clip.trans h.clip, k.voice.trans h.voice,
    h.faults.trans k.faults, k.port.trans h.port⟩

theorem ZoneEdit.mono {cs ds : List FaultCode} {s t : State} (h : ZoneEdit cs s t) (sub : cs ⊆ ds) :
    ZoneEdit ds s t :=
  ⟨h.pending, h.config, h.guide, h.motion, h.seat, h.cue, h.clip, h.voice, h.faults.mono sub, h.port⟩

theorem ZoneEdit.of_places {s t : State} (h : Places s t) (cue : t.cue = s.cue) : ZoneEdit [.f10] s t :=
  ⟨h.pending, h.config, h.guide, h.motion, h.seat, cue, h.clip, h.voice, h.faults, h.port⟩

theorem ZoneEdit.of_setZone (z : ZoneUnit) (s : State) : ZoneEdit [] s (s.setZone z) :=
  ⟨rfl, rfl, rfl, rfl, rfl, rfl, rfl, rfl, ⟨fun _ _ => rfl⟩, rfl⟩

theorem ZoneEdit.of_frame {s t : State} (h : t = { s with host := t.host, zone := t.zone })
    (port : t.host.port = s.host.port) : ZoneEdit [] s t := by
  rw [h] at port ⊢
  exact ⟨rfl, rfl, rfl, rfl, rfl, rfl, rfl, rfl, ⟨fun _ _ => rfl⟩, port⟩

theorem ZoneEdit.only {s t : State} (h : ZoneEdit [] s t) (fault : t.fault = s.fault) :
    t = { s with host := t.host, zone := t.zone } ∧ OnlyReports s t :=
  ⟨State.ext_fields h.pending h.config h.guide h.motion rfl h.seat h.cue h.clip h.voice fault rfl,
    HostLink.eq_of_port h.port⟩

/-! #### F10 (R91) -/

theorem linkFault_false {z : ZoneUnit} (up : z.link ≠ .lost) (none_ : ∀ r ∈ z.table, r.failed = false) :
    z.linkFault = false := by
  simpa [ZoneUnit.linkFault, up] using none_

/-- The test of F10 after a command of the zone unit leaves the other blocks alone, but for a stop. -/
theorem testF10_blocks {cs : List FaultCode} {s a : State} (edit : ZoneEdit cs s a) (d : FaultDetail) :
    testF10 d a =
        { s with
          host := (testF10 d a).host, zone := (testF10 d a).zone, fault := (testF10 d a).fault
          motion := (testF10 d a).motion, seat := (testF10 d a).seat, voice := (testF10 d a).voice } ∧
      OnlyReports s (testF10 d a) := by
  obtain ⟨-, -, guide, cue⟩ := testF10_stopsOnly d a
  obtain ⟨pending, config, -, clip, port⟩ := testF10_frame d a
  exact ⟨State.ext_fields (pending.trans edit.pending) (config.trans edit.config) (guide.trans edit.guide) rfl rfl
    rfl (cue.trans edit.cue) (clip.trans edit.clip) rfl rfl rfl, HostLink.eq_of_port (port.trans edit.port)⟩

/-- The test of F10 ends a command of the zone unit: it acts on motion only where F10 becomes active (R91). -/
theorem testF10_zoneOnly {cs : List FaultCode} (only : cs ⊆ [.f10, .f15]) (keeps : FaultCode.f10 ∉ cs) {s a : State}
    (edit : ZoneEdit cs s a) (clear : (∀ r ∈ s.zone.table, r.failed = false) → a.zone.linkFault = false)
    (d : FaultDetail) : ZoneOnly s (testF10 d a) := by
  obtain ⟨blocks, reports⟩ := testF10_blocks edit d
  have f10 : a.faultActive .f10 = s.faultActive .f10 := by
    rw [State.faultActive, edit.faults.kept _ keeps]
    rfl
  refine ⟨blocks, reports, fun quiet => ?_⟩
  have calm : testF10 d a = a ∨ testF10 d a = endCond .f10 a := by
    unfold testF10
    split
    next broken =>
      rcases quiet with active | none_
      · rw [if_pos (f10.trans active)]
        exact .inl rfl
      · exact absurd broken (by rw [clear none_]; decide)
    next => exact .inr rfl
  have ends : (testF10 d a).motion = a.motion ∧ (testF10 d a).seat = a.seat ∧ (testF10 d a).voice = a.voice := by
    rcases calm with same | ended
    · rw [same]
      exact ⟨rfl, rfl, rfl⟩
    · rw [ended]
      simp
  refine ⟨ends.1.trans edit.motion, ends.2.1.trans edit.seat, ends.2.2.trans edit.voice, fun c out out' => ?_⟩
  rw [testF10_rec_other out, edit.faults.kept c]
  intro mem
  have either := only mem
  rw [List.mem_cons, List.mem_singleton] at either
  exact either.elim out out'

/-! #### The reservation table (R70) -/

theorem entryOf_some {s : State} {z : Nat} {r : Reservation} (h : EntryOf s z r) : s.entryOf z = some r := by
  obtain ⟨mem, zone, unique⟩ := h
  unfold State.entryOf
  cases found : s.zone.table.find? fun r => r.zone == z with
  | none => exact absurd (List.find?_eq_none.1 found r mem) (by simp [zone])
  | some x =>
    rw [unique x (List.mem_of_find?_eq_some found) (by simpa using List.find?_some found)]

theorem entryOf_none {s : State} {z : Nat} : s.entryOf z = none ↔ ∀ r ∈ s.zone.table, r.zone ≠ z := by
  simp [State.entryOf]

theorem entryOf_mem {s : State} {z : Nat} {r : Reservation} (h : s.entryOf z = some r) :
    r ∈ s.zone.table ∧ r.zone = z :=
  ⟨List.mem_of_find?_eq_some h, by simpa using List.find?_some h⟩

/-- The only entry of a zone is replaced. -/
theorem map_withEntry {table : List Reservation} {z : Nat} {r : Reservation}
    (unique : ∀ x ∈ table, x.zone = z → x = r) (f : Reservation → Reservation) :
    (table.map fun x => if x.zone = z then f x else x) = withEntry table z (f r) := by
  refine List.map_congr_left fun x mem => ?_
  by_cases zone : x.zone = z
  · rw [if_pos zone, if_pos zone, unique x mem zone]
  · rw [if_neg zone, if_neg zone]

theorem modEntry_eq {s : State} {z : Nat} {r : Reservation} (h : EntryOf s z r) (f : Reservation → Reservation) :
    modEntry z f s = s.setZone { s.zone with table := withEntry s.zone.table z (f r) } := by
  obtain ⟨-, -, unique⟩ := h
  unfold modEntry
  rw [map_withEntry unique]

/-- The entry of a zone after it was replaced. -/
theorem entryOf_withEntry {s t : State} {z : Nat} {r x : Reservation} (h : EntryOf s z r) (zone : x.zone = z)
    (table : t.zone.table = withEntry s.zone.table z x) : EntryOf t z x := by
  obtain ⟨mem, same, -⟩ := h
  refine ⟨?_, zone, fun y mem' zone' => ?_⟩
  · rw [table]
    exact List.mem_map.2 ⟨r, mem, if_pos same⟩
  · rw [table] at mem'
    obtain ⟨w, -, rfl⟩ := List.mem_map.1 mem'
    by_cases hit : w.zone = z
    · rw [if_pos hit]
    · rw [if_neg hit] at zone'
      exact absurd zone' hit

theorem withEntry_withEntry {table : List Reservation} {z : Nat} {x y : Reservation} (zone : x.zone = z) :
    withEntry (withEntry table z x) z y = withEntry table z y := by
  unfold withEntry
  rw [List.map_map]
  refine List.map_congr_left fun w _ => ?_
  by_cases hit : w.zone = z
  · simp [hit, zone]
  · simp [hit]

/-- No entry is failed where none was and the new one is not. -/
theorem withEntry_failed {table : List Reservation} {z : Nat} {x : Reservation} (fresh : x.failed = false)
    (none_ : ∀ r ∈ table, r.failed = false) : ∀ r ∈ withEntry table z x, r.failed = false := by
  intro r mem
  obtain ⟨w, mem', rfl⟩ := List.mem_map.1 mem
  split
  · exact fresh
  · exact none_ w mem'

/-! #### The mailbox (R72, R85) -/

/-- A frame of an entry joins the mailbox where none of that entry waits and there is room. -/
theorem mailPut_room {s : State} {z : Nat} (room : MailRoom s z) (f : MailFrame) :
    mailPut ⟨some z, f⟩ s.zone.mailbox = some (s.zone.mailbox ++ [⟨some z, f⟩]) := by
  obtain ⟨few, none_⟩ := room
  have absent : s.zone.mailbox.any (fun x => decide (x.owner = some z)) = false := by
    simpa using none_
  simp [mailPut, absent, Config.mailboxMax, few]

/-- An entry with room in the mailbox puts its frame there and starts its timer (R72, R85). -/
theorem sendEntry_eq {s : State} {z : Nat} {r : Reservation} (h : EntryOf s z r) (link : s.zone.link ≠ .stopped)
    (room : MailRoom s z) :
    sendEntry z s =
      s.setZone
        { s.zone with
          mailbox := s.zone.mailbox ++ [⟨some z, r.frame⟩]
          table :=
            withEntry s.zone.table z
              { r with outstanding := true, sendDue := false, timer := r.sendTimer s.lim.claimTimer } } := by
  obtain ⟨-, -, unique⟩ := id h
  unfold sendEntry
  rw [entryOf_some h]
  dsimp only
  rw [if_neg link, mailPut_room room]
  dsimp only [modEntry]
  rw [State.setZone_zone, map_withEntry unique (fun r =>
    { r with outstanding := true, sendDue := false, timer := r.sendTimer s.lim.claimTimer })]
  rfl

end Sys2Proof.Claims

namespace Sys2Proof.Claims

open Sys2Proof.Machine

/-! ### The wayside link (R89 to R91) -/

/-- The zone unit as any valid frame leaves it (R90). -/
def linked (s : State) : State :=
  s.setZone
    { s.zone with link := .up, linkTimer := .running s.lim.linkTimeout, sinceFrame := some 0 }

theorem validFrame_eq (s : State) :
    validFrame s = if s.zone.link = .up then linked s else testF10 .link (linked s) := rfl

theorem validFrame_zone (s : State) : (validFrame s).zone = (linked s).zone := by
  rw [validFrame_eq]
  split
  · rfl
  · simp

/-- A frame that is heard again changes nothing more. -/
theorem validFrame_again (s : State) : validFrame (validFrame s) = validFrame s := by
  have zone := validFrame_zone s
  have lim : (validFrame s).lim = s.lim := by simp [State.lim]
  generalize validFrame s = t at *
  have up : t.zone.link = .up := by rw [zone]; rfl
  rw [validFrame_up up, heard, lim]
  exact State.ext_fields rfl rfl rfl rfl (by rw [zone]; rfl) rfl rfl rfl rfl rfl rfl

/-- Hearing a frame reaches the zone unit, and F10 where the link was not UP (R90, R91). -/
theorem validFrame_zoneOnly (s : State) : ZoneOnly s (validFrame s) := by
  have clear : (∀ r ∈ s.zone.table, r.failed = false) → (linked s).zone.linkFault = false :=
    linkFault_false (z := (linked s).zone) (by simp [linked])
  rw [validFrame_eq]
  split
  · exact ⟨rfl, rfl, fun _ => ⟨rfl, rfl, rfl, fun _ _ _ => rfl⟩⟩
  · exact testF10_zoneOnly (by decide) (by decide) (.of_setZone ..) clear .link

theorem validFrame_f10 {s : State} (down : s.zone.link ≠ .up) (none_ : ∀ r ∈ s.zone.table, r.failed = false) :
    (validFrame s).faultActive .f10 = false := by
  have clear : (linked s).zone.linkFault = false := linkFault_false (by simp [linked]) none_
  rw [validFrame_eq, if_neg down, testF10, if_neg (by simp [clear])]
  simp [State.faultActive]

theorem addressed_iff {s : State} {dest : Byte} : s.addressed dest = true ↔ Addressed s dest := by
  simp [State.addressed, Addressed]

/-- A wayside frame is heard first, as LINK CHECK is (R89, R90). -/
theorem onWayside_heard (s : State) (dest : Byte) (act : State → State) :
    (s.zone.link = .stopped ∨ ¬ Addressed s dest → onWayside dest s act = .next s) ∧
      (s.zone.link ≠ .stopped → Addressed s dest →
        ∃ t, exec (.linkCheck dest) s = .next t ∧ onWayside dest s act = onWayside dest t act ∧
          t.zone =
            { s.zone with
              link := .up, linkTimer := .running s.lim.linkTimeout, sinceFrame := some 0 } ∧
          (s.zone.link = .up → t = { s with zone := heard s }) ∧
          ZoneOnly s t ∧
          (s.zone.link ≠ .up → (∀ r ∈ s.zone.table, r.failed = false) → t.faultActive .f10 = false)) := by
  refine ⟨fun deaf => ?_, fun started addressed => ?_⟩
  · unfold onWayside
    split
    · rfl
    next started =>
      rcases deaf with stopped | other
      · exact absurd stopped started
      · rw [if_neg (by rwa [addressed_iff])]
  · have zone := validFrame_zone s
    have taken : exec (.linkCheck dest) s = .next (validFrame s) :=
      onWayside_taken started (addressed_of addressed)
    have again := validFrame_again s
    have config : (validFrame s).config = s.config := by simp
    refine ⟨validFrame s, taken, ?_, zone, fun up => validFrame_up up, validFrame_zoneOnly s,
      fun down none_ => validFrame_f10 down none_⟩
    have started' : (validFrame s).zone.link ≠ .stopped := by rw [zone]; simp [linked]
    have addressed' : Addressed (validFrame s) dest := by
      unfold Addressed State.lim
      rw [config]
      exact addressed
    rw [onWayside_taken started (addressed_of addressed), onWayside_taken started' (addressed_of addressed'),
      again]

/-- Settles O40: every wayside frame is carried out by `onWayside`. -/
theorem waysideFrameIsHeardFirst : Obligations.WaysideFrameIsHeardFirst := by
  intro s c dest zone tag reason value cueId mem
  simp only [List.mem_cons, List.not_mem_nil, or_false] at mem
  rcases mem with rfl | rfl | rfl | rfl | rfl | rfl | rfl | rfl | rfl | rfl | rfl | rfl <;>
    exact onWayside_heard s dest _

/-! ### The link timer and frames of no effect (R89 to R91, R216) -/

theorem exec_linkTimeout {s : State} {n : Nat} (started : s.zone.link ≠ .stopped)
    (running : s.zone.linkTimer = .running n) :
    exec .linkTimeout s =
      .next
        (testF10 .link
          (reportZone .linkLost (s.setZone { s.zone with link := .lost, linkTimer := .expired }))) := by
  show execLinkTimeout s = _
  rw [execLinkTimeout, if_pos ⟨started, by rw [running]; rfl⟩]

/-- F10 where a failed entry or a lost link makes it active (R91). -/
theorem testF10_raises {s : State} (broken : s.zone.linkFault = true) (d : FaultDetail) :
    (testF10 d s).faultActive .f10 = true ∧
      (s.faultActive .f10 = false →
        testF10 d s = raiseAs .f10 s.f10Class d s ∧
          ((testF10 d s).faultRec .f10).cls = s.f10Class) ∧
      (s.faultActive .f10 = true → testF10 d s = s) := by
  unfold testF10
  rw [if_pos broken]
  cases active : s.faultActive .f10 with
  | true =>
    rw [if_pos rfl]
    exact ⟨active, fun h => absurd h (by simp), fun _ => rfl⟩
  | false =>
    rw [if_neg (by simp)]
    have raised : (raiseAs .f10 s.f10Class d s).faultRec .f10 = (s.faultRec .f10).raised s.f10Class d := by
      cases hold : s.f10Class with
      | stop => simp [raiseAs, actByClass, endMomentary_rec, stopCause_rec, FaultCode.momentary]
      | hold => rw [raiseAs_quiet (by decide)]; simp [FaultCode.momentary, FaultRecord.raised]
      | note => rw [raiseAs_quiet (by decide)]; simp [FaultCode.momentary, FaultRecord.raised]
    refine ⟨?_, fun _ => ⟨rfl, ?_⟩, fun h => absurd h (by simp)⟩
    · rw [State.faultActive, raised]
      rfl
    · rw [raised]
      rfl

/-- The lost link, before F10 is tested. -/
def lostLink (s : State) : State :=
  reportZone .linkLost (s.setZone { s.zone with link := .lost, linkTimer := .expired })

theorem lostLink_edit (s : State) : ZoneEdit [] s (lostLink s) :=
  .of_frame rfl (by simp [lostLink])

/-- The frame check passes a frame as it is built, when its kind has no row of its own (R216). -/
theorem waysideCheck_bytes (dest src : Byte) {kind : Byte} {body : List Byte} (few : body.length ≤ 48)
    (fits : waysideFits kind body = true) :
    waysideCheck (waysideBytes dest src kind body) = some ⟨dest, kind, body⟩ := by
  have length : (BitVec.ofNat 8 body.length).toNat = body.length := by
    rw [BitVec.toNat_ofNat]
    omega
  unfold waysideBytes waysideCheck
  simp only [List.cons_append, List.nil_append, length]
  rw [List.take_left', List.drop_left']
  · simp [be16, few, fits]
  · rfl
  · rfl

/-- A kind that the zone controller does not send has no row that a body could fail to fit (R216). -/
theorem waysideFits_unrouted {kind : Byte} (body : List Byte)
    (unrouted : kind ∉
      ([0x01, 0x02, 0x03, 0x04, 0x05, 0x06, 0x08, 0x09, 0x0A, 0x0B, 0x0C, 0x0D, 0x21, 0x22, 0x23,
        0x24, 0x25, 0x26, 0x27] : List Byte)) :
    waysideFits kind body = true ∧ routedKinds.contains kind = false := by
  refine ⟨?_, ?_⟩
  · have numbers : kind.toNat ∉
        [1, 2, 3, 4, 5, 6, 8, 9, 10, 11, 12, 13, 0x21, 0x22, 0x23, 0x24, 0x25, 0x26, 0x27] := fun mem =>
      unrouted (by simpa using List.mem_map_of_mem (f := BitVec.ofNat 8) mem)
    simp only [List.mem_cons, not_or] at numbers
    unfold waysideFits
    split <;> simp_all
  · have sub : routedKinds ⊆
        ([0x01, 0x02, 0x03, 0x04, 0x05, 0x06, 0x08, 0x09, 0x0A, 0x0B, 0x0C, 0x0D, 0x21, 0x22, 0x23,
          0x24, 0x25, 0x26, 0x27] : List Byte) := by decide
    simpa using fun mem => unrouted (sub mem)

/-- Settles O41: the timer's expiry by what F10 does, the frames by the frame check. -/
theorem linkTimeoutAndBadFrames : Obligations.LinkTimeoutAndBadFrames := by
  refine ⟨fun s n started running => ?_, fun s frame started bad => ?_,
    fun s dest src kind body up addressed few unrouted => ?_⟩
  · have edit := lostLink_edit s
    have broken : (lostLink s).zone.linkFault = true := by simp [lostLink, ZoneUnit.linkFault]
    have mstate : (lostLink s).mstate = s.mstate := by simp [lostLink]
    have f10 : (lostLink s).faultActive .f10 = s.faultActive .f10 := by
      rw [State.faultActive, edit.faults.kept _ (by decide)]
      rfl
    obtain ⟨active, raises, -⟩ := testF10_raises broken .link
    obtain ⟨blocks, reports⟩ := testF10_blocks edit .link
    refine ⟨_, exec_linkTimeout started running, ?_, active, blocks, reports, fun c out => ?_, fun rests => ?_,
      fun inactive drives => ?_⟩
    · exact (testF10_frame .link (lostLink s)).2.2.1.trans rfl
    · exact (testF10_rec_other out .link (lostLink s)).trans (edit.faults.kept c (by simp))
    · have quiet : (lostLink s).f10Class = .hold := by
        rw [State.f10Class, mstate]
        rcases rests with h | h | h | h <;> rw [h]
      obtain ⟨-, motion, -⟩ := testF10_quiet quiet .link
      exact motion.trans edit.motion
    · have stop : (lostLink s).f10Class = .stop := by
        rw [State.f10Class, mstate]
        rcases drives with h | h <;> rw [h]
      obtain ⟨raised, cls⟩ := raises (f10.trans inactive)
      obtain ⟨state, -⟩ := raiseAs_motion (c := .f10) (by decide) .stop .link (lostLink s)
      refine ⟨?_, cls.trans stop⟩
      change (testF10 .link (lostLink s)).mstate = _
      rw [raised, stop, state, if_pos rfl, mstate]
      rcases drives with h | h <;> rw [h] <;> rfl
  · show execWaysideFrameDiscard frame s = _
    rw [execWaysideFrameDiscard, if_neg started, bad]
    rfl
  · obtain ⟨fits, routed⟩ := waysideFits_unrouted body unrouted
    show execWaysideUnknownKind _ s = _
    rw [execWaysideUnknownKind, waysideCheck_bytes dest src few fits]
    dsimp only
    rw [routed, if_neg (by simp), onWayside_taken (by simp [up]) (addressed_of addressed), validFrame_up up]
    rfl

end Sys2Proof.Claims

namespace Sys2Proof.Claims

open Sys2Proof.Machine

/-! ### GRANT and DENY (R73 to R75, R78) -/

theorem postState_eq (k : StateKind) (i : Nat) (s : State) :
    postState k i s = s.setHost (postState k i s).host := by
  unfold postState
  split <;> rfl

theorem ZoneEdit.report {cs : List FaultCode} {s t : State} (h : ZoneEdit cs s t) (k : StateKind) (i : Nat) :
    ZoneEdit cs s (postState k i t) := by
  have same : ZoneEdit [] t (postState k i t) := .of_frame (by rw [postState_eq]; rfl) (by simp)
  exact (h.trans same).mono (by simp)

theorem ZoneEdit.event {cs : List FaultCode} {s t : State} (h : ZoneEdit cs s t) (r : ZoneReport) :
    ZoneEdit cs s (reportZone r t) := by
  have same : ZoneEdit [] t (reportZone r t) := .of_frame rfl (by simp)
  exact (h.trans same).mono (by simp)

theorem ZoneEdit.setZone {cs : List FaultCode} {s t : State} (h : ZoneEdit cs s t) (z : ZoneUnit) :
    ZoneEdit cs s (t.setZone z) := (h.trans (.of_setZone z t)).mono (by simp)

/-- The state a wayside command acts on, on a link that is UP (R90). -/
abbrev hearing (s : State) : State := s.setZone (heard s)

theorem EntryOf.hearing {s : State} {z : Nat} {r : Reservation} (h : EntryOf s z r) : EntryOf (hearing s) z r := h

theorem exec_wayside {s : State} {dest : Byte} {act : State → State} (up : s.zone.link = .up)
    (addressed : Addressed s dest) : onWayside dest s act = .next (act (hearing s)) := by
  rw [onWayside_taken (by simp [up]) (addressed_of addressed), validFrame_up up]

/-- The zone unit with one entry replaced, reported, and the hold point and F10 worked out anew. -/
theorem replaced_zoneOnly {s a : State} {z : Nat} {x : Reservation} {cs : List FaultCode}
    (only : cs ⊆ [.f10, .f15]) (keeps : FaultCode.f10 ∉ cs) (up : s.zone.link = .up)
    (edit : ZoneEdit cs (hearing s) a)
    (zone : a.zone = { heard s with table := withEntry s.zone.table z x }) (fresh : x.failed = false) :
    ZoneOnly s (testF10 .link (recomputeHold a)) ∧
      (testF10 .link (recomputeHold a)).zone =
        { heard s with
          hold := (testF10 .link (recomputeHold a)).zone.hold, table := withEntry s.zone.table z x } := by
  have edit' : ZoneEdit cs s (recomputeHold a) :=
    (((ZoneEdit.of_setZone (heard s) s).trans edit).setZone _).mono (by simp)
  refine ⟨testF10_zoneOnly only keeps edit' (fun none_ => ?_) .link, ?_⟩
  · refine linkFault_false ?_ ?_
    · simp [recomputeHold, zone, heard, up]
    · rw [show (recomputeHold a).zone.table = withEntry s.zone.table z x by simp [recomputeHold, zone]]
      exact withEntry_failed fresh none_
  · rw [(testF10_frame .link (recomputeHold a)).2.2.1]
    simp [recomputeHold, zone]

theorem answers_iff {r : Reservation} {tag : Byte} :
    r.answers tag = true ↔ r.state = .requested ∧ r.outstanding = true ∧ r.tag = tag := by
  simp [Reservation.answers, and_assoc]

/-- A GRANT that gives back what it grants (R78). -/
theorem returnRelease_eq {s : State} (link : s.zone.link ≠ .stopped) (room : s.zone.mailbox.length < 4) (z : Nat)
    (tag : Byte) :
    returnRelease z tag s =
      s.setZone { s.zone with mailbox := s.zone.mailbox ++ [⟨none, .returnRelease z tag⟩] } := by
  unfold returnRelease
  rw [if_neg link]
  simp [mailPut, Config.mailboxMax, room]

/-- The entry after a matching DENY BUSY (R74). -/
theorem denied_eq (r : Reservation) (limit base : Nat) :
    r.denied limit base =
      (let k := min 31 (r.deny + 1)
       let answered : Reservation :=
         { r with outstanding := false, failed := false, sendDue := false, timer := .stopped }
       if k < limit then { answered with deny := k, timer := .backoff (base * 2 ^ min (k - 1) 5) }
       else { answered with deny := k, state := .waiting }) := by
  unfold Reservation.denied
  dsimp only [bump, backoffMs]
  by_cases below : min 31 (r.deny + 1) < limit
  · rw [if_pos below, if_neg (Nat.not_le.2 below)]
  · rw [if_neg below, if_pos (Nat.not_lt.1 below)]

theorem grant_matches {s : State} {z : Nat} {tag : Byte} {r : Reservation} (h : EntryOf s z r)
    (answers : r.answers tag = true) :
    takeGrant z tag s = testF10 .link (recomputeHold (reportTable (modEntry z Reservation.granted s))) := by
  unfold takeGrant
  rw [entryOf_some h]
  dsimp only
  rw [if_pos answers]

theorem deny_matches {s : State} {z : Nat} {tag : Byte} {r : Reservation} (h : EntryOf s z r)
    (answers : r.answers tag = true) :
    takeDeny z tag .busy s = denyBusy r s ∧ takeDeny z tag .closed s = denyClosed r s := by
  unfold takeDeny
  rw [entryOf_some h]
  dsimp only
  rw [if_pos answers, if_pos answers]
  exact ⟨rfl, rfl⟩

/-- An answer that matches no outstanding claim finds none in the zone's entry. -/
theorem entryOf_unanswered {s : State} {z : Nat} {tag : Byte}
    (none_ : ∀ r ∈ s.zone.table, r.zone = z → ¬(r.state = .requested ∧ r.outstanding = true ∧ r.tag = tag)) :
    ∀ r, s.entryOf z = some r → r.answers tag = false := by
  intro r found
  obtain ⟨mem, zone⟩ := entryOf_mem found
  exact Bool.eq_false_iff.2 fun answers => none_ r mem zone (answers_iff.1 answers)

theorem deny_stale {s : State} {z : Nat} {tag : Byte}
    (none_ : ∀ r, s.entryOf z = some r → r.answers tag = false) (reason : DenyReason) :
    takeDeny z tag reason s = countStale s := by
  unfold takeDeny
  cases found : s.entryOf z with
  | none => rfl
  | some r =>
    dsimp only
    rw [none_ r found, if_neg (by simp)]

theorem grant_returned {s : State} {z : Nat} {tag : Byte}
    (entries : ∀ r, s.entryOf z = some r → r.answers tag = false ∧ r.state ≠ .held ∧ r.state ≠ .releasing) :
    takeGrant z tag s = reportZone (.unexpectedGrant z tag) (returnRelease z tag s) := by
  unfold takeGrant
  cases found : s.entryOf z with
  | none => rfl
  | some r =>
    obtain ⟨answers, held, releasing⟩ := entries r found
    dsimp only
    rw [answers, if_neg (by simp), if_neg held, if_neg releasing]

/-- The DENY BUSY of an entry, before the hold point and F10 are worked out (R74). -/
theorem denyBusy_eq (r : Reservation) (s : State) :
    ∃ a, denyBusy r s = testF10 .link (recomputeHold a) ∧
      ZoneEdit [] (modEntry r.zone (fun _ => r.denied s.lim.denyLimit s.lim.backoffBase) s) a ∧
      a.zone = (modEntry r.zone (fun _ => r.denied s.lim.denyLimit s.lim.backoffBase) s).zone := by
  refine ⟨_, rfl, ?_, ?_⟩
  · split
    · exact ((ZoneEdit.refl _).report ..).event _
    · exact .refl _
  · split
    · simp
    · rfl

/-- The DENY CLOSED of an entry, before the hold point and F10 are worked out (R75). -/
theorem denyClosed_eq (r : Reservation) (s : State) :
    ∃ a, denyClosed r s = testF10 .link (recomputeHold a) ∧
      ZoneEdit [.f15] (modEntry r.zone Reservation.closedBy s) a ∧
      a.zone = (modEntry r.zone Reservation.closedBy s).zone ∧
      a.faultRec .f15 = { (s.faultRec .f15).raised FaultCode.f15.cls (.zone r.zone) with active := !FaultCode.momentary .f15 } := by
  let b := reportZone (.closed r.zone) (reportTable (modEntry r.zone Reservation.closedBy s))
  have raises : ZoneEdit [.f15] b (raiseFault .f15 (.zone r.zone) b) := by
    rw [raiseFault_quiet _ _ _ (by decide)]
    exact ⟨by simp, by simp, by simp, by simp, by simp, by simp, by simp, by simp,
      ⟨fun c out => by rw [raiseQuiet_rec, if_neg (by simpa using out)]⟩, by simp⟩
  refine ⟨_, rfl, ((((ZoneEdit.refl _).report ..).event _).trans raises).mono (by simp), ?_, ?_⟩
  · simp
  · have same : b.faultRec .f15 = s.faultRec .f15 := State.faultRec_congr (by simp [b]) _
    rw [raiseFault_rec (by decide), if_pos rfl, same]

/-- Settles O42: the entry replaced by each matching answer, and what the others leave. -/
theorem grantAndDenyAnswerClaims : Obligations.GrantAndDenyAnswerClaims := by
  refine ⟨fun s dest zone tag up addressed => ?_, fun s dest zone tag up addressed => ?_⟩
  · have taken : exec (.grant dest zone tag) s = .next (takeGrant zone.toNat tag (hearing s)) :=
      exec_wayside up addressed
    refine ⟨fun r entry requested outstanding same => ?_, fun r entry held => ?_, fun r entry releasing => ?_,
      fun others room => ?_⟩
    · have answers : r.answers tag = true := answers_iff.2 ⟨requested, outstanding, same⟩
      rw [taken, grant_matches entry.hearing answers, modEntry_eq entry.hearing]
      obtain ⟨only, whole⟩ := replaced_zoneOnly (by decide) (by decide) up
        (((ZoneEdit.refl (hearing s)).setZone _).report .zoneStatus 0) (by simp; rfl) (x := r.granted) rfl
      exact ⟨_, rfl, only, whole⟩
    · rw [taken, takeGrant, entryOf_some entry.hearing]
      dsimp only
      rw [if_neg (by simp [answers_iff, held]), if_pos held]
      rfl
    · rw [taken, takeGrant, entryOf_some entry.hearing]
      dsimp only
      rw [if_neg (by simp [answers_iff, releasing]), if_neg (by simp [releasing]), if_pos releasing]
      exact ⟨_, rfl, rfl, HostLink.eq_of_port (by simp)⟩
    · have entries : ∀ r, (hearing s).entryOf zone.toNat = some r →
          r.answers tag = false ∧ r.state ≠ .held ∧ r.state ≠ .releasing := by
        intro r found
        obtain ⟨mem, same⟩ := entryOf_mem found
        rcases others r mem same with h | h | ⟨h, none_⟩
        · simp [Reservation.answers, h]
        · simp [Reservation.answers, h]
        · refine ⟨Bool.eq_false_iff.2 fun answers => ?_, by simp [h], by simp [h]⟩
          obtain ⟨-, outstanding, tag'⟩ := answers_iff.1 answers
          rcases none_ with n | n
          · simp [outstanding] at n
          · exact n tag'
      rw [taken, grant_returned entries, returnRelease_eq (s := hearing s) (show s.zone.link ≠ .stopped by simp [up]) room]
      exact ⟨_, rfl, rfl, HostLink.eq_of_port (by simp)⟩
  · refine ⟨fun r entry requested outstanding same => ?_, fun reason none_ => ?_⟩
    · have answers : r.answers tag = true := answers_iff.2 ⟨requested, outstanding, same⟩
      have entry' : EntryOf (hearing s) r.zone r := by
        obtain ⟨-, same, -⟩ := id entry
        rw [same]
        exact entry
      obtain ⟨-, zone', -⟩ := id entry
      refine ⟨?_, ?_⟩
      · have taken : exec (.deny dest zone tag .busy) s = .next (takeDeny zone.toNat tag .busy (hearing s)) :=
          exec_wayside up addressed
        obtain ⟨a, busy, edit, same⟩ := denyBusy_eq r (hearing s)
        rw [modEntry_eq entry'] at edit same
        rw [taken, (deny_matches entry.hearing answers).1, ← denied_eq]
        dsimp only
        rw [busy]
        have fresh : (r.denied s.lim.denyLimit s.lim.backoffBase).failed = false := by
          unfold Reservation.denied
          dsimp only
          split <;> rfl
        obtain ⟨only, whole⟩ := replaced_zoneOnly (z := zone.toNat) (cs := []) (by decide) (by decide) up
          ((((ZoneEdit.refl (hearing s)).setZone _).trans edit).mono (by simp)) (by rw [same, zone']; rfl) fresh
        exact ⟨_, rfl, only, whole⟩
      · have taken : exec (.deny dest zone tag .closed) s =
            .next (takeDeny zone.toNat tag .closed (hearing s)) := exec_wayside up addressed
        obtain ⟨a, closed, edit, same, f15⟩ := denyClosed_eq r (hearing s)
        rw [modEntry_eq entry'] at edit same
        rw [taken, (deny_matches entry.hearing answers).2, closed]
        obtain ⟨only, whole⟩ := replaced_zoneOnly (z := zone.toNat) (cs := [.f15]) (x := r.closedBy) (by decide)
          (by decide) up ((((ZoneEdit.refl (hearing s)).setZone _).trans edit).mono (by simp))
          (by rw [same, zone']; rfl) rfl
        have recs : (testF10 .link (recomputeHold a)).faultRec .f15 = a.faultRec .f15 :=
          testF10_rec_other (by decide) ..
        refine ⟨_, rfl, only, whole, ?_, ?_⟩
        · rw [recs, f15]
          rfl
        · rw [recs, f15]
          rfl
    · have taken : exec (.deny dest zone tag reason) s =
          .next (takeDeny zone.toNat tag reason (hearing s)) := exec_wayside up addressed
      rw [taken, deny_stale (entryOf_unanswered (s := hearing s) none_)]
      rfl

end Sys2Proof.Claims

namespace Sys2Proof.Claims

open Sys2Proof.Machine

/-! ### ZONE FREE and RECLAIM (R76) -/

/-- The entry of a zone that claims afresh (R76). -/
def freshClaim (z : Nat) (tag : Byte) (ms : Nat) : Reservation :=
  { zone := z, state := .requested, tag := tag, deny := 0, resend := 0, timer := .claim ms, outstanding := true
    failed := false, sendDue := false }

/-- The zone unit with an entry that claims afresh. -/
def claimsAfresh (s : State) (z : Nat) : ZoneUnit :=
  { s.zone with
    tagCtr := s.zone.tagCtr + 1
    mailbox := s.zone.mailbox ++ [⟨some z, .claim z s.zone.tagCtr⟩]
    table := withEntry s.zone.table z (freshClaim z s.zone.tagCtr s.lim.claimTimer) }

theorem sendEntry_claims {s : State} {z : Nat} {r : Reservation} (h : EntryOf s z r) (link : s.zone.link ≠ .stopped)
    (room : MailRoom s z) (requested : r.state = .requested) :
    sendEntry z s =
      s.setZone
        { s.zone with
          mailbox := s.zone.mailbox ++ [⟨some z, .claim z r.tag⟩]
          table :=
            withEntry s.zone.table z
              { r with outstanding := true, sendDue := false, timer := .claim s.lim.claimTimer } } := by
  obtain ⟨-, zone, -⟩ := id h
  rw [sendEntry_eq h link room]
  simp only [Reservation.frame, Reservation.sendTimer, requested, zone]

theorem restartClaim_eq {s : State} {z : Nat} {r : Reservation} (h : EntryOf s z r) (link : s.zone.link ≠ .stopped)
    (room : MailRoom s z) :
    (restartClaim z s).zone = claimsAfresh s z ∧ ZoneEdit [] s (restartClaim z s) := by
  obtain ⟨-, zone, -⟩ := id h
  have entry : EntryOf (nextTag s) z r := h
  let x : Reservation :=
    { r with
      state := .requested, tag := s.zone.tagCtr, deny := 0, resend := 0, timer := .stopped
      outstanding := false, failed := false, sendDue := false }
  let b := (nextTag s).setZone { (nextTag s).zone with table := withEntry s.zone.table z x }
  have whole : restartClaim z s =
      sendEntry z (if (s.entryOf z).map (·.state) = some .requested then b else reportTable b) := by
    unfold restartClaim
    dsimp only
    rw [modEntry_eq entry]
    rfl
  have edit : ZoneEdit [] s (if (s.entryOf z).map (·.state) = some .requested then b else reportTable b) := by
    have changed : ZoneEdit [] s b := .of_frame rfl rfl
    split
    · exact changed
    · exact changed.report ..
  have same : (if (s.entryOf z).map (·.state) = some .requested then b else reportTable b).zone = b.zone := by
    split
    · rfl
    · simp
  rw [whole]
  generalize (if (s.entryOf z).map (·.state) = some .requested then b else reportTable b) = c at *
  have entry' : EntryOf c z x := entryOf_withEntry h zone (by rw [same]; rfl)
  have link' : c.zone.link ≠ .stopped := by rw [same]; exact link
  have room' : MailRoom c z := by
    unfold MailRoom
    rw [same]
    exact room
  have lim : c.lim = s.lim := by rw [State.lim, edit.config]; rfl
  rw [sendEntry_claims entry' link' room' rfl]
  refine ⟨?_, edit.setZone _⟩
  rw [State.setZone_zone, same, lim]
  have table : withEntry b.zone.table z { x with outstanding := true, sendDue := false, timer := .claim s.lim.claimTimer } =
      withEntry s.zone.table z (freshClaim z s.zone.tagCtr s.lim.claimTimer) := by
    show withEntry (withEntry s.zone.table z x) z _ = _
    rw [withEntry_withEntry (show x.zone = z from zone), freshClaim, ← zone]
  rw [table]
  rfl

theorem restartable_of {r : Reservation}
    (h : r.state = .waiting ∨ r.state = .closed ∨ r.state = .requested ∧ r.failed = true) :
    r.restartable = true ∧ r.state ≠ .releasing := by
  rcases h with state | state | ⟨state, failed⟩
  · simp [Reservation.restartable, state]
  · simp [Reservation.restartable, state]
  · simp [Reservation.restartable, state, failed]

theorem takeFree_restarts {s : State} {z : Nat} {r : Reservation} (h : EntryOf s z r)
    (restarts : r.restartable = true) :
    takeFree z s = testF10 .link (recomputeHold (restartClaim z s)) := by
  unfold takeFree
  rw [entryOf_some h]
  dsimp only
  rw [if_pos restarts]

/-- The only element that passes a test is the list that passes it. -/
theorem filter_eq_singleton {α : Type} [DecidableEq α] {p : α → Bool} {l : List α} {a : α} (nodup : l.Nodup)
    (mem : a ∈ l) (only : ∀ x ∈ l, p x = true ↔ x = a) : l.filter p = [a] := by
  have same : l.filter p = l.filter (· == a) :=
    List.filter_congr fun x hx => by rw [Bool.eq_iff_iff, only x hx, beq_iff_eq]
  rw [same, List.filter_beq, List.count_eq_one_of_mem nodup mem]
  rfl

theorem reclaim_one {s : State} {z : Nat} {r : Reservation} (h : EntryOf s z r)
    (ready : s.config.record.state = .ready) (restarts : r.restartable = true) (claims : r.state ≠ .releasing)
    (range : z ≤ 127) (nodup : s.zone.table.Nodup) :
    reclaim z s =
      (testF10 .link (recomputeHold (restartClaim z s)), ⟨.done, .done, .number 1⟩) := by
  obtain ⟨mem, zone, unique⟩ := h
  have named : (s.zone.table.filter fun r => (decide (z = 255) || decide (r.zone = z)) && r.reclaimable) = [r] := by
    refine filter_eq_singleton nodup mem fun x hx => ?_
    have notAll : ¬ z = 255 := by omega
    simp only [notAll, decide_false, Bool.false_or, Bool.and_eq_true, decide_eq_true_iff]
    refine ⟨fun both => unique x hx both.1, fun same => ?_⟩
    rw [same]
    exact ⟨zone, by simp [Reservation.reclaimable, restarts]⟩
  unfold reclaim
  rw [if_neg (by simp [State.isReady, ready]), if_neg (by omega)]
  dsimp only
  rw [named]
  simp only [List.isEmpty_cons, Bool.false_eq_true, if_false, List.foldl_cons, List.foldl_nil, List.length_singleton]
  rw [reclaimOne, if_neg claims, zone]

/-- Settles O43: both commands restart the entry's claim. -/
theorem zoneFreeAndReclaimClaimAfresh : Obligations.ZoneFreeAndReclaimClaimAfresh := by
  intro s z r entry room afresh
  obtain ⟨restarts, claims⟩ := restartable_of afresh
  refine ⟨fun dest zone up addressed same => ?_, fun f rest taken ready link range nodup => ?_⟩
  · subst same
    have taken : exec (.zoneFree dest zone) s = .next (takeFree zone.toNat (hearing s)) :=
      exec_wayside up addressed
    have link : (hearing s).zone.link ≠ .stopped := show s.zone.link ≠ .stopped by simp [up]
    obtain ⟨after, edit⟩ := restartClaim_eq entry.hearing link (show MailRoom (hearing s) _ from room)
    rw [taken, takeFree_restarts entry.hearing restarts]
    refine ⟨_, rfl, ?_, ?_⟩
    · have edit' : ZoneEdit [] s (recomputeHold (restartClaim zone.toNat (hearing s))) :=
        ((ZoneEdit.of_setZone _ s).trans edit).setZone _
      refine testF10_zoneOnly (by decide) (by decide) edit' (fun none_ => ?_) .link
      have zone' : (recomputeHold (restartClaim zone.toNat (hearing s))).zone.table =
          withEntry s.zone.table zone.toNat (freshClaim zone.toNat s.zone.tagCtr s.lim.claimTimer) := by
        simp only [recomputeHold, State.setZone_zone, after]
        rfl
      refine linkFault_false ?_ ?_
      · simp only [recomputeHold, State.setZone_zone, after]
        show s.zone.link ≠ .lost
        simp [up]
      · rw [zone']
        exact withEntry_failed rfl none_
    · rw [(testF10_frame ..).2.2.1]
      simp only [recomputeHold, State.setZone_zone, after]
      rfl
  · let s0 := frameTaken s rest
    have entry0 : EntryOf s0 z r := entry
    have judged : reclaim z s0 = _ := reclaim_one entry0 ready restarts claims range nodup
    obtain ⟨after, edit⟩ := restartClaim_eq entry0 link (show MailRoom s0 z from room)
    have edit' : ZoneEdit [] s0 (recomputeHold (restartClaim z s0)) := edit.setZone _
    obtain ⟨blocks, -⟩ := testF10_blocks edit' .link
    have port : (testF10 .link (recomputeHold (restartClaim z s0))).host.port = s0.host.port :=
      ((testF10_frame ..).2.2.2.2).trans edit'.port
    have zone' : (testF10 .link (recomputeHold (restartClaim z s0))).zone =
        { claimsAfresh s0 z with hold := (testF10 .link (recomputeHold (restartClaim z s0))).zone.hold } := by
      rw [(testF10_frame ..).2.2.1]
      simp only [recomputeHold, State.setZone_zone, after]
    generalize testF10 .link (recomputeHold (restartClaim z s0)) = w at *
    obtain ⟨h, step, answered⟩ := onRequest_does taken judged port
    refine ⟨w.setHost h, step, answered, ?_, zone'⟩
    rw [blocks]
    rfl

end Sys2Proof.Claims

namespace Sys2Proof.Claims

open Sys2Proof.Machine

/-! ### Answers to a REVOKE (R82, R86, R130) -/

/-- The cue unit with a SCENE CUE's entry closed and its outcome NOT SENT (R130, R141; log 42). -/
def notSent (c : CueUnit) (f : SceneFrame) : CueUnit :=
  { c with
    acks := c.acks.filter fun e => !(e.cueId = f.cueId && e.tag = f.tag)
    cues := c.cues.map fun x => if x.id = f.cueId then { x with last := some (.notSent, c.lap) } else x }

theorem cueNotSent_eq (f : SceneFrame) (sends : Option Nat) (s : State) :
    ∃ h, cueNotSent f sends s = (s.setCue (notSent s.cue f)).setHost h ∧ h.port = s.host.port := by
  refine ⟨(cueNotSent f sends s).host, rfl, by simp⟩

theorem displaceScene_none {a : LongFrame} {l : List LongFrame} (none_ : ∀ f, LongFrame.scene f ∉ l) :
    displaceScene a l = none := by
  induction l with
  | nil => rfl
  | cons x l ih =>
    have rest := ih fun f mem => none_ f (List.mem_cons_of_mem _ mem)
    cases x with
    | scene f => exact absurd (List.mem_cons_self ..) (none_ f)
    | beacon b => simp [displaceScene, rest]
    | revokeAccept z => simp [displaceScene, rest]
    | revokeRefuse z w => simp [displaceScene, rest]

theorem displaceScene_append {a : LongFrame} {f : SceneFrame} {l r : List LongFrame}
    (none_ : ∀ g, LongFrame.scene g ∉ l) : displaceScene a (l ++ .scene f :: r) = some (f, l ++ a :: r) := by
  induction l with
  | nil => rfl
  | cons x l ih =>
    have rest := ih fun g mem => none_ g (List.mem_cons_of_mem _ mem)
    cases x with
    | scene g => exact absurd (List.mem_cons_self ..) (none_ g)
    | beacon b => simp [displaceScene, rest]
    | revokeAccept z => simp [displaceScene, rest]
    | revokeRefuse z w => simp [displaceScene, rest]

/-- What an answer does to the long queue (R86). -/
theorem putAnswer_spec (a : LongFrame) (s : State) :
    putAnswer a s =
        { s with
          host := (putAnswer a s).host, cue := (putAnswer a s).cue
          zone :=
            { s.zone with
              long := (putAnswer a s).zone.long
              counts := { s.zone.counts with longDrops := (putAnswer a s).zone.counts.longDrops } } } ∧
      AnswerPut s (putAnswer a s) a := by
  have full : 16 ≤ s.zone.long.length → putAnswer a s =
      match displaceScene a s.zone.long.reverse with
      | some (f, rest) => cueNotSent f (some f.sends) (s.setZone { s.zone with long := rest.reverse })
      | none =>
        s.setZone
          { s.zone with counts := { s.zone.counts with longDrops := bump 255 s.zone.counts.longDrops } } :=
    fun many => if_neg (Nat.not_lt.2 many)
  have room : s.zone.long.length < 16 → putAnswer a s = s.setZone { s.zone with long := s.zone.long ++ [a] } :=
    fun few => if_pos few
  refine ⟨?_, fun few => ?_, fun many none_ => ?_, fun before f after many split none_ => ?_⟩
  · by_cases few : s.zone.long.length < 16
    · rw [room few]
      rfl
    · rw [full (Nat.not_lt.1 few)]
      split
      next f rest _ =>
        obtain ⟨h, eq, -⟩ := cueNotSent_eq f (some f.sends) (s.setZone { s.zone with long := rest.reverse })
        rw [eq]
        rfl
      next => rfl
  · rw [room few]
    exact ⟨rfl, rfl, rfl⟩
  · rw [full many, displaceScene_none (by simpa using none_)]
    exact ⟨rfl, rfl, rfl⟩
  · have reversed : s.zone.long.reverse = after.reverse ++ .scene f :: before.reverse := by
      rw [split]
      simp
    rw [full many, reversed, displaceScene_append (by simpa using none_)]
    obtain ⟨h, eq, -⟩ := cueNotSent_eq f (some f.sends)
      (s.setZone { s.zone with long := (after.reverse ++ a :: before.reverse).reverse })
    dsimp only
    rw [eq]
    exact ⟨by simp, rfl, rfl⟩

/-- A REVOKE is answered on a frame that was heard, and nothing else changes. -/
theorem answers_only (s : State) (a : LongFrame) (r : ZoneReport) :
    OnlyAnswers s (reportZone r (putAnswer a (hearing s))) a := by
  obtain ⟨whole, put⟩ := putAnswer_spec a (hearing s)
  have port : (putAnswer a (hearing s)).host.port = s.host.port := by simp
  refine ⟨?_, HostLink.eq_of_port (by simp), ?_⟩
  · generalize putAnswer a (hearing s) = t at *
    rw [whole]
    rfl
  · exact put

theorem revoke_unknown {s : State} {z : Nat} (none_ : ∀ r ∈ s.zone.table, r.zone ≠ z) :
    takeRevoke z s = refuseRevoke z .unknown s := by
  rw [takeRevoke, entryOf_none.2 none_]

theorem revoke_releasing {s : State} {z : Nat} {r : Reservation} (h : EntryOf s z r) (releasing : r.state = .releasing) :
    takeRevoke z s = acceptRevoke z s := by
  rw [takeRevoke, entryOf_some h]
  dsimp only
  rw [if_pos releasing]

/-- A revoked zone that the vehicle may reach before it stops (R82). -/
theorem revoke_committed {s : State} {z : Nat} {r : Reservation} (h : EntryOf s z r) (other : r.state ≠ .releasing)
    (near : s.frontZone = some z ∨ s.revokeDist z < (max 1 s.stopDist : Nat)) :
    takeRevoke z s = refuseRevoke z .committed s := by
  rw [takeRevoke, entryOf_some h]
  dsimp only
  rw [if_neg other]
  split
  · rfl
  next far =>
    rw [if_pos]
    rcases near with front | near
    · exact absurd (.inl front) far
    · have ahead : ¬ s.revokeDist z ≤ 0 := fun behind => far (.inr behind)
      omega

theorem revoke_accepted {s : State} {z : Nat} {r : Reservation} (h : EntryOf s z r) (other : r.state ≠ .releasing)
    (front : s.frontZone ≠ some z) (far : (max 1 s.stopDist : Nat) ≤ s.revokeDist z) :
    takeRevoke z s = acceptRevoke z (carryOutRevoke z s) := by
  rw [takeRevoke, entryOf_some h]
  dsimp only
  rw [if_neg other, if_neg, if_neg]
  · omega
  · rintro (h | h)
    · exact front h
    · omega

/-! ### Entries that leave the table (R80, R83) -/

theorem removeEntry_zone (z : Nat) (s : State) :
    (removeEntry z s).zone =
      { s.zone with
        table := s.zone.table.filter fun r => r.zone ≠ z
        mailbox := s.zone.mailbox.map fun m => if m.owner = some z then { m with owner := none } else m } := by
  have same : (fun r : Reservation => r.zone != z) = fun r : Reservation => decide (r.zone ≠ z) := by
    funext r
    rw [bne, Bool.eq_iff_iff]
    simp
  rw [removeEntry, same]
  simp

theorem removeEntry_edit (z : Nat) (s : State) : ZoneEdit [] s (removeEntry z s) :=
  ((ZoneEdit.refl s).setZone _).report ..

/-- A RELEASED with the tag of a RELEASING entry removes it (R80). -/
theorem released_matches {s : State} {z : Nat} {tag : Byte} {r : Reservation} (h : EntryOf s z r)
    (releasing : r.state = .releasing) (same : r.tag = tag) :
    takeReleased z tag s = testF10 .link (recomputeHold (removeEntry z s)) := by
  rw [takeReleased, entryOf_some h]
  dsimp only
  rw [if_pos ⟨releasing, same⟩]

theorem released_stale {s : State} {z : Nat} {tag : Byte}
    (none_ : ∀ r ∈ s.zone.table, r.zone = z → ¬(r.state = .releasing ∧ r.tag = tag)) :
    takeReleased z tag s = countStale s := by
  unfold takeReleased
  cases found : s.entryOf z with
  | none => rfl
  | some r =>
    obtain ⟨mem, zone⟩ := entryOf_mem found
    dsimp only
    rw [if_neg (none_ r mem zone)]

end Sys2Proof.Claims

namespace Sys2Proof.Claims

open Sys2Proof.Machine

/-! ### A REVOKE carried out (R83) -/

/-- The long queue, the link and the other blocks are as they were. -/
structure LongStays (s t : State) : Prop where
  edit : ZoneEdit [] s t
  link : t.zone.link = s.zone.link
  long : t.zone.long = s.zone.long
  drops : t.zone.counts.longDrops = s.zone.counts.longDrops

theorem LongStays.refl (s : State) : LongStays s s := ⟨.refl s, rfl, rfl, rfl⟩

theorem LongStays.trans {s t u : State} (h : LongStays s t) (k : LongStays t u) : LongStays s u :=
  ⟨h.edit.trans k.edit, k.link.trans h.link, k.long.trans h.long, k.drops.trans h.drops⟩

/-- The zones of the table are as they were too, and no entry is failed where none was. -/
structure TableStays (s t : State) : Prop extends LongStays s t where
  zones : t.zone.table.map (·.zone) = s.zone.table.map (·.zone)
  failed : (∀ r ∈ s.zone.table, r.failed = false) → ∀ r ∈ t.zone.table, r.failed = false

theorem TableStays.refl (s : State) : TableStays s s := ⟨.refl s, rfl, id⟩

theorem TableStays.trans {s t u : State} (h : TableStays s t) (k : TableStays t u) : TableStays s u :=
  ⟨h.toLongStays.trans k.toLongStays, k.zones.trans h.zones, fun x => k.failed (h.failed x)⟩

theorem TableStays.foldl {α : Type} {f : State → α → State} (each : ∀ s a, TableStays s (f s a)) (l : List α)
    (s : State) : TableStays s (l.foldl f s) := by
  induction l generalizing s with
  | nil => exact .refl s
  | cons a l ih => exact (each s a).trans (ih (f s a))

theorem modEntry_stays {z : Nat} {f : Reservation → Reservation} (zone : ∀ r, (f r).zone = r.zone)
    (failed : ∀ r, (f r).failed = r.failed) (s : State) : TableStays s (modEntry z f s) := by
  refine ⟨⟨.of_setZone .., rfl, rfl, rfl⟩, ?_, fun none_ r mem => ?_⟩
  · show (s.zone.table.map _).map _ = _
    rw [List.map_map]
    refine List.map_congr_left fun r _ => ?_
    show (if r.zone = z then f r else r).zone = r.zone
    split
    · exact zone r
    · rfl
  · obtain ⟨x, mem', rfl⟩ := List.mem_map.1 mem
    split
    · rw [failed, none_ x mem']
    · exact none_ x mem'

theorem sendEntry_stays (z : Nat) (s : State) : TableStays s (sendEntry z s) := by
  unfold sendEntry
  split
  · exact .refl s
  · split
    next box _ =>
      have put : TableStays s (s.setZone { s.zone with mailbox := box }) :=
        ⟨⟨.of_setZone _ s, rfl, rfl, rfl⟩, rfl, id⟩
      exact put.trans (modEntry_stays (by intro r; rfl) (by intro r; rfl) _)
    next => exact modEntry_stays (by intro r; rfl) (by intro r; rfl) s

theorem serveSendDue_stays (s : State) : TableStays s (serveSendDue s) :=
  .foldl (fun s z => by
    unfold serveEntry
    split
    · exact sendEntry_stays z s
    · exact .refl s) _ _

theorem returnRelease_stays (z : Nat) (tag : Byte) (s : State) : TableStays s (returnRelease z tag s) := by
  unfold returnRelease
  split
  · exact ⟨⟨.of_setZone .., rfl, rfl, rfl⟩, rfl, id⟩
  · exact ⟨⟨((ZoneEdit.refl s).setZone _).event _, rfl, rfl, rfl⟩, rfl, id⟩

/-- Entries leave the table with their zones. -/
theorem removeEntries_spec (l : List Reservation) (s : State) :
    LongStays s (l.foldl (fun st r => removeEntry r.zone st) s) ∧
      (l.foldl (fun st r => removeEntry r.zone st) s).zone.table =
        s.zone.table.filter fun x => !(l.map (·.zone)).contains x.zone := by
  induction l generalizing s with
  | nil => exact ⟨.refl s, by simp⟩
  | cons r l ih =>
    obtain ⟨stays, table⟩ := ih (removeEntry r.zone s)
    have zone := removeEntry_zone r.zone s
    have first : LongStays s (removeEntry r.zone s) :=
      ⟨removeEntry_edit .., by rw [zone], by rw [zone], by rw [zone]⟩
    refine ⟨first.trans stays, ?_⟩
    rw [List.foldl_cons, table, zone]
    dsimp only
    rw [List.filter_filter]
    refine List.filter_congr fun x _ => ?_
    simp only [List.map_cons, List.contains_cons, Bool.not_or]
    rw [Bool.and_comm]
    congr 1
    rw [Bool.eq_iff_iff]
    simp

/-- The zone unit with the revoked entries gone, before F10 is tested. -/
def carried (z : Nat) (s : State) : State :=
  let gone := s.revokedZones z
  recomputeHold
    ((gone.filter Reservation.givesBack).foldl (fun st r => returnRelease r.zone r.tag st)
      (serveSendDue (gone.foldl (fun st r => removeEntry r.zone st) (withdrawMail (gone.map (·.zone)) s))))

theorem carryOutRevoke_eq (z : Nat) (s : State) : carryOutRevoke z s = testF10 .link (carried z s) := rfl

theorem carried_spec {s : State} (nodup : (s.zone.table.map (·.zone)).Nodup) (z : Nat) :
    LongStays s (carried z s) ∧
      (carried z s).zone.table.map (·.zone) =
        (s.zone.table.filter fun x =>
          !(decide (x.zone = z) || (decide (x.state = .held) && decide (s.entryDist z < s.entryDist x.zone)))).map
            (·.zone) ∧
      ((∀ r ∈ s.zone.table, r.failed = false) → ∀ r ∈ (carried z s).zone.table, r.failed = false) := by
  unfold carried
  dsimp only
  have withdrawn : LongStays s (withdrawMail ((s.revokedZones z).map (·.zone)) s) := ⟨.of_setZone .., rfl, rfl, rfl⟩
  have table0 : (withdrawMail ((s.revokedZones z).map (·.zone)) s).zone.table = s.zone.table := rfl
  generalize withdrawMail ((s.revokedZones z).map (·.zone)) s = a at *
  obtain ⟨removed, table1⟩ := removeEntries_spec (s.revokedZones z) a
  generalize (s.revokedZones z).foldl (fun st r => removeEntry r.zone st) a = b at *
  have served := serveSendDue_stays b
  generalize serveSendDue b = c at *
  have returned : TableStays c (((s.revokedZones z).filter Reservation.givesBack).foldl
      (fun st r => returnRelease r.zone r.tag st) c) :=
    .foldl (f := fun st (r : Reservation) => returnRelease r.zone r.tag st)
      (fun s r => returnRelease_stays r.zone r.tag s) _ _
  generalize ((s.revokedZones z).filter Reservation.givesBack).foldl
      (fun st r => returnRelease r.zone r.tag st) c = d at *
  have stays := served.trans returned
  have last : LongStays d (recomputeHold d) := ⟨.of_setZone .., rfl, rfl, rfl⟩
  have table2 : (recomputeHold d).zone.table = d.zone.table := rfl
  rw [table0] at table1
  refine ⟨((withdrawn.trans removed).trans stays.toLongStays).trans last, ?_, fun none_ => ?_⟩
  · rw [table2, stays.zones, table1]
    congr 1
    refine List.filter_congr fun x mem => ?_
    congr 1
    rw [Bool.eq_iff_iff, List.contains_iff_mem, List.mem_map]
    refine ⟨?_, fun gone => ⟨x, List.mem_filter.2 ⟨mem, gone⟩, rfl⟩⟩
    rintro ⟨y, mem', same⟩
    obtain ⟨mem', gone⟩ := List.mem_filter.1 mem'
    rw [← List.inj_on_of_nodup_map nodup mem' mem same]
    exact gone
  · rw [table2]
    refine stays.failed fun r mem => ?_
    rw [table1] at mem
    exact none_ r (List.mem_filter.1 mem).1

/-- An answer that is put after the revoke was carried out is put as before it. -/
theorem AnswerPut.of_stays {s x t : State} {a : LongFrame} (long : x.zone.long = s.zone.long)
    (drops : x.zone.counts.longDrops = s.zone.counts.longDrops) (cue : x.cue = s.cue) (h : AnswerPut x t a) :
    AnswerPut s t a := by
  unfold AnswerPut at h ⊢
  rw [long, drops, cue] at h
  exact h

/-- Settles O44: entries removed by RELEASED and by an accepted REVOKE, and the answers of the others. -/
theorem releasedAndRevokeRemoveEntries : Obligations.ReleasedAndRevokeRemoveEntries := by
  intro s dest zone tag up addressed
  have takenReleased : exec (.released dest zone tag) s = .next (takeReleased zone.toNat tag (hearing s)) :=
    exec_wayside up addressed
  have takenRevoke : exec (.revoke dest zone) s = .next (takeRevoke zone.toNat (hearing s)) :=
    exec_wayside up addressed
  refine ⟨fun r entry releasing same => ?_, fun none_ => ?_, fun none_ => ?_, fun r entry releasing => ?_,
    fun r entry other => ⟨fun near => ?_, fun nodup front far => ?_⟩⟩
  · rw [takenReleased, released_matches entry.hearing releasing same]
    have removed := removeEntry_zone zone.toNat (hearing s)
    have edit : ZoneEdit [] s (recomputeHold (removeEntry zone.toNat (hearing s))) :=
      ((ZoneEdit.of_setZone _ s).trans (removeEntry_edit zone.toNat (hearing s))).setZone _
    have zone' : (testF10 .link (recomputeHold (removeEntry zone.toNat (hearing s)))).zone =
        (recomputeHold (removeEntry zone.toNat (hearing s))).zone := (testF10_frame ..).2.2.1
    have hold : (recomputeHold (removeEntry zone.toNat (hearing s))).zone =
        { (removeEntry zone.toNat (hearing s)).zone with
          hold := (removeEntry zone.toNat (hearing s)).holdPointNow } := rfl
    refine ⟨_, rfl, testF10_zoneOnly (by decide) (by decide) edit (fun none_ => ?_) .link, ?_, ?_⟩
    · rw [hold, removed]
      refine linkFault_false (show s.zone.link ≠ .lost by simp [up]) fun x mem => ?_
      exact none_ x (List.mem_filter.1 mem).1
    · rw [zone', hold, removed]
      rfl
    · rw [zone', hold, removed]
      dsimp only
      rw [List.map_map]
      refine List.map_congr_left fun m _ => ?_
      show (if m.owner = some zone.toNat then { m with owner := none } else m).frame = m.frame
      split <;> rfl
  · rw [takenReleased, released_stale (s := hearing s) none_]
    rfl
  · rw [takenRevoke, revoke_unknown (s := hearing s) none_]
    exact ⟨_, rfl, answers_only ..⟩
  · rw [takenRevoke, revoke_releasing entry.hearing releasing]
    exact ⟨_, rfl, answers_only ..⟩
  · rw [takenRevoke, revoke_committed entry.hearing other near]
    exact ⟨_, rfl, answers_only ..⟩
  · rw [takenRevoke, revoke_accepted entry.hearing other front far, carryOutRevoke_eq]
    obtain ⟨stays, zones, failed⟩ := carried_spec (s := hearing s) nodup zone.toNat
    have edit : ZoneEdit [] s (carried zone.toNat (hearing s)) := (ZoneEdit.of_setZone _ s).trans stays.edit
    have only := testF10_zoneOnly (by decide) (by decide) edit (fun none_ =>
      linkFault_false (by rw [stays.link]; exact show s.zone.link ≠ .lost by simp [up]) (failed none_)) .link
    have zone' : (testF10 .link (carried zone.toNat (hearing s))).zone = (carried zone.toNat (hearing s)).zone :=
      (testF10_frame ..).2.2.1
    have cue' : (testF10 .link (carried zone.toNat (hearing s))).cue = s.cue :=
      (testF10_stopsOnly ..).2.2.2.trans edit.cue
    generalize carried zone.toNat (hearing s) = x at *
    generalize testF10 .link x = y at *
    obtain ⟨whole, put⟩ := putAnswer_spec (.revokeAccept zone.toNat) y
    obtain ⟨blocks, reports, rest⟩ := only
    have port : (putAnswer (.revokeAccept zone.toNat) y).host.port = y.host.port := by simp
    have fault : (acceptRevoke zone.toNat y).fault = y.fault := by simp [acceptRevoke]
    refine ⟨_, rfl, ⟨?_, ?_, fun quiet => ?_⟩, ?_, ?_⟩
    · have same : acceptRevoke zone.toNat y =
          { y with
            host := (acceptRevoke zone.toNat y).host, cue := (acceptRevoke zone.toNat y).cue
            zone := (acceptRevoke zone.toNat y).zone } := by
        exact State.ext_fields (by simp [acceptRevoke]) (by simp [acceptRevoke]) (by simp [acceptRevoke])
          (by simp [acceptRevoke]) rfl (by simp [acceptRevoke]) rfl (by simp [acceptRevoke])
          (by simp [acceptRevoke]) fault rfl
      generalize acceptRevoke zone.toNat y = w at *
      rw [same, blocks]
    · refine HostLink.eq_of_port ?_
      have port' : y.host.port = s.host.port := by
        rw [show y.host = { s.host with reports := y.host.reports, dropped := y.host.dropped } from reports]
        rfl
      show (acceptRevoke zone.toNat y).host.port = s.host.port
      rw [← port', ← port]
      simp [acceptRevoke]
    · obtain ⟨motion, seat, voice, recs⟩ := rest quiet
      have frame : (acceptRevoke zone.toNat y).motion = y.motion ∧ (acceptRevoke zone.toNat y).seat = y.seat ∧
          (acceptRevoke zone.toNat y).voice = y.voice := by simp [acceptRevoke]
      exact ⟨frame.1.trans motion, frame.2.1.trans seat, frame.2.2.trans voice, fun c out out' =>
        (State.faultRec_congr (s := { acceptRevoke zone.toNat y with cue := s.cue }) fault c).trans (recs c out out')⟩
    · refine AnswerPut.of_stays ?_ ?_ cue' put
      · rw [zone', stays.long]
        rfl
      · rw [zone', stays.drops]
        rfl
    · have table : (acceptRevoke zone.toNat y).zone.table = y.zone.table := by
        show (putAnswer (.revokeAccept zone.toNat) y).zone.table = _
        rw [whole]
      refine ((congrArg (List.map (·.zone)) (table.trans (congrArg ZoneUnit.table zone'))).trans zones).trans ?_
      rfl

end Sys2Proof.Claims

namespace Sys2Proof.Claims

open Sys2Proof.Machine

/-! ### Entry timers (R74, R77, R80) -/

/-- An entry's frame is sent again, with a change of its record before (R74, R77, R80). -/
theorem sendAgain {s : State} {z : Nat} {r : Reservation} {f : Reservation → Reservation} (h : EntryOf s z r)
    (zone : (f r).zone = r.zone) (link : s.zone.link ≠ .stopped) (room : MailRoom s z) :
    sendEntry z (modEntry z f s) =
      s.setZone
        { s.zone with
          mailbox := s.zone.mailbox ++ [⟨some z, (f r).frame⟩]
          table :=
            withEntry s.zone.table z
              { f r with
                outstanding := true, sendDue := false, timer := (f r).sendTimer s.lim.claimTimer } } := by
  obtain ⟨-, same, -⟩ := id h
  rw [modEntry_eq h]
  have entry : EntryOf (s.setZone { s.zone with table := withEntry s.zone.table z (f r) }) z (f r) :=
    entryOf_withEntry h (zone.trans same) rfl
  rw [sendEntry_eq entry link room]
  simp only [State.setZone_zone, State.setZone_setZone]
  rw [withEntry_withEntry (zone.trans same)]
  rfl

/-- A claim or release timer that runs out (R77, R80). -/
theorem expire_again {s : State} {z : Nat} {r : Reservation} (h : EntryOf s z r) (link : s.zone.link ≠ .stopped)
    (few : r.resend < 3) (room : MailRoom s z) (timeout : ZoneReport) :
    expire r timeout s =
      s.setZone
        { s.zone with
          mailbox := s.zone.mailbox ++ [⟨some z, r.frame⟩]
          table :=
            withEntry s.zone.table z
              { r with
                resend := r.resend + 1, timer := r.sendTimer s.lim.claimTimer, outstanding := true
                sendDue := false } } := by
  obtain ⟨-, rfl, -⟩ := id h
  rw [expire, if_pos few, sendAgain h rfl link room]
  rfl

theorem expire_fails {s : State} {z : Nat} {r : Reservation} (h : EntryOf s z r) (many : 3 ≤ r.resend)
    (timeout : ZoneReport) :
    ∃ t, Host.Outcome.next (expire r timeout s) = (.next t : Out) ∧
      t =
        { s with
          host := t.host, zone := t.zone, fault := t.fault, motion := t.motion, seat := t.seat
          voice := t.voice } ∧
      OnlyReports s t ∧ t.faultActive .f10 = true ∧
      t.zone = { s.zone with table := withEntry s.zone.table z { r with failed := true, timer := .stopped } } ∧
      (∀ c, c ≠ .f10 → t.faultRec c = s.faultRec c) := by
  obtain ⟨mem, rfl, -⟩ := id h
  have whole : expire r timeout s =
      testF10 (.zone r.zone)
        (reportZone timeout
          (s.setZone { s.zone with table := withEntry s.zone.table r.zone { r with failed := true, timer := .stopped } })) := by
    rw [expire, if_neg (Nat.not_lt.2 many), modEntry_eq h]
  have edit : ZoneEdit [] s
      (reportZone timeout
        (s.setZone { s.zone with table := withEntry s.zone.table r.zone { r with failed := true, timer := .stopped } })) :=
    ((ZoneEdit.refl s).setZone _).event _
  have zone : (reportZone timeout
      (s.setZone { s.zone with table := withEntry s.zone.table r.zone { r with failed := true, timer := .stopped } })).zone =
      { s.zone with table := withEntry s.zone.table r.zone { r with failed := true, timer := .stopped } } := rfl
  rw [whole]
  generalize reportZone timeout
      (s.setZone { s.zone with table := withEntry s.zone.table r.zone { r with failed := true, timer := .stopped } }) = a at *
  have broken : a.zone.linkFault = true := by
    rw [zone, ZoneUnit.linkFault, Bool.or_eq_true]
    exact .inr (List.any_eq_true.2 ⟨_, List.mem_map.2 ⟨r, mem, if_pos rfl⟩, rfl⟩)
  obtain ⟨blocks, reports⟩ := testF10_blocks edit (.zone r.zone)
  refine ⟨_, rfl, blocks, reports, (testF10_raises broken _).1, ?_, fun c out => ?_⟩
  · rw [(testF10_frame ..).2.2.1, zone]
  · rw [testF10_rec_other out, edit.faults.kept c (by simp)]

theorem exec_claimTimer {s : State} {z : Nat} {r : Reservation} {n : Nat} (h : EntryOf s z r)
    (link : s.zone.link ≠ .stopped) (timer : r.timer = .claim n) :
    exec (.claimTimerExpiry z) s = .next (expire r (.claimTimeout z) s) := by
  have running : s.claimRunning z = some r := by
    rw [State.claimRunning, if_neg link, entryOf_some h]
    dsimp only
    rw [timer]
  show execClaimTimerExpiry z s = _
  rw [execClaimTimerExpiry, running]

theorem exec_releaseTimer {s : State} {z : Nat} {r : Reservation} {n : Nat} (h : EntryOf s z r)
    (link : s.zone.link ≠ .stopped) (timer : r.timer = .release n) :
    exec (.releaseTimerExpiry z) s = .next (expire r (.releaseTimeout z) s) := by
  have running : s.releaseRunning z = some r := by
    rw [State.releaseRunning, if_neg link, entryOf_some h]
    dsimp only
    rw [timer]
  show execReleaseTimerExpiry z s = _
  rw [execReleaseTimerExpiry, running]

theorem exec_backoffTimer {s : State} {z : Nat} {r : Reservation} {n : Nat} (h : EntryOf s z r)
    (link : s.zone.link ≠ .stopped) (timer : r.timer = .backoff n) :
    exec (.backoffTimerExpiry z) s = .next (reclaimAfterBackoff z s) := by
  have running : s.backoffRunning z = some r := by
    rw [State.backoffRunning, if_neg link, entryOf_some h]
    dsimp only
    rw [timer]
  show execBackoffTimerExpiry z s = _
  rw [execBackoffTimerExpiry, running]

/-- Settles O46: the timers' expiries by what becomes of the entry. -/
theorem entryTimersResendThenFail : Obligations.EntryTimersResendThenFail := by
  intro s z r n entry link
  obtain ⟨-, rfl, -⟩ := id entry
  refine ⟨fun requested timer => ⟨fun few room => ?_, fun many => ?_⟩,
    fun releasing timer => ⟨fun few room => ?_, fun many => ?_⟩, fun requested timer room => ?_⟩
  · rw [exec_claimTimer entry link timer, expire_again entry link few room]
    simp only [Reservation.frame, Reservation.sendTimer, requested]
    rfl
  · rw [exec_claimTimer entry link timer]
    exact expire_fails entry many _
  · rw [exec_releaseTimer entry link timer, expire_again entry link few room]
    simp only [Reservation.frame, Reservation.sendTimer, releasing]
    rfl
  · rw [exec_releaseTimer entry link timer]
    exact expire_fails entry many _
  · rw [exec_backoffTimer entry link timer]
    unfold reclaimAfterBackoff
    have entry' : EntryOf (nextTag s) r.zone r := entry
    dsimp only
    rw [sendAgain entry' (by rfl) link (show MailRoom (nextTag s) r.zone from room)]
    simp only [Reservation.frame, Reservation.sendTimer, requested]
    rfl

end Sys2Proof.Claims

namespace Sys2Proof.Claims

open Sys2Proof.Machine

/-! ### The transmitter (R87, R88) -/

/-- With no send due a free place in the mailbox is taken by nothing (R85). -/
theorem serveSendDue_none {s : State} (none : ∀ r ∈ s.zone.table, r.sendDue = false) : serveSendDue s = s := by
  have empty : s.zone.table.filter (·.sendDue) = [] :=
    List.filter_eq_nil_iff.2 fun r mem due => Bool.false_ne_true ((none r mem).symm.trans due)
  rw [serveSendDue, empty]
  rfl

theorem transmit_mail {s : State} {m : Mail} {ms : List Mail} (box : s.zone.mailbox = m :: ms)
    (turn : s.zone.long = [] ∨ s.zone.tookMailbox = false) : transmit s = takeMail m ms s := by
  unfold transmit
  rw [box]
  cases h : s.zone.long with
  | nil => rfl
  | cons x xs =>
    have last : s.zone.tookMailbox = false := turn.resolve_left (by simp [h])
    dsimp only
    rw [last]
    rfl

theorem transmit_long {s : State} {x : LongFrame} {xs : List LongFrame} (long : s.zone.long = x :: xs)
    (turn : s.zone.mailbox = [] ∨ s.zone.tookMailbox = true) : transmit s = takeLong x xs s := by
  unfold transmit
  rw [long]
  cases h : s.zone.mailbox with
  | nil => rfl
  | cons m ms =>
    have last : s.zone.tookMailbox = true := turn.resolve_left (by simp [h])
    dsimp only
    rw [last]
    rfl

/-- A SCENE CUE that leaves starts its acknowledgement timer (R88, R130). -/
theorem cueSent_acks (f : SceneFrame) (s : State) :
    cueSent f s =
      s.setCue
        { s.cue with
          acks :=
            s.cue.acks.map fun e =>
              if e.cueId = f.cueId ∧ e.tag = f.tag ∧ e.stage = .queued then { e with stage := .waiting 300 }
              else e } := by
  have test (e : AckEntry) :
      (e.isFor f.cueId f.tag && decide (e.stage = .queued)) = true ↔
        e.cueId = f.cueId ∧ e.tag = f.tag ∧ e.stage = .queued := by
    simp [AckEntry.isFor, and_assoc]
  simp only [cueSent, test, Config.ackMs]

theorem exec_transmit {s : State} (link : s.zone.link ≠ .stopped) (free : s.zone.sending = none) :
    exec .waysideTransmit s = .next (transmit s) := if_pos ⟨link, free⟩

theorem isBeacon_iff {x : LongFrame} : x.isBeacon = true ↔ ∃ b, x = .beacon b := by
  cases x <;> simp [LongFrame.isBeacon]

theorem no_beacon {l : List LongFrame} (none : ∀ b, LongFrame.beacon b ∉ l) {x : LongFrame} (mem : x ∈ l) :
    x.isBeacon = false := by
  cases h : x.isBeacon with
  | false => rfl
  | true =>
    obtain ⟨b, rfl⟩ := isBeacon_iff.1 h
    exact absurd mem (none b)

/-- With none waiting a BEACON joins the long queue, or is skipped and counted (R87). -/
theorem putBeacon_joins {s : State} (none : ∀ b, LongFrame.beacon b ∉ s.zone.long) (b : BeaconFrame) :
    putBeacon b s =
      if s.zone.long.length < 16 then s.setZone { s.zone with long := s.zone.long ++ [.beacon b] }
      else
        s.setZone
          { s.zone with
            counts := { s.zone.counts with beaconSkips := min 65535 (s.zone.counts.beaconSkips + 1) } } := by
  have clear : ¬ s.zone.long.any LongFrame.isBeacon = true := fun some => by
    obtain ⟨x, mem, yes⟩ := List.any_eq_true.1 some
    exact Bool.false_ne_true ((no_beacon none mem).symm.trans yes)
  rw [putBeacon, if_neg clear]
  rfl

/-- A list without a BEACON is left by the exchange of R87. -/
theorem exchange_none {l : List LongFrame} (none : ∀ b, LongFrame.beacon b ∉ l) (b : BeaconFrame) :
    (l.map fun f => if f.isBeacon then .beacon b else f) = l :=
  (List.map_congr_left fun x mem => by rw [no_beacon none mem]; rfl).trans (List.map_id l)

/-- A BEACON takes the place of the one that waits (R87). -/
theorem putBeacon_exchanges {s : State} {front back : List LongFrame} {old : BeaconFrame}
    (long : s.zone.long = front ++ [.beacon old] ++ back) (none : ∀ b, LongFrame.beacon b ∉ front ++ back)
    (b : BeaconFrame) :
    putBeacon b s = s.setZone { s.zone with long := front ++ [.beacon b] ++ back } := by
  have waits : s.zone.long.any LongFrame.isBeacon = true :=
    List.any_eq_true.2 ⟨.beacon old, by simp [long], rfl⟩
  rw [putBeacon, if_pos waits, long, List.map_append, List.map_append,
    exchange_none fun x mem => none x (List.mem_append_left _ mem),
    exchange_none fun x mem => none x (List.mem_append_right _ mem)]
  rfl

theorem exec_beacon {s : State} (link : s.zone.link ≠ .stopped) :
    exec .beacon s =
      .next
        ((putBeacon s.beaconNow s).setZone
          { (putBeacon s.beaconNow s).zone with beaconTimer := .running Config.beaconMs }) :=
  if_neg link

/-- Settles O47: the turn by the queues that hold a frame, the BEACON by whether one waits. -/
theorem transmitterTakesTurns : Obligations.TransmitterTakesTurns := by
  intro s
  refine ⟨rfl, fun link free => ⟨fun box long => ?_, fun m ms box turn due => ?_, fun x xs long turn => ?_⟩,
    fun link => ⟨fun none => ?_, fun front old back long none => ?_⟩⟩
  · rw [exec_transmit link free, transmit, box, long]
  · rw [exec_transmit link free, transmit_mail box turn, takeMail]
    exact congrArg _ (serveSendDue_none due)
  · rw [exec_transmit link free, transmit_long long turn]
    cases x with
    | scene f =>
      show Host.Outcome.next (cueSent f _) = _
      rw [cueSent_acks]
      rfl
    | beacon b => rfl
    | revokeAccept z => rfl
    | revokeRefuse z r => rfl
  · rw [exec_beacon link, putBeacon_joins none]
    by_cases few : s.zone.long.length < 16
    · rw [if_pos few, if_pos few]
      rfl
    · rw [if_neg few, if_neg few]
      rfl
  · rw [exec_beacon link, putBeacon_exchanges long none]
    rfl

end Sys2Proof.Claims

namespace Sys2Proof.Claims

open Sys2Proof.Machine

/-! ### The seat unit's records, changed with their reports (R100, R117) -/

/-- Nothing but the seat unit is changed, to the unit given, and reports are posted. -/
def SeatsTo (u : SeatUnit) (s t : State) : Prop := t = { s with host := t.host, seat := u } ∧ OnlyReports s t

theorem SeatsTo.refl (s : State) : SeatsTo s.seat s s := ⟨rfl, rfl⟩

theorem SeatsTo.seat {u : SeatUnit} {s t : State} (h : SeatsTo u s t) : t.seat = u := by rw [h.1]

theorem SeatsTo.blocks {u : SeatUnit} {s t : State} (h : SeatsTo u s t) :
    t = { s with host := t.host, seat := t.seat } := by
  rw [h.seat]
  exact h.1

theorem SeatsTo.config {u : SeatUnit} {s t : State} (h : SeatsTo u s t) : t.config = s.config := by rw [h.1]

theorem SeatsTo.fault {u : SeatUnit} {s t : State} (h : SeatsTo u s t) : t.fault = s.fault := by rw [h.1]

theorem SeatsTo.port {u : SeatUnit} {s t : State} (h : SeatsTo u s t) : t.host.port = s.host.port := by
  rw [h.2]
  rfl

theorem SeatsTo.trans {u v : SeatUnit} {s t w : State} (h : SeatsTo u s t) (k : SeatsTo v t w) : SeatsTo v s w := by
  obtain ⟨blocks, reports⟩ := h
  obtain ⟨blocks', reports'⟩ := k
  refine ⟨by rw [blocks', blocks], ?_⟩
  rw [OnlyReports, reports', reports]

theorem SeatsTo.setSeat {u : SeatUnit} {s t : State} (h : SeatsTo u s t) (v : SeatUnit) :
    SeatsTo v s (t.setSeat v) := by
  obtain ⟨blocks, reports⟩ := h
  exact ⟨by rw [blocks]; rfl, reports⟩

theorem SeatsTo.event {u : SeatUnit} {s t : State} (h : SeatsTo u s t) (e : EventReport) :
    SeatsTo u s (postEvent e t) :=
  ⟨by rw [h.1]; rfl, HostLink.eq_of_port ((by simp : (postEvent e t).host.port = t.host.port).trans h.port)⟩

theorem SeatsTo.state {u : SeatUnit} {s t : State} (h : SeatsTo u s t) (k : StateKind) (i : Nat) :
    SeatsTo u s (postState k i t) :=
  ⟨by rw [postState_eq, h.1]; rfl, HostLink.eq_of_port ((by simp : (postState k i t).host.port = t.host.port).trans h.port)⟩

theorem reportSeat_to {u : SeatUnit} {s t : State} (h : SeatsTo u s t) (a b : SeatRecord) :
    SeatsTo u s (reportSeat a b t) := by
  unfold reportSeat
  split
  · exact h
  · exact h.state ..

theorem putSeat_to (r : SeatRecord) (s : State) :
    SeatsTo { s.seat with records := s.seat.records.map fun x => if x.addr = r.addr then r else x } s
      (putSeat r s) :=
  reportSeat_to ((SeatsTo.refl s).setSeat _) ..

theorem clearPermit_to (c : PermitCause) (s : State) :
    SeatsTo { s.seat with permit := false, permitCause := c } s (clearPermit c s) := by
  unfold clearPermit
  dsimp only
  split
  · exact ((SeatsTo.refl s).setSeat _).event _
  · exact (SeatsTo.refl s).setSeat _

/-- The records of the seats of some addresses, changed. -/
def mapped (f : SeatRecord → SeatRecord) (l : List Nat) (rs : List SeatRecord) : List SeatRecord :=
  rs.map fun r => if r.addr ∈ l then f r else r

theorem mapped_addr {f : SeatRecord → SeatRecord} (addr : ∀ r, (f r).addr = r.addr) (l : List Nat)
    (rs : List SeatRecord) : (mapped f l rs).map (·.addr) = rs.map (·.addr) := by
  rw [mapped, List.map_map]
  refine List.map_congr_left fun r _ => ?_
  simp only [Function.comp]
  split
  · exact addr r
  · rfl

theorem mapped_cons {f : SeatRecord → SeatRecord} (addr : ∀ r, (f r).addr = r.addr) {a : Nat} {l : List Nat}
    (out : a ∉ l) (rs : List SeatRecord) : mapped f l (mapped f [a] rs) = mapped f (a :: l) rs := by
  simp only [mapped, List.map_map]
  refine List.map_congr_left fun r _ => ?_
  by_cases h : r.addr = a
  · simp [h, addr, out]
  · simp [h]

theorem mapped_all (f : SeatRecord → SeatRecord) (rs : List SeatRecord) :
    mapped f (rs.map (·.addr)) rs = rs.map f :=
  List.map_congr_left fun _ mem => if_pos (List.mem_map_of_mem mem)

theorem find_none {u : SeatUnit} {a : Nat} (h : u.find a = none) (r : SeatRecord) (mem : r ∈ u.records) :
    r.addr ≠ a := by
  simpa using List.find?_eq_none.1 h r mem

theorem find_some {u : SeatUnit} {a : Nat} {r : SeatRecord} (h : u.find a = some r) :
    r ∈ u.records ∧ r.addr = a :=
  ⟨List.mem_of_find?_eq_some h, by simpa using List.find?_some h⟩

/-- With one record for each address the record found is the one there is. -/
theorem find_mem {u : SeatUnit} (distinct : (u.records.map (·.addr)).Nodup) {r : SeatRecord}
    (mem : r ∈ u.records) : u.find r.addr = some r := by
  cases h : u.find r.addr with
  | none => exact absurd rfl (find_none h r mem)
  | some x =>
    obtain ⟨mem', same⟩ := find_some h
    rw [List.inj_on_of_nodup_map distinct mem' mem same]

theorem changeSeat_to {f : SeatRecord → SeatRecord} (addr : ∀ r, (f r).addr = r.addr) {s : State}
    (distinct : (s.seat.records.map (·.addr)).Nodup) (a : Nat) :
    SeatsTo { s.seat with records := mapped f [a] s.seat.records } s (changeSeat f s a) := by
  unfold changeSeat State.seatAt
  cases h : s.seat.find a with
  | none =>
    have same : mapped f [a] s.seat.records = s.seat.records :=
      (List.map_congr_left fun r mem => if_neg (by simpa using find_none h r mem)).trans (List.map_id _)
    rw [same]
    exact SeatsTo.refl s
  | some r =>
    obtain ⟨mem, rfl⟩ := find_some h
    have same : mapped f [r.addr] s.seat.records =
        s.seat.records.map fun x => if x.addr = (f r).addr then f r else x := by
      refine List.map_congr_left fun x mem' => ?_
      rw [addr]
      by_cases h : x.addr = r.addr
      · rw [List.inj_on_of_nodup_map distinct mem' mem h]
        simp
      · simp [h]
    rw [same]
    exact putSeat_to (f r) s

theorem foldl_changeSeat_to {f : SeatRecord → SeatRecord} (addr : ∀ r, (f r).addr = r.addr) {l : List Nat}
    (nodup : l.Nodup) {s : State} (distinct : (s.seat.records.map (·.addr)).Nodup) :
    SeatsTo { s.seat with records := mapped f l s.seat.records } s (l.foldl (changeSeat f) s) := by
  induction l generalizing s with
  | nil =>
    have same : mapped f [] s.seat.records = s.seat.records :=
      (List.map_congr_left fun r _ => if_neg (by simp)).trans (List.map_id _)
    rw [same]
    exact SeatsTo.refl s
  | cons a l ih =>
    obtain ⟨out, nodup⟩ := List.nodup_cons.1 nodup
    have first := changeSeat_to addr distinct a
    have rest := ih nodup (s := changeSeat f s a) (by rw [first.seat, mapped_addr addr]; exact distinct)
    rw [first.seat] at rest
    rw [← mapped_cons addr out]
    exact first.trans rest

/-- Each seat's record is changed, with its report. -/
theorem mapSeats_to {f : SeatRecord → SeatRecord} (addr : ∀ r, (f r).addr = r.addr) {s : State}
    (distinct : (s.seat.records.map (·.addr)).Nodup) :
    SeatsTo { s.seat with records := s.seat.records.map f } s (mapSeats f s) := by
  have all := foldl_changeSeat_to addr distinct distinct (f := f)
  rwa [mapped_all] at all

/-- The same, where nothing is known of the addresses: they stand. -/
theorem changeSeat_addr (f : SeatRecord → SeatRecord) (s : State) (a : Nat) :
    (changeSeat f s a).seat.records.map (·.addr) = s.seat.records.map (·.addr) := by
  unfold changeSeat
  split
  · rw [putSeat_seat, List.map_map]
    refine List.map_congr_left fun x _ => ?_
    simp only [Function.comp]
    split
    · rename_i same
      exact same.symm
    · rfl
  · rfl

end Sys2Proof.Claims

namespace Sys2Proof.Claims

open Sys2Proof.Machine

/-! ### The check, started or failed at once (R108, R109, R111) -/

/-- The seats that must be locked (R109). -/
def checkSet (s : State) : List Nat :=
  (s.seat.records.filter fun r =>
    r.occupied = .yes || (r.occupied = .no && s.config.committedMap.mustLock)).map (·.addr)

theorem required_eq (r : SeatRecord) (mustLock : Bool) :
    r.required mustLock = (decide (r.occupied = .yes) || (decide (r.occupied = .no) && mustLock)) := by
  unfold SeatRecord.required
  cases r.occupied <;> simp

/-- A seat that makes the check fail at once (R109). -/
def Blocking (s : State) : Prop :=
  ∃ r ∈ s.seat.records, r.state = .unknown ∨ r.addr ∈ checkSet s ∧ (r.state = .fault ∨ r.state = .alarm)

theorem failsAtOnce_iff {l : List Nat} {r : SeatRecord} :
    r.failsAtOnce l = true ↔ r.state = .unknown ∨ r.addr ∈ l ∧ (r.state = .fault ∨ r.state = .alarm) := by
  simp [SeatRecord.failsAtOnce]

theorem byLastRead_known (r : SeatRecord) : r.byLastRead = .locked ∨ r.byLastRead = .isOpen := by
  unfold SeatRecord.byLastRead
  split <;> simp

theorem leaveOut_addr (l : List Nat) (r : SeatRecord) : (r.leaveOut l).addr = r.addr := by
  unfold SeatRecord.leaveOut
  split <;> rfl

theorem beginCheck_addr (l : List Nat) (r : SeatRecord) : (r.beginCheck l).addr = r.addr := by
  unfold SeatRecord.beginCheck
  split <;> rfl

theorem lightFailed_addr (l : List Nat) (r : SeatRecord) : (r.lightFailed l).addr = r.addr := by
  unfold SeatRecord.lightFailed
  split <;> rfl

/-- A CHECKED seat outside the set becomes LOCKED or OPEN: neither makes the check fail (R109). -/
theorem leaveOut_failsAtOnce (l : List Nat) (r : SeatRecord) :
    (r.leaveOut l).failsAtOnce l = r.failsAtOnce l := by
  unfold SeatRecord.leaveOut
  split
  · rename_i out
    obtain ⟨checked, -⟩ := out
    rcases byLastRead_known r with h | h <;> simp [SeatRecord.failsAtOnce, h, checked]
  · rfl

theorem leaveOut_any (l : List Nat) (rs : List SeatRecord) :
    (rs.map (SeatRecord.leaveOut l)).any (SeatRecord.failsAtOnce l) = rs.any (SeatRecord.failsAtOnce l) := by
  rw [List.any_map]
  exact congrArg rs.any (funext (leaveOut_failsAtOnce l))

/-- A seat of the set is CHECKING with its lamp off, and no other is CHECKED (R109, R114). -/
theorem begun (l : List Nat) (r : SeatRecord) :
    let b := (r.leaveOut l).beginCheck l
    if b.addr ∈ l then b.state = .checking ∧ b.lamp = false ∧ b.lampPending = true else b.state ≠ .checked := by
  dsimp only
  rw [beginCheck_addr, leaveOut_addr]
  unfold SeatRecord.beginCheck
  rw [leaveOut_addr]
  split
  · rename_i mem
    rw [if_pos (List.elem_eq_true_of_mem mem)]
    exact ⟨rfl, rfl, rfl⟩
  · rename_i out
    rw [if_neg (by simpa using out)]
    unfold SeatRecord.leaveOut
    split
    · rcases byLastRead_known r with h | h <;> simp [h]
    · rename_i stands
      intro checked
      exact stands ⟨checked, by simpa using out⟩

/-- What a check that starts leaves (R109). -/
def Starts (source : CommandSource) (s t : State) : Prop :=
  t = { s with host := t.host, zone := t.zone, seat := t.seat } ∧
    t.seat =
      { s.seat with
        records := t.seat.records, round := t.seat.round, permit := false
        permitCause := .checkStarted
        check := some { source := source, set := checkSet s, rejected := [], rounds := 0 } } ∧
    t.seat.records.map (·.addr) = s.seat.records.map (·.addr) ∧
    ∀ r ∈ t.seat.records,
      if r.addr ∈ checkSet s then r.state = .checking ∧ r.lamp = false ∧ r.lampPending = true
      else r.state ≠ .checked

/-- What a check that fails at once leaves (R109, R111). -/
def Fails (s t : State) : Prop :=
  t = { s with host := t.host, zone := t.zone, seat := t.seat, fault := t.fault } ∧
    t.seat.check = none ∧ t.seat.permit = false ∧ t.seat.permitCause = .checkStarted ∧
    (t.faultRec .f14).latched = true ∧
    (t.faultRec .f14).count = min 255 ((s.faultRec .f14).count + 1) ∧
    ∀ c, c ≠ .f14 → t.faultRec c = s.faultRec c

/-- The permit is cleared, and a CHECKED seat outside the set is left out (R109). -/
def leftOut (s : State) : State := mapSeats (SeatRecord.leaveOut (checkSet s)) (clearPermit .checkStarted s)

theorem leftOut_to {s : State} (distinct : (s.seat.records.map (·.addr)).Nodup) :
    SeatsTo
      { s.seat with
        permit := false, permitCause := .checkStarted
        records := s.seat.records.map (SeatRecord.leaveOut (checkSet s)) } s (leftOut s) := by
  have first := clearPermit_to .checkStarted s
  have rest := mapSeats_to (leaveOut_addr (checkSet s)) (s := clearPermit .checkStarted s)
    (by rw [first.seat]; exact distinct)
  rw [first.seat] at rest
  exact first.trans rest

theorem startCheck_eq (source : CommandSource) (s : State) :
    startCheck source s =
      let c : Check := { source := source, set := checkSet s, rejected := [], rounds := 0 }
      if (leftOut s).seat.records.any (SeatRecord.failsAtOnce (checkSet s)) then
        (reportCheck c .fail .module
          (raiseFault .f14 (.check .module) (mapSeats (SeatRecord.lightFailed (checkSet s)) (leftOut s))), .failed)
      else
        let begun := mapSeats (SeatRecord.beginCheck (checkSet s)) (leftOut s)
        (begun.setSeat
          { begun.seat with
            check := some c, round := begun.seat.round.map fun r => { r with confirm := false } }, .started) := by
  have set : ((clearPermit .checkStarted s).seat.records.filter fun r =>
      r.required (clearPermit .checkStarted s).config.committedMap.mustLock).map (·.addr) = checkSet s := by
    rw [(clearPermit_to _ s).seat, (clearPermit_to _ s).config, checkSet]
    simp only [required_eq]
  unfold startCheck leftOut
  dsimp only
  rw [set]

theorem blocking_iff {s : State} (distinct : (s.seat.records.map (·.addr)).Nodup) :
    (leftOut s).seat.records.any (SeatRecord.failsAtOnce (checkSet s)) = true ↔ Blocking s := by
  rw [(leftOut_to distinct).seat]
  show (s.seat.records.map _).any _ = true ↔ _
  rw [leaveOut_any, List.any_eq_true]
  exact exists_congr fun r => and_congr_right fun _ => failsAtOnce_iff

theorem startCheck_starts {s : State} (source : CommandSource) (distinct : (s.seat.records.map (·.addr)).Nodup)
    (free : ¬ Blocking s) :
    ∃ t, startCheck source s = (t, .started) ∧ OnlyReports s t ∧ t.zone = s.zone ∧ Starts source s t := by
  rw [startCheck_eq, if_neg (mt (blocking_iff distinct).1 free)]
  have out := leftOut_to distinct
  have addrs : (leftOut s).seat.records.map (·.addr) = s.seat.records.map (·.addr) := by
    rw [out.seat]
    simp [leaveOut_addr, Function.comp_def]
  have all := mapSeats_to (beginCheck_addr (checkSet s)) (s := leftOut s) (by rw [addrs]; exact distinct)
  rw [out.seat] at all
  generalize mapSeats (SeatRecord.beginCheck (checkSet s)) (leftOut s) = u at all
  obtain ⟨blocks, reports⟩ := (out.trans all).setSeat
    { u.seat with
      check := some { source := source, set := checkSet s, rejected := [], rounds := 0 }
      round := u.seat.round.map fun r => { r with confirm := false } }
  refine ⟨_, rfl, reports, by rw [blocks], by rw [blocks], ?_, ?_, ?_⟩
  · rw [all.seat]
    rfl
  · show u.seat.records.map _ = _
    rw [all.seat]
    simp [leaveOut_addr, beginCheck_addr, Function.comp_def]
  · show ∀ r ∈ u.seat.records, _
    rw [all.seat]
    simp only [List.map_map, List.mem_map]
    rintro _ ⟨r, -, rfl⟩
    exact begun (checkSet s) r

theorem startCheck_fails {s : State} (source : CommandSource) (distinct : (s.seat.records.map (·.addr)).Nodup)
    (idle : s.seat.check = none) (blocked : Blocking s) :
    ∃ t, startCheck source s = (t, .failed) ∧ OnlyReports s t ∧ t.zone = s.zone ∧ Fails s t := by
  rw [startCheck_eq, if_pos ((blocking_iff distinct).2 blocked)]
  have out := leftOut_to distinct
  have addrs : (leftOut s).seat.records.map (·.addr) = s.seat.records.map (·.addr) := by
    rw [out.seat]
    simp [leaveOut_addr, Function.comp_def]
  have all := mapSeats_to (lightFailed_addr (checkSet s)) (s := leftOut s) (by rw [addrs]; exact distinct)
  rw [out.seat] at all
  have lit := out.trans all
  generalize mapSeats (SeatRecord.lightFailed (checkSet s)) (leftOut s) = u at lit
  have faults (c : FaultCode) : u.faultRec c = s.faultRec c := congrArg (fun f => f.table[c.idx]) lit.fault
  have zone : u.zone = s.zone := by rw [lit.1]
  have port : (reportCheck { source := source, set := checkSet s, rejected := [], rounds := 0 } .fail .module
      (raiseFault .f14 (.check .module) u)).host.port = s.host.port := by
    simp [reportCheck, lit.port]
  refine ⟨_, rfl, HostLink.eq_of_port port, ?_, ?_, ?_, ?_, ?_, ?_, ?_, fun c other => ?_⟩
  · simp [reportCheck, zone]
  · obtain ⟨blocks, -⟩ := lit
    rw [blocks]
    apply State.ext_fields <;> simp [reportCheck]
  · simp [reportCheck, lit.seat, idle]
  · simp [reportCheck, lit.seat]
  · simp [reportCheck, lit.seat]
  · simp [reportCheck, FaultRecord.raised]
  · simp [reportCheck, FaultRecord.raised, faults, bump]
  · simp [reportCheck, other, faults]

end Sys2Proof.Claims

namespace Sys2Proof.Claims

open Sys2Proof.Machine

/-- At rest in the station, with no check and no window, a CHECK is not refused (R108). -/
theorem refuseCheck_none {s : State} (station : AtStation s) (idle : s.seat.check = none)
    (shut : s.seat.window = .stopped) : s.refuseCheck = none := by
  obtain ⟨ready, hold, known, zone, rest⟩ := station
  have known : s.guide.est.posState.known = true := known_iff.1 known
  have ready : s.isReady = true := by simp [State.isReady, ready]
  simp [State.refuseCheck, ready, hold, known, zone, rest, idle, shut]

theorem Starts.of_host {source : CommandSource} {s t : State} {g h : HostLink} {z : ZoneUnit}
    (start : Starts source ((s.setHost g).setZone z) t) : Starts source s (t.setHost h) := by
  obtain ⟨blocks, seat, addrs, records⟩ := start
  exact ⟨congrArg (fun x : State => x.setHost h) blocks, seat, addrs, records⟩

theorem Fails.of_host {s t : State} {g h : HostLink} {z : ZoneUnit}
    (fails : Fails ((s.setHost g).setZone z) t) : Fails s (t.setHost h) := by
  obtain ⟨blocks, rest⟩ := fails
  exact ⟨congrArg (fun x : State => x.setHost h) blocks, rest⟩

theorem judgeCheck_admitted {s t : State} {d : Detail} (free : s.refuseCheck = none)
    (start : startCheck .host s = (t, d)) : judgeCheck s = (t, ⟨.done, d, .empty⟩) := by
  rw [judgeCheck, free, start]

theorem waysideCheck_admitted {s t : State} {d : Detail} (free : s.refuseCheck = none)
    (start : startCheck .wayside s = (t, d)) : waysideCheckFrame s = t := by
  rw [waysideCheckFrame, free, start]

/-- Settles O48: an admitted check, by whether a seat makes it fail at once. -/
theorem checkStartsOrFailsAtOnce : Obligations.CheckStartsOrFailsAtOnce := by
  intro s station idle shut distinct
  obtain ⟨distinct, -⟩ := distinct
  have free := refuseCheck_none station idle shut
  refine ⟨fun f rest taken => ?_, fun dest up addressed => ?_⟩
  · by_cases blocked : Blocking s
    · obtain ⟨u, start, reports, zone, fails⟩ :=
        startCheck_fails .host (s := frameTaken s rest) distinct idle blocked
      obtain ⟨h, runs, answered⟩ :=
        onRequest_judged taken (judgeCheck_admitted free start) (by rw [reports]; rfl)
      exact ⟨_, runs, zone, fun ok => absurd blocked ok, fun _ => ⟨fails.of_host (z := s.zone), answered⟩⟩
    · obtain ⟨u, start, reports, zone, starts⟩ :=
        startCheck_starts .host (s := frameTaken s rest) distinct blocked
      obtain ⟨h, runs, answered⟩ :=
        onRequest_judged taken (judgeCheck_admitted free start) (by rw [reports]; rfl)
      exact ⟨_, runs, zone, fun _ => ⟨starts.of_host (z := s.zone), answered⟩, fun bad => absurd bad blocked⟩
  · have runs : exec (.waysideCheck dest) s = .next (waysideCheckFrame (s.setZone (heard s))) := by
      rw [← validFrame_up up]
      exact onWayside_taken (by simp [up]) (addressed_of addressed)
    by_cases blocked : Blocking s
    · obtain ⟨u, start, reports, zone, fails⟩ :=
        startCheck_fails .wayside (s := s.setZone (heard s)) distinct idle blocked
      rw [waysideCheck_admitted (s := s.setZone (heard s)) free start] at runs
      exact ⟨u, runs, zone, reports, fun ok => absurd blocked ok, fun _ => fails.of_host (h := u.host)⟩
    · obtain ⟨u, start, reports, zone, starts⟩ :=
        startCheck_starts .wayside (s := s.setZone (heard s)) distinct blocked
      rw [waysideCheck_admitted (s := s.setZone (heard s)) free start] at runs
      exact ⟨u, runs, zone, reports, fun _ => starts.of_host (h := u.host), fun bad => absurd bad blocked⟩

end Sys2Proof.Claims

namespace Sys2Proof.Claims

open Sys2Proof.Machine

/-! ### The release window (R115, R116) -/

/-- Nothing but the seats' records is changed, each keeping its address, and reports are posted. -/
def OnlyRecords (s t : State) : Prop :=
  SeatsTo { s.seat with records := t.seat.records } s t ∧
    t.seat.records.map (·.addr) = s.seat.records.map (·.addr)

theorem OnlyRecords.refl (s : State) : OnlyRecords s s := ⟨SeatsTo.refl s, rfl⟩

theorem OnlyRecords.trans {s t w : State} (h : OnlyRecords s t) (k : OnlyRecords t w) : OnlyRecords s w := by
  obtain ⟨first, addrs⟩ := h
  obtain ⟨rest, addrs'⟩ := k
  rw [first.seat] at rest
  exact ⟨first.trans rest, addrs'.trans addrs⟩

theorem SeatsTo.onlyRecords {u : SeatUnit} {s t : State} (h : SeatsTo u s t)
    (rest : u = { s.seat with records := u.records })
    (addrs : u.records.map (·.addr) = s.seat.records.map (·.addr)) : OnlyRecords s t := by
  have seat := h.seat
  subst seat
  exact ⟨rest ▸ h, addrs⟩

theorem putSeat_only (r : SeatRecord) (s : State) : OnlyRecords s (putSeat r s) := by
  refine (putSeat_to r s).onlyRecords rfl ?_
  simp only [List.map_map]
  refine List.map_congr_left fun x _ => ?_
  simp only [Function.comp]
  split
  · rename_i same
    exact same.symm
  · rfl

theorem changeSeat_only (f : SeatRecord → SeatRecord) (s : State) (a : Nat) : OnlyRecords s (changeSeat f s a) := by
  unfold changeSeat
  split
  · exact putSeat_only ..
  · exact OnlyRecords.refl s

theorem mapSeats_only (f : SeatRecord → SeatRecord) (s : State) : OnlyRecords s (mapSeats f s) := by
  unfold mapSeats
  generalize s.seat.records.map (·.addr) = l
  induction l generalizing s with
  | nil => exact OnlyRecords.refl s
  | cons a l ih => exact (changeSeat_only f s a).trans (ih _)

/-- What holds of each seat's record changed holds of all once those of some addresses are changed. -/
theorem foldl_changeSeat_all {f : SeatRecord → SeatRecord} (addr : ∀ r, (f r).addr = r.addr)
    {p : SeatRecord → Prop} (changed : ∀ r, p (f r)) (l : List Nat) (s : State)
    (others : ∀ r ∈ s.seat.records, r.addr ∉ l → p r) :
    ∀ r ∈ (l.foldl (changeSeat f) s).seat.records, p r := by
  induction l generalizing s with
  | nil => exact fun r mem => others r mem (by simp)
  | cons a l ih =>
    refine ih _ fun r mem out => ?_
    unfold changeSeat State.seatAt at mem
    cases h : s.seat.find a with
    | none =>
      rw [h] at mem
      exact others r mem (by simp [find_none h r mem, out])
    | some x =>
      rw [h] at mem
      simp only [putSeat_seat, List.mem_map] at mem
      obtain ⟨y, mem, rfl⟩ := mem
      by_cases same : y.addr = (f x).addr
      · rw [if_pos same]
        exact changed x
      · rw [if_neg same] at out ⊢
        have other : y.addr ≠ a := by rwa [addr, (find_some h).2] at same
        exact others y mem (by simp [other, out])

theorem mapSeats_all {f : SeatRecord → SeatRecord} (addr : ∀ r, (f r).addr = r.addr)
    {p : SeatRecord → Prop} (changed : ∀ r, p (f r)) (s : State) : ∀ r ∈ (mapSeats f s).seat.records, p r :=
  foldl_changeSeat_all addr changed _ s fun _ mem out => absurd (List.mem_map_of_mem mem) out

/-- A check ended by anything but a module's failure raises no fault (R112). -/
theorem abortCheck_to {c : CheckCause} (other : c ≠ .module) (s : State) :
    SeatsTo { s.seat with check := none, records := (abortCheck c s).seat.records } s (abortCheck c s) ∧
      (abortCheck c s).seat.records.map (·.addr) = s.seat.records.map (·.addr) := by
  cases running : s.seat.check with
  | none =>
    have whole : abortCheck c s = s := by rw [abortCheck, running]
    rw [whole]
    have seat : s.seat = { s.seat with check := none } := by rw [← running]
    exact ⟨seat ▸ SeatsTo.refl s, rfl⟩
  | some k =>
    have whole : abortCheck c s =
        postEvent (.checkResult k.source .fail c k.set k.rejected k.rounds)
          (mapSeats SeatRecord.unchecking (s.setSeat { s.seat with check := none })) := by
      rw [abortCheck, running]
      dsimp only
      rw [if_neg other]
    rw [whole]
    obtain ⟨all, addrs⟩ := mapSeats_only SeatRecord.unchecking (s.setSeat { s.seat with check := none })
    exact ⟨(((SeatsTo.refl s).setSeat _).trans all).event _, addrs⟩

theorem released_addr (r : SeatRecord) : r.released.addr = r.addr := rfl

/-- What the start of a release makes of a seat (R115). -/
def ReleasedSeat (r : SeatRecord) : Prop := r.state ≠ .checked ∧ r.lamp = false ∧ r.lampPending = true

theorem released_idle (r : SeatRecord) : ReleasedSeat r.released := by
  refine ⟨?_, rfl, rfl⟩
  unfold SeatRecord.released SeatRecord.setLamp
  dsimp only
  split
  · simp
  · assumption

/-- The release starts (R115). -/
theorem openBars_spec (s : State) :
    SeatsTo
        { s.seat with
          records := (openBars s).seat.records, check := none, permit := false, permitCause := .release
          window := .running 3000 } s (openBars s) ∧
      (openBars s).seat.records.map (·.addr) = s.seat.records.map (·.addr) ∧
      ∀ r ∈ (openBars s).seat.records, ReleasedSeat r := by
  obtain ⟨ended, addrs⟩ := abortCheck_to (c := .release) (by decide) s
  have cleared := clearPermit_to .release (abortCheck .release s)
  obtain ⟨all, addrs'⟩ := mapSeats_only SeatRecord.released (clearPermit .release (abortCheck .release s))
  have idle := mapSeats_all (p := ReleasedSeat) released_addr released_idle (clearPermit .release (abortCheck .release s))
  have seat := all.seat
  rw [cleared.seat, ended.seat] at seat
  rw [cleared.seat] at addrs'
  have whole := ended.trans (cleared.trans all)
  unfold openBars
  dsimp only
  generalize mapSeats SeatRecord.released (clearPermit .release (abortCheck .release s)) = u at *
  refine ⟨?_, addrs'.trans addrs, idle⟩
  have opened := (whole.setSeat { u.seat with window := .running Config.releaseMs }).event
    (.release (.running Config.releaseMs))
  have same : { u.seat with window := .running Config.releaseMs } =
      { s.seat with
        records := u.seat.records, check := none, permit := false, permitCause := .release
        window := .running 3000 } := by
    rw [seat]
  exact same ▸ opened

theorem judgeRelease_opens {s : State} (station : AtStation s) (shut : s.seat.window = .stopped) :
    judgeRelease s = (openBars s, .done) := by
  obtain ⟨ready, hold, known, zone, rest⟩ := station
  have known : s.guide.est.posState.known = true := known_iff.1 known
  have ready : s.isReady = true := by simp [State.isReady, ready]
  simp [judgeRelease, ready, hold, known, zone, rest, shut]

theorem judgeRelease_again {s : State} (station : AtStation s) (active : s.seat.window ≠ .stopped) :
    judgeRelease s = (s.setSeat { s.seat with window := .running Config.releaseMs }, .already) := by
  obtain ⟨ready, hold, known, zone, rest⟩ := station
  have known : s.guide.est.posState.known = true := known_iff.1 known
  have ready : s.isReady = true := by simp [State.isReady, ready]
  simp [judgeRelease, ready, hold, known, zone, rest, active]

/-- A reply is handed over with no regard to the seats. -/
theorem sendReply_setSeat (f : RxFrame) (a : Answer) (s : State) (u : SeatUnit) :
    sendReply f a (s.setSeat u) = (sendReply f a s).setSeat u := by
  unfold sendReply handReply
  simp only [State.setSeat_host]
  split <;> rfl

/-- Settles O49: the release by whether the window is active, and the window's end. -/
theorem releaseWindowOpensAndEnds : Obligations.ReleaseWindowOpensAndEnds := by
  refine ⟨fun s f rest taken station => ⟨fun shut => ?_, fun active => ?_⟩, fun s n runs => ?_⟩
  · obtain ⟨opened, addrs, idle⟩ := openBars_spec (frameTaken s rest)
    obtain ⟨h, does, answered⟩ :=
      onRequest_judged taken (judgeRelease_opens (s := frameTaken s rest) station shut) opened.port
    exact ⟨_, does, answered, congrArg (fun x : State => x.setHost h) opened.blocks, opened.seat, addrs, idle⟩
  · have judged := judgeRelease_again (s := frameTaken s rest) station active
    show onRequest 0x29 (.fit ()) s (answering fun _ => judgeRelease) = _
    rw [onRequest_taken _ () taken, answering, judged]
    show Host.Outcome.next (sendReply f .already ((frameTaken s rest).setSeat _)) = _
    rw [sendReply_setSeat, sendReply_frameTaken]
    rfl
  · have whole : exec .releaseWindowExpiry s = .next (endWindow .time s) := by
      show execReleaseWindowExpiry s = _
      rw [execReleaseWindowExpiry, runs]
      rfl
    have ended : endWindow .time s =
        postEvent (.releaseEnd .time)
          (s.setSeat
            { s.seat with
              window := .stopped
              records := s.seat.records.map fun r => { r with latchPending := true } }) := by
      rw [endWindow, if_neg (by simp [runs])]
    obtain ⟨blocks, reports⟩ := ((SeatsTo.refl s).setSeat
      { s.seat with
        window := .stopped
        records := s.seat.records.map fun r => { r with latchPending := true } }).event (.releaseEnd .time)
    rw [ended] at whole
    exact ⟨_, whole, reports, fun room => postEvent_self _ _ (Nat.lt_of_le_of_lt room (by decide)), blocks⟩

end Sys2Proof.Claims

namespace Sys2Proof.Claims

open Sys2Proof.Machine

/-! ### What a seat's transaction may change (R98 to R107) -/

/-- What a transaction with the seat of an address may change: the seat unit but for the loop, its round and its
counts, and what a fault's raising does. With no check and no window the other seats' records stand. -/
structure Polls (a : Nat) (s t : State) : Prop where
  blocks : OnlyStops s t
  unit :
    t.seat =
      { s.seat with
        records := t.seat.records, check := t.seat.check, permit := t.seat.permit
        permitCause := t.seat.permitCause, window := t.seat.window }
  addrs : t.seat.records.map (·.addr) = s.seat.records.map (·.addr)
  others :
    s.seat.check = none → s.seat.window = .stopped →
      t.seat.check = none ∧ t.seat.window = .stopped ∧
        ∀ r ∈ s.seat.records, r.addr ≠ a → r ∈ t.seat.records

theorem OnlyStops.refl (s : State) : OnlyStops s s := ⟨rfl, rfl, rfl, rfl, rfl, rfl⟩

theorem Polls.of_seat {a : Nat} {s t : State} (blocks : OnlyStops s t) (seat : t.seat = s.seat) : Polls a s t :=
  ⟨blocks, by rw [seat], by rw [seat], fun idle shut => by rw [seat]; exact ⟨idle, shut, fun r mem _ => mem⟩⟩

theorem Polls.refl (a : Nat) (s : State) : Polls a s s := .of_seat (.refl s) rfl

theorem Polls.trans {a : Nat} {s t u : State} (h : Polls a s t) (k : Polls a t u) : Polls a s u := by
  refine ⟨h.blocks.trans k.blocks, by rw [k.unit, h.unit], k.addrs.trans h.addrs, fun idle shut => ?_⟩
  obtain ⟨idle, shut, stands⟩ := h.others idle shut
  obtain ⟨idle, shut, stands'⟩ := k.others idle shut
  exact ⟨idle, shut, fun r mem other => stands' r (stands r mem other) other⟩

variable {a : Nat} {s t : State}

/-- What leaves the seat unit and the blocks a fault's raising leaves alone keeps the relation. -/
theorem Polls.told {u : State} (h : Polls a s t) (blocks : OnlyStops t u) (seat : u.seat = t.seat) : Polls a s u :=
  h.trans (.of_seat blocks seat)

theorem SeatsTo.onlyStops {u : SeatUnit} (h : SeatsTo u s t) : OnlyStops s t := by
  obtain ⟨blocks, -⟩ := h
  rw [blocks]
  exact ⟨rfl, rfl, rfl, rfl, rfl, rfl⟩

theorem Polls.event (h : Polls a s t) (e : EventReport) : Polls a s (postEvent e t) :=
  h.told ⟨by simp, by simp, by simp, by simp, by simp, by simp⟩ (by simp)

theorem Polls.state (h : Polls a s t) (k : StateKind) (i : Nat) : Polls a s (postState k i t) :=
  h.told ⟨by simp, by simp, by simp, by simp, by simp, by simp⟩ (by simp)

theorem Polls.endCond (h : Polls a s t) (c : FaultCode) : Polls a s (endCond c t) :=
  h.told (endCond_onlyStops ..) (by simp)

theorem Polls.setAlarm (h : Polls a s t) (on : Bool) : Polls a s (setAlarm on t) :=
  h.told ⟨by simp, by simp, by simp, by simp, by simp, by simp⟩ (by simp)

theorem Polls.raiseQuiet (h : Polls a s t) (c : FaultCode) (k : FaultClass) (d : FaultDetail) :
    Polls a s (raiseQuiet c k d t) :=
  h.told ⟨by simp, by simp, by simp, by simp, by simp, by simp⟩ (by simp)

theorem Polls.putSeat (h : Polls a s t) {r : SeatRecord} (addr : r.addr = a) : Polls a s (putSeat r t) := by
  refine h.trans ⟨(putSeat_to r t).onlyStops, ?_, (putSeat_only r t).2, fun idle shut => ?_⟩
  · rw [(putSeat_to r t).seat]
  · rw [(putSeat_to r t).seat]
    refine ⟨idle, shut, fun x mem other => ?_⟩
    exact List.mem_map.2 ⟨x, mem, if_neg (addr ▸ other)⟩

theorem Polls.clearPermit (h : Polls a s t) (c : PermitCause) : Polls a s (clearPermit c t) := by
  have cleared := clearPermit_to c t
  refine h.trans ⟨cleared.onlyStops, by rw [cleared.seat], by rw [cleared.seat], fun idle shut => ?_⟩
  rw [cleared.seat]
  exact ⟨idle, shut, fun r mem _ => mem⟩

theorem Polls.abortCheck (h : Polls a s t) (c : CheckCause) : Polls a s (abortCheck c t) := by
  refine h.trans ?_
  cases running : t.seat.check with
  | none =>
    have whole : Machine.abortCheck c t = t := by rw [Machine.abortCheck, running]
    rw [whole]
    exact .refl a t
  | some k =>
    obtain ⟨all, addrs⟩ := mapSeats_only SeatRecord.unchecking (t.setSeat { t.seat with check := none })
    have whole := ((SeatsTo.refl t).setSeat _).trans all
    have ended : Polls a t (mapSeats SeatRecord.unchecking (t.setSeat { t.seat with check := none })) :=
      ⟨whole.onlyStops, by rw [whole.seat]; rfl, addrs, fun idle => by simp [running] at idle⟩
    rw [Machine.abortCheck, running]
    dsimp only
    split
    · exact (ended.raiseQuiet ..).event _
    · exact ended.event _

theorem Polls.endWindow (h : Polls a s t) (w : WindowEnd) : Polls a s (endWindow w t) := by
  unfold Machine.endWindow
  split
  · exact h
  · rename_i active
    refine Polls.event (h.trans ?_) _
    exact ⟨⟨rfl, rfl, rfl, rfl, rfl, rfl⟩, rfl, by simp [Function.comp_def], fun _ shut => absurd shut active⟩

theorem Polls.seatLeavesHold (h : Polls a s t) (e : Bool) : Polls a s (seatLeavesHold e t) :=
  (h.abortCheck _).endWindow _

/-- A change of motion state reaches the seat unit as HOLD is left (R112, R116). -/
theorem changeMotion_leaves {new : MotionState} (rolls : new.noRollback = false) (resume : Bool) {s : State}
    (hold : s.mstate = .hold) :
    ∃ x : State, x.seat = s.seat ∧ (changeMotion new resume s).seat = (Machine.seatLeavesHold false x).seat := by
  have estop : new ≠ .estop := by
    rintro rfl
    cases rolls
  refine ⟨postState .motionState 0 (s.setMotion (s.motion.enter new resume)), by simp, ?_⟩
  simp [changeMotion, rolls, hold, estop]

theorem Polls.changeMotion (h : Polls a s t) {new : MotionState} (rolls : new.noRollback = false) (resume : Bool) :
    Polls a s (changeMotion new resume t) := by
  have drives := changeMotion_drives rolls resume t
  have blocks : OnlyStops t (Machine.changeMotion new resume t) :=
    ⟨drives.pending, drives.config, drives.guide, drives.zone, drives.cue, drives.clip⟩
  by_cases hold : t.mstate = .hold
  · obtain ⟨x, same, left⟩ := changeMotion_leaves rolls resume hold
    obtain ⟨-, unit, addrs, others⟩ := (Polls.refl a x).seatLeavesHold false
    rw [← left, same] at unit addrs others
    exact h.trans ⟨blocks, unit, addrs, others⟩
  · obtain ⟨-, -, stands, -⟩ := changeMotion_seat new resume t
    exact h.told blocks (stands hold)

theorem Polls.stopCause (h : Polls a s t) (c : StopCause) : Polls a s (stopCause c t) := by
  have ends (o : CreepOutcome) {u : State} (k : Polls a s u) : Polls a s (creepEnd o u) := k.event _
  have recorded (r : Option StopRecord) {u : State} (k : Polls a s u) : Polls a s (setStopRecord r u) :=
    k.told ⟨rfl, rfl, rfl, rfl, rfl, rfl⟩ rfl
  have taken : Polls a s (takeStop .stopping c t) := by
    have moved (r : Option StopRecord) : Polls a s (moveTo .stopping (setStopRecord r t)) :=
      (recorded r h).changeMotion (by rfl) _
    unfold takeStop
    dsimp only
    split
    · exact ends _ (moved _)
    · exact moved _
  unfold Machine.stopCause
  split
  · exact taken
  · exact taken
  · exact taken
  · exact recorded _ h
  · exact recorded _ h
  · exact recorded _ h
  · exact h

theorem Polls.raiseFault (h : Polls a s t) {c : FaultCode} (other : c ≠ .f01) (d : FaultDetail) :
    Polls a s (raiseFault c d t) := by
  by_cases stop : c.cls = .stop
  · have raised : Polls a s (recordRaise c .stop d t) :=
      h.told ⟨by simp, by simp, by simp, by simp, by simp, by simp⟩ (by simp)
    have stopped := raised.stopCause (.fault c)
    have whole : Machine.raiseFault c d t =
        noteSummary t.summary (endMomentary c (Machine.stopCause (.fault c) (recordRaise c .stop d t))) := by
      rw [Machine.raiseFault, raiseAs, stop, actByClass.eq_def]
      dsimp only
      rw [if_neg other]
    rw [whole]
    exact stopped.told ⟨by simp, by simp, by simp, by simp, by simp, by simp⟩ (by simp)
  · rw [raiseFault_quiet c d t stop]
    exact h.raiseQuiet ..

end Sys2Proof.Claims

namespace Sys2Proof.Claims

open Sys2Proof.Machine

/-! ### A seat's transaction, part by part (R98 to R107) -/

variable {a : Nat} {s t : State}

theorem Polls.testF13 (h : Polls a s t) (was : Bool) (addr : Nat) : Polls a s (testF13 was addr t) := by
  unfold Machine.testF13
  split
  · exact h.raiseFault (by decide) _
  · split
    · exact h.endCond _
    · exact h

theorem Polls.handOccupancy (h : Polls a s t) (before after : SeatRecord) :
    Polls a s (handOccupancy before after t) := by
  unfold Machine.handOccupancy becameKnown occupancyChanged
  split
  · exact h
  · split
    · split
      · exact h.clearPermit _
      · exact h
    · dsimp only
      split
      · exact (((h.abortCheck _).clearPermit _).state ..).raiseFault (by decide) _
      · exact (h.abortCheck _).clearPermit _

theorem Polls.enterFault (h : Polls a s t) {r : SeatRecord} (addr : r.addr = a) : Polls a s (enterFault r t) := by
  have put : Polls a s (Machine.putSeat { r with state := .fault, recovery := 0 } t) := h.putSeat addr
  exact put.abortCheck _

theorem Polls.followReads (h : Polls a s t) {r : SeatRecord} (addr : r.addr = a) (x : Read) :
    Polls a s (followReads r x t) := by
  unfold Machine.followReads
  split
  · split
    · exact h.enterFault addr
    · exact h
  · split
    · exact h.enterFault addr
    · exact h
  · split
    · exact h
    · exact h.putSeat addr

theorem Polls.recoverFault (h : Polls a s t) {r : SeatRecord} (addr : r.addr = a) (x : Read) :
    Polls a s (recoverFault r x t) := by
  unfold Machine.recoverFault
  split
  · split
    · exact h.putSeat addr
    · exact h.putSeat addr
  · exact h.putSeat addr

theorem Polls.alarmBegin (h : Polls a s t) (was : Bool) (addr : Nat) : Polls a s (alarmBegin was addr t) := by
  unfold Machine.alarmBegin
  split
  · exact h
  · exact (h.raiseFault (by decide) _).setAlarm _

theorem Polls.enterAlarm (h : Polls a s t) {r : SeatRecord} (addr : r.addr = a) (x : AlarmTest) :
    Polls a s (enterAlarm r x t) := by
  have put : Polls a s (Machine.putSeat { r with state := .alarm, alarm := 0, recovery := 0 } t) := h.putSeat addr
  have cleared := put.clearPermit (.leftChecked r.addr)
  unfold Machine.enterAlarm
  dsimp only
  split
  · exact Polls.event (Polls.putSeat cleared (by exact addr)) _
  · exact cleared.alarmBegin ..

theorem Polls.watchChecked (h : Polls a s t) {r : SeatRecord} (addr : r.addr = a) (x : Read) :
    Polls a s (watchChecked r x t) := by
  unfold Machine.watchChecked
  dsimp only
  split
  · exact h.enterAlarm addr _
  · split
    · exact h.enterAlarm addr _
    · split
      · exact h.enterAlarm addr _
      · exact h.putSeat addr

theorem Polls.alarmEnd (h : Polls a s t) : Polls a s (alarmEnd t) := by
  unfold Machine.alarmEnd
  split
  · exact h
  · exact (h.endCond _).setAlarm _

theorem Polls.recoverAlarm (h : Polls a s t) {r : SeatRecord} (addr : r.addr = a) (x : Read) :
    Polls a s (recoverAlarm r x t) := by
  unfold Machine.recoverAlarm
  split
  · split
    · exact Polls.alarmEnd (h.putSeat addr)
    · exact h.putSeat addr
  · exact h.putSeat addr

theorem Polls.rejectSeat (h : Polls a s t) {r : SeatRecord} (addr : r.addr = a) : Polls a s (rejectSeat r t) := by
  have put : Polls a s (Machine.putSeat ({ r with state := .isOpen }.setLamp true) t) := h.putSeat addr
  refine put.trans ⟨⟨rfl, rfl, rfl, rfl, rfl, rfl⟩, rfl, rfl, fun idle shut => ⟨?_, shut, fun r mem _ => mem⟩⟩
  exact congrArg (Option.map _) idle

theorem Polls.judgeChecking (h : Polls a s t) {r : SeatRecord} (addr : r.addr = a) (x : Read) (confirm : Bool) :
    Polls a s (judgeChecking r x confirm t) := by
  unfold Machine.judgeChecking
  split
  · exact h
  · exact h.rejectSeat addr

theorem Polls.applyState (h : Polls a s t) {r : SeatRecord} (addr : r.addr = a) (x : Read) (confirm : Bool) :
    Polls a s (applyState r x confirm t) := by
  unfold Machine.applyState
  split
  · exact h.followReads addr x
  · exact h.followReads addr x
  · exact h.followReads addr x
  · exact h.recoverFault addr x
  · exact h.watchChecked addr x
  · exact h.recoverAlarm addr x
  · exact h.judgeChecking addr x confirm

/-- The record after a response (R99, R101). -/
def answeredBy (op : SeatOp) (r : SeatRecord) (x : SeatResponse) : SeatRecord :=
  if x.classed r.lastCounter = .missed then r.takeResponse op x (x.classed r.lastCounter)
  else (r.takeResponse op x (x.classed r.lastCounter)).readOccupied x.occupied

/-- The response as the state rules read it (R99). -/
def readOf (r : SeatRecord) (x : SeatResponse) : Read :=
  { cls := x.classed r.lastCounter, locked := x.readsLocked r.travelLimit, lockA := x.lockA, lockB := x.lockB
    travel := x.travel }

/-- The command is sent and counted (R98, R99). -/
def polled (op : SeatOp) (r : SeatRecord) (x : SeatResponse) (s : State) : State :=
  s.setSeat
    { s.seat with counts := s.seat.counts.after x r.lastCounter, command := some (seatCommand r.addr op) }

/-- The response is taken into the record, and a new occupancy handed on (R99, R101). -/
def recordedSeat (op : SeatOp) (r : SeatRecord) (x : SeatResponse) (s : State) : State :=
  handOccupancy r (answeredBy op r x) (putSeat (answeredBy op r x) (polled op r x s))

theorem transact_eq (op : SeatOp) (r : SeatRecord) (w : BitVec 24) (confirm : Bool) (s : State) :
    transact op r w confirm s =
      let x := SeatResponse.ofBits w
      let u := recordedSeat op r x s
      testF13 s.seat.anyMissing r.addr
        (applyState ((u.seatAt r.addr).getD (answeredBy op r x)) (readOf r x) confirm u) := rfl

/-- A read of the occupied field changes the occupancy and its counting only (R101). -/
theorem readOccupied_rest (r : SeatRecord) (b : Bool) :
    r.readOccupied b =
      { r with
        occupied := (r.readOccupied b).occupied, runCount := (r.readOccupied b).runCount
        runValue := (r.readOccupied b).runValue } := by
  unfold SeatRecord.readOccupied
  generalize (if r.runCount ≠ 0 ∧ r.runValue = b then r.runCount + 1 else 1) = n
  dsimp only
  split
  · rfl
  · split <;> rfl

theorem readOccupied_addr (r : SeatRecord) (b : Bool) : (r.readOccupied b).addr = r.addr := by
  rw [readOccupied_rest]

theorem takeResponse_addr (r : SeatRecord) (op : SeatOp) (x : SeatResponse) (k : ResponseClass) :
    (r.takeResponse op x k).addr = r.addr := by
  cases k <;> rfl

theorem answeredBy_addr (op : SeatOp) (r : SeatRecord) (x : SeatResponse) : (answeredBy op r x).addr = r.addr := by
  unfold answeredBy
  split
  · exact takeResponse_addr ..
  · exact (readOccupied_addr ..).trans (takeResponse_addr ..)

theorem recordedSeat_polls (op : SeatOp) (r : SeatRecord) (x : SeatResponse) (s : State) :
    Polls r.addr (polled op r x s) (recordedSeat op r x s) :=
  ((Polls.refl _ _).putSeat (answeredBy_addr op r x)).handOccupancy ..

theorem seatAt_addr {s : State} {r : SeatRecord} (addr : r.addr = a) : ((s.seatAt a).getD r).addr = a := by
  cases h : s.seatAt a with
  | none => exact addr
  | some y => exact (find_some h).2

theorem transact_polls (op : SeatOp) (r : SeatRecord) (w : BitVec 24) (confirm : Bool) (s : State) :
    Polls r.addr (polled op r (.ofBits w) s) (transact op r w confirm s) := by
  rw [transact_eq]
  exact ((recordedSeat_polls ..).applyState (seatAt_addr (answeredBy_addr ..)) ..).testF13 ..

end Sys2Proof.Claims

namespace Sys2Proof.Claims

open Sys2Proof.Machine

/-! ### Rounds, and the end of a check (R97, R110, R111) -/

theorem passCheck_addr (r : SeatRecord) : r.passCheck.addr = r.addr := by
  unfold SeatRecord.passCheck
  split <;> rfl

theorem failCheck_addr (r : SeatRecord) : r.failCheck.addr = r.addr := by
  unfold SeatRecord.failCheck
  split <;> rfl

/-- Whether a passed check holds the permit, from the records before it (R113). -/
theorem passCheck_permits (mustLock : Bool) (r : SeatRecord) :
    (!r.passCheck.required mustLock || decide (r.passCheck.state = .checked)) =
      (decide (r.state = .checking) || decide (r.state = .checked) ||
        !(decide (r.occupied = .yes) || (decide (r.occupied = .no) && mustLock))) := by
  have required : r.passCheck.required mustLock = r.required mustLock := by
    unfold SeatRecord.passCheck
    split <;> rfl
  rw [required, required_eq]
  unfold SeatRecord.passCheck
  by_cases checking : r.state = .checking
  · simp [checking]
  · simp [checking, Bool.or_comm]

/-- A check passes (R111). -/
theorem passCheck_to (c : Check) {s : State} (distinct : (s.seat.records.map (·.addr)).Nodup) :
    SeatsTo
      { s.seat with
        check := none, records := s.seat.records.map SeatRecord.passCheck
        permit :=
          s.seat.records.all fun r =>
            r.state = .checking || r.state = .checked ||
              !(r.occupied = .yes || (r.occupied = .no && s.config.committedMap.mustLock)) } s
      (passCheck c s) := by
  have ended := (SeatsTo.refl s).setSeat { s.seat with check := none }
  have all := mapSeats_to passCheck_addr (s := s.setSeat { s.seat with check := none }) distinct
  have whole := ended.trans all
  unfold Machine.passCheck
  dsimp only
  generalize mapSeats SeatRecord.passCheck (s.setSeat { s.seat with check := none }) = u at *
  have permit : u.seatsChecked =
      s.seat.records.all fun r =>
        r.state = .checking || r.state = .checked ||
          !(r.occupied = .yes || (r.occupied = .no && s.config.committedMap.mustLock)) := by
    rw [State.seatsChecked, whole.seat, whole.config]
    show (s.seat.records.map _).all _ = _
    rw [List.all_map]
    exact congrArg s.seat.records.all (funext (passCheck_permits _))
  rw [permit, whole.seat]
  exact (whole.setSeat _).event _

/-- A start that no cue made tells the cue unit nothing (R166, R168). -/
theorem takeStart_cue {r : StartRec} (source : ∀ id tag, r.source ≠ .cue id tag) (v : Fin 8) (s : State) :
    (takeStart v r s).cue = s.cue := by
  have reported (found : Option ClipState) (u : State) : (reportFailed v r found u).cue = u.cue := by
    unfold reportFailed
    split
    · rename_i id tag made
      exact absurd made (source id tag)
    · simp
  have faded {u : State} (pend : (u.getVoice v).pend = some r) : (fadeTest v u).cue = u.cue := by
    unfold fadeTest fadeEnd
    split
    · rw [pend]
      dsimp only
      split
      · simp
      · simp [reported]
    · rfl
  unfold takeStart preempt
  split
  · simp
  · dsimp only
    rw [faded (by simp [State.getVoice, State.putVoice])]
    split <;> simp

theorem announce_cue (clip : Nat) (s : State) : (announce clip s).cue = s.cue := by
  unfold announce
  split
  · exact takeStart_cue (by simp [announcement]) ..
  · simp

/-- The announcement of a failed check (R111, R176). -/
def announced (s : State) : State :=
  match s.config.committedMap.clip with
  | some clip => announce clip s
  | none => s

theorem announced_frame (s : State) :
    announced s =
        { s with host := (announced s).host, voice := (announced s).voice, clip := (announced s).clip } ∧
      (s.config.committedMap.clip = none → announced s = s) := by
  unfold announced
  split
  · rename_i clip named
    refine ⟨?_, fun none => by simp [none] at named⟩
    apply State.ext_fields <;> simp [announce_cue]
  · exact ⟨rfl, fun _ => rfl⟩

theorem failCheck_eq (c : Check) (s : State) :
    failCheck c s =
      reportCheck c .fail .rejected
        (announced
          (raiseQuiet .f14 .hold (.check .rejected)
            (mapSeats SeatRecord.failCheck (s.setSeat { s.seat with check := none })))) := rfl

/-- A check fails with a seat rejected (R111). -/
theorem failCheck_spec (c : Check) {s : State} (distinct : (s.seat.records.map (·.addr)).Nodup) :
    failCheck c s =
        { s with
          host := (failCheck c s).host, fault := (failCheck c s).fault, voice := (failCheck c s).voice
          clip := (failCheck c s).clip
          seat := { s.seat with check := none, records := s.seat.records.map SeatRecord.failCheck } } ∧
      ((failCheck c s).faultRec .f14).latched = true ∧
      (s.config.committedMap.clip = none →
        (failCheck c s).voice = s.voice ∧ (failCheck c s).clip = s.clip) := by
  have ended := (SeatsTo.refl s).setSeat { s.seat with check := none }
  have all := mapSeats_to failCheck_addr (s := s.setSeat { s.seat with check := none }) distinct
  obtain ⟨blocks, -⟩ := ended.trans all
  rw [failCheck_eq]
  generalize mapSeats SeatRecord.failCheck (s.setSeat { s.seat with check := none }) = u at *
  have raised : raiseQuiet .f14 .hold (.check .rejected) u =
      { u with
        host := (raiseQuiet .f14 .hold (.check .rejected) u).host
        fault := (raiseQuiet .f14 .hold (.check .rejected) u).fault } := by
    apply State.ext_fields <;> simp
  have latched : ((raiseQuiet .f14 .hold (.check .rejected) u).faultRec .f14).latched = true := by
    simp [FaultRecord.raised]
  generalize raiseQuiet .f14 .hold (.check .rejected) u = x at *
  obtain ⟨told, silent⟩ := announced_frame x
  have config : x.config = s.config := by rw [raised, blocks]
  have voice : x.voice = s.voice := by rw [raised, blocks]
  have clip : x.clip = s.clip := by rw [raised, blocks]
  refine ⟨?_, ?_, fun none => ?_⟩
  · generalize announced x = y at *
    rw [told, raised, blocks]
    rfl
  · have fault : (announced x).fault = x.fault := by rw [told]
    exact (State.faultRec_congr fault _ : (announced x).faultRec .f14 = _) ▸ latched
  · rw [silent (config ▸ none)]
    exact ⟨voice, clip⟩

theorem exec_roundEnd {s : State} {c : Bool} (round : s.seat.round = some { remaining := [], confirm := c }) :
    exec .roundEnd s = .next (endRound s) := by
  show execRoundEnd s = _
  rw [execRoundEnd, round]
  rfl

/-- The round is over, and the loop waits for the next (R97). -/
def roundOver (s : State) : State := s.setSeat { s.seat with round := none }

theorem endRound_confirm {s : State} {k : Check}
    (round : s.seat.round = some { remaining := [], confirm := true }) (running : s.seat.check = some k) :
    endRound s = countRound k (roundOver s) := by
  unfold endRound
  rw [round]
  dsimp only
  rw [State.setSeat_seat]
  dsimp only
  rw [running]
  rfl

end Sys2Proof.Claims

namespace Sys2Proof.Claims

open Sys2Proof.Machine

/-! ### The closing round (R97) -/

theorem transact_addrs (op : SeatOp) (r : SeatRecord) (w : BitVec 24) (confirm : Bool) (s : State) :
    (transact op r w confirm s).seat.records.map (·.addr) = s.seat.records.map (·.addr) :=
  (transact_polls op r w confirm s).addrs

theorem transact_round (op : SeatOp) (r : SeatRecord) (w : BitVec 24) (confirm : Bool) (s : State) :
    (transact op r w confirm s).seat.round = s.seat.round := by
  rw [(transact_polls op r w confirm s).unit]
  rfl

theorem transact_command (op : SeatOp) (r : SeatRecord) (w : BitVec 24) (confirm : Bool) (s : State) :
    (transact op r w confirm s).seat.command = some (seatCommand r.addr op) := by
  rw [(transact_polls op r w confirm s).unit]
  rfl

theorem roundTransact_addrs (w : BitVec 24) (s : State) :
    (roundTransact w s).seat.records.map (·.addr) = s.seat.records.map (·.addr) := by
  unfold roundTransact
  split
  · rfl
  · split
    · rfl
    · dsimp only
      split
      · rfl
      · exact transact_addrs ..

theorem finishRound_addrs (n : Nat) (ws : List (BitVec 24)) (s : State) :
    (finishRound n ws s).1.seat.records.map (·.addr) = s.seat.records.map (·.addr) := by
  induction n generalizing ws s with
  | zero => rfl
  | succ n ih => exact (ih _ _).trans (roundTransact_addrs ..)

theorem passCheck_addrs (c : Check) (s : State) :
    (passCheck c s).seat.records.map (·.addr) = s.seat.records.map (·.addr) ∧
      (passCheck c s).seat.round = s.seat.round := by
  obtain ⟨to', addrs⟩ := mapSeats_only SeatRecord.passCheck (s.setSeat { s.seat with check := none })
  unfold Machine.passCheck reportCheck
  refine ⟨by simpa using addrs, ?_⟩
  simp only [postEvent_frame, State.setSeat_seat]
  rw [to'.seat]
  rfl

theorem failCheck_addrs (c : Check) (s : State) :
    (failCheck c s).seat.records.map (·.addr) = s.seat.records.map (·.addr) ∧
      (failCheck c s).seat.round = s.seat.round := by
  obtain ⟨to', addrs⟩ := mapSeats_only SeatRecord.failCheck (s.setSeat { s.seat with check := none })
  rw [failCheck_eq]
  have seat (x : State) : (announced x).seat = x.seat := by rw [(announced_frame x).1]
  simp only [reportCheck, postEvent_frame, seat, raiseQuiet_frame]
  exact ⟨addrs, by rw [to'.seat]; rfl⟩

theorem countRound_more {k : Check} {s : State} (few : k.rounds + 1 < s.lim.confirmRounds) :
    countRound k s = s.setSeat { s.seat with check := some { k with rounds := k.rounds + 1 } } :=
  if_neg (Nat.not_le.2 few)

theorem countRound_passes {k : Check} {s : State} (many : s.lim.confirmRounds ≤ k.rounds + 1)
    (none : k.rejected = []) : countRound k s = passCheck { k with rounds := k.rounds + 1 } s := by
  unfold countRound
  dsimp only
  rw [if_pos many, none]
  rfl

theorem countRound_fails {k : Check} {s : State} (many : s.lim.confirmRounds ≤ k.rounds + 1)
    (some : k.rejected ≠ []) : countRound k s = failCheck { k with rounds := k.rounds + 1 } s := by
  unfold countRound
  dsimp only
  rw [if_pos many, if_neg (by simpa using some)]

theorem countRound_addrs (c : Check) (s : State) :
    (countRound c s).seat.records.map (·.addr) = s.seat.records.map (·.addr) ∧
      (countRound c s).seat.round = s.seat.round := by
  unfold countRound
  dsimp only
  split
  · split
    · exact passCheck_addrs ..
    · exact failCheck_addrs ..
  · exact ⟨rfl, rfl⟩

theorem endRound_addrs (s : State) :
    (endRound s).seat.records.map (·.addr) = s.seat.records.map (·.addr) ∧ (endRound s).seat.round = none := by
  unfold endRound
  split
  · rename_i none
    exact ⟨rfl, none⟩
  · dsimp only
    split
    · split
      · exact countRound_addrs ..
      · exact ⟨rfl, rfl⟩
    · exact ⟨rfl, rfl⟩

/-- A fitted module is sent LATCH (R97). -/
def latchSeat (a : Nat) (w : BitVec 24) (s : State) : State :=
  match s.seatAt a with
  | some r => transact .latch r w false s
  | none => s

theorem closingRound_cons (a : Nat) (l : List Nat) (ws : List (BitVec 24)) (s : State) :
    closingRound (a :: l) ws s = closingRound l ws.tail (latchSeat a (ws.headD noResponse) s) := rfl

theorem latchSeat_addrs (a : Nat) (w : BitVec 24) (s : State) :
    (latchSeat a w s).seat.records.map (·.addr) = s.seat.records.map (·.addr) ∧
      (latchSeat a w s).seat.round = s.seat.round := by
  unfold latchSeat
  split
  · exact ⟨transact_addrs .., transact_round ..⟩
  · exact ⟨rfl, rfl⟩

theorem closingRound_addrs (l : List Nat) (ws : List (BitVec 24)) (s : State) :
    (closingRound l ws s).seat.records.map (·.addr) = s.seat.records.map (·.addr) ∧
      (closingRound l ws s).seat.round = s.seat.round := by
  induction l generalizing ws s with
  | nil => exact ⟨rfl, rfl⟩
  | cons a l ih =>
    rw [closingRound_cons]
    obtain ⟨addrs, round⟩ := ih ws.tail (latchSeat a (ws.headD noResponse) s)
    obtain ⟨one, same⟩ := latchSeat_addrs a (ws.headD noResponse) s
    exact ⟨addrs.trans one, round.trans same⟩

/-- A fitted seat has a record. -/
theorem seatAt_some {s : State} {a : Nat} (fitted : a ∈ s.seat.records.map (·.addr)) :
    ∃ r, s.seatAt a = some r ∧ r.addr = a := by
  cases h : s.seatAt a with
  | some r => exact ⟨r, rfl, (find_some h).2⟩
  | none =>
    obtain ⟨r, mem, addr⟩ := List.mem_map.1 fitted
    exact absurd addr (find_none h r mem)

/-- The closing round ends with a LATCH to the last seat (R97, R98). -/
theorem closingRound_command (l : List Nat) {a : Nat} (ws : List (BitVec 24)) {s : State}
    (fitted : a ∈ s.seat.records.map (·.addr)) :
    (closingRound (l ++ [a]) ws s).seat.command = some (seatCommand a .latch) := by
  induction l generalizing ws s with
  | nil =>
    obtain ⟨r, found, rfl⟩ := seatAt_some fitted
    rw [List.nil_append, closingRound_cons, closingRound, latchSeat, found]
    exact transact_command ..
  | cons b l ih =>
    obtain ⟨one, -⟩ := latchSeat_addrs b (ws.headD noResponse) s
    exact ih ws.tail (one.symm ▸ fitted)

theorem exec_closing {s : State} (closing : s.seat.loop = .closing) (ws : List (BitVec 24)) :
    let rest := finishRound s.seat.left ws s
    let u := endRound rest.1
    let v := closingRound (u.seat.records.map (·.addr)) rest.2 u
    exec (.seatLoopClosingRound ws) s = .next (v.setSeat { v.seat with loop := .stopped, roundTimer := .stopped }) :=
  if_pos closing

/-- Settles O50: the round's begin and end, by what the check has counted, and the closing round. -/
theorem seatRoundsCarryTheCheck : Obligations.SeatRoundsCarryTheCheck := by
  intro s
  refine ⟨fun n loop timer idle => ?_, fun round => ?_, fun k round running => ?_, fun ws closing => ?_⟩
  · have confirm : s.seat.check.isSome = decide (s.seat.check ≠ none) := by
      cases s.seat.check <;> simp
    have begins : exec .pollRoundStart s = .next (beginRound s) := if_pos ⟨loop, by rw [timer]; rfl, idle⟩
    rw [begins, beginRound, confirm]
    rfl
  · rw [exec_roundEnd round, endRound, round]
    cases running : s.seat.check with
    | none =>
      dsimp only
      rw [State.setSeat_seat]
      dsimp only
      rw [running]
      rfl
    | some k =>
      dsimp only
      rw [State.setSeat_seat]
      dsimp only
      rw [running]
      rfl
  · rw [exec_roundEnd round, endRound_confirm round running]
    refine ⟨fun few => ?_, fun many none distinct => ?_, fun many some distinct => ?_⟩
    · rw [countRound_more (s := roundOver s) few]
      rfl
    · obtain ⟨distinct, -⟩ := distinct
      rw [countRound_passes (s := roundOver s) many none]
      obtain ⟨blocks, reports⟩ := passCheck_to { k with rounds := k.rounds + 1 }
        (s := roundOver s) distinct
      exact ⟨_, rfl, reports, blocks⟩
    · obtain ⟨distinct, -⟩ := distinct
      rw [countRound_fails (s := roundOver s) many some]
      exact ⟨_, rfl, failCheck_spec { k with rounds := k.rounds + 1 }
        (s := roundOver s) distinct⟩
  · have before := finishRound_addrs s.seat.left ws s
    obtain ⟨ended, out⟩ := endRound_addrs (finishRound s.seat.left ws s).1
    obtain ⟨addrs, round⟩ := closingRound_addrs
      ((endRound (finishRound s.seat.left ws s).1).seat.records.map (·.addr)) (finishRound s.seat.left ws s).2
      (endRound (finishRound s.seat.left ws s).1)
    have fitted := ended.trans before
    refine ⟨_, exec_closing closing ws, rfl, rfl, round.trans out, by simp, by simp, by simp,
      (addrs.trans ended).trans before, fun _ r last => ?_⟩
    obtain ⟨others, records⟩ := List.getLast?_eq_some_iff.1 last
    have mem : r.addr ∈ s.seat.records.map (·.addr) := List.mem_map_of_mem (by simp [records])
    rw [State.setSeat_seat]
    dsimp only
    rw [fitted, records, List.map_append]
    exact closingRound_command _ _ (by rw [fitted]; exact mem)

end Sys2Proof.Claims

namespace Sys2Proof.Claims

open Sys2Proof.Machine

/-! ### Two open reads of a CHECKED seat in RUN (R104, R105, R113) -/

theorem unchecking_stands {r : SeatRecord} (other : r.state ≠ .checking) : r.unchecking = r := if_neg other

theorem unchecking_alarm {r : SeatRecord} (quiet : r.state ≠ .alarm) : r.unchecking.state ≠ .alarm := by
  unfold SeatRecord.unchecking
  split
  · dsimp only
    split
    · simp
    · rcases byLastRead_known r with h | h <;> simp [h]
  · exact quiet

theorem unchecking_addr (r : SeatRecord) : r.unchecking.addr = r.addr := by
  unfold SeatRecord.unchecking
  split <;> rfl

/-- The records after a check is ended: each as it was, or no longer CHECKING (R112). -/
theorem abortCheck_records {c : CheckCause} (other : c ≠ .module) {s : State}
    (distinct : (s.seat.records.map (·.addr)).Nodup) :
    (abortCheck c s).seat.records = s.seat.records ∨
      (abortCheck c s).seat.records = s.seat.records.map SeatRecord.unchecking := by
  cases running : s.seat.check with
  | none => exact .inl (by rw [abortCheck, running])
  | some k =>
    have all := mapSeats_to unchecking_addr (s := s.setSeat { s.seat with check := none }) distinct
    refine .inr ?_
    rw [abortCheck, running]
    dsimp only
    rw [if_neg other]
    simp [all.seat]

/-- A new occupancy of a CHECKED seat (R101, R112, R113). -/
theorem handOccupancy_checked (r : SeatRecord) {b : SeatRecord} (checked : b.state = .checked) {s : State}
    (distinct : (s.seat.records.map (·.addr)).Nodup) :
    ∃ u, SeatsTo u s (handOccupancy r b s) ∧ (b ∈ s.seat.records → b ∈ u.records) ∧
      ((∀ y ∈ s.seat.records, y.state ≠ .alarm) → ∀ y ∈ u.records, y.state ≠ .alarm) := by
  unfold handOccupancy becameKnown occupancyChanged
  split
  · exact ⟨_, SeatsTo.refl s, id, id⟩
  · split
    · rw [if_neg (by simp [checked])]
      exact ⟨_, SeatsTo.refl s, id, id⟩
    · dsimp only
      rw [if_neg (by simp [checked])]
      have ended := (abortCheck_to (c := .occupancy) (by decide) s).1
      have cleared := clearPermit_to (.occupancy b.addr) (abortCheck .occupancy s)
      refine ⟨_, ended.trans cleared, ?_⟩
      show (_ → b ∈ (abortCheck .occupancy s).seat.records) ∧
        (_ → ∀ y ∈ (abortCheck .occupancy s).seat.records, _)
      rcases abortCheck_records (c := .occupancy) (by decide) distinct with same | same
      · rw [same]
        exact ⟨id, id⟩
      · rw [same]
        refine ⟨fun mem => List.mem_map.2 ⟨b, mem, unchecking_stands (by simp [checked])⟩, fun quiet y mem => ?_⟩
        obtain ⟨x, old, rfl⟩ := List.mem_map.1 mem
        exact unchecking_alarm (quiet x old)

/-- A seat that enters ALARM while the vehicle runs (R105). -/
theorem enterAlarm_running {r : SeatRecord} (k : AlarmTest) {s : State} (runs : s.mstate = .run)
    (quiet : s.seat.anyAlarm = false) :
    enterAlarm r k s =
      setAlarm true
        (raiseFault .f11 (.seat r.addr)
          (clearPermit (.leftChecked r.addr) (putSeat { r with state := .alarm, alarm := 0, recovery := 0 } s))) := by
  unfold enterAlarm
  dsimp only
  have moving : (clearPermit (.leftChecked r.addr)
      (putSeat { r with state := .alarm, alarm := 0, recovery := 0 } s)).atRestInStation = false := by
    simp [State.atRestInStation, runs]
  rw [moving, quiet]
  rfl

/-- A stop of a vehicle that runs leaves the seat unit alone (R58, R112). -/
theorem stopCause_seat (c : StopCause) {s : State} (runs : s.mstate = .run) : (stopCause c s).seat = s.seat := by
  have moved : (moveTo .stopping (setStopRecord (some (newStopRecord c s)) s)).seat = s.seat := by
    obtain ⟨-, -, stands, -⟩ := changeMotion_seat .stopping
      (resumeAfter .run .stopping s.motion.record.resumeRun) (setStopRecord (some (newStopRecord c s)) s)
    have same : (setStopRecord (some (newStopRecord c s)) s).mstate = .run := runs
    rw [moveTo, same]
    exact stands (by simp [same])
  rw [stopCause, runs]
  dsimp only
  rw [takeStop, runs]
  exact moved

theorem raiseFault_seat {c : FaultCode} (other : c ≠ .f01) (stop : c.cls = .stop) (d : FaultDetail) {s : State}
    (runs : s.mstate = .run) : (raiseFault c d s).seat = s.seat := by
  rw [raiseFault, raiseAs, actByClass.eq_def, stop]
  dsimp only
  rw [if_neg other]
  simp [stopCause_seat, runs]

end Sys2Proof.Claims

namespace Sys2Proof.Claims

open Sys2Proof.Machine

/-- What a response stands for that reads a lock open in a good transmission (R99, R104). -/
theorem classed_good {x : SeatResponse} {last : Option Nat} (good : x.crcOk = true) (fresh : last ≠ some x.counter) :
    x.classed last ≠ .missed := by
  unfold SeatResponse.classed
  rw [if_neg (by simp [good, fresh])]
  split <;> simp

/-- A response leaves a record's state and its alarm count to the state rules (R98, R99, R101). -/
theorem answeredBy_kept (op : SeatOp) (r : SeatRecord) (x : SeatResponse) :
    (answeredBy op r x).state = r.state ∧ (answeredBy op r x).alarm = r.alarm := by
  have taken (k : ResponseClass) :
      (r.takeResponse op x k).state = r.state ∧ (r.takeResponse op x k).alarm = r.alarm := by
    cases k <;> exact ⟨rfl, rfl⟩
  unfold answeredBy
  split
  · exact taken _
  · rw [readOccupied_rest]
    exact taken _

/-- A CHECKED seat's second open read enters ALARM (R104). -/
theorem watchChecked_second {r : SeatRecord} {x : Read} (s : State) (once : r.alarm = 1) (good : x.cls ≠ .missed)
    (loose : x.lockA = false ∨ x.lockB = false) :
    watchChecked r x s = enterAlarm { r with alarm := 2 } .locks s := by
  have counted : r.alarmAfter x s.lim.travelTolerance = 2 := by
    unfold SeatRecord.alarmAfter
    split
    · rename_i missed
      exact absurd missed good
    · rw [if_pos (by tauto), once]
      rfl
  unfold watchChecked
  dsimp only
  rw [counted, if_pos rfl, if_pos loose]

theorem anyAlarm_false {u : SeatUnit} (quiet : ∀ y ∈ u.records, y.state ≠ .alarm) : u.anyAlarm = false := by
  unfold SeatUnit.anyAlarm
  rw [List.any_eq_false]
  exact fun y mem => by simpa using quiet y mem

/-- The alarm of a running vehicle (R104, R105, R113). -/
theorem enterAlarm_told {r : SeatRecord} (k : AlarmTest) {s : State} (runs : s.mstate = .run)
    (quiet : s.seat.anyAlarm = false) (fitted : r.addr ∈ s.seat.records.map (·.addr)) :
    (enterAlarm r k s).seat.permit = false ∧ (enterAlarm r k s).faultActive .f11 = true ∧
      ((enterAlarm r k s).faultRec .f11).latched = true ∧
      ((enterAlarm r k s).faultRec .f11).detail = .seat r.addr ∧ (enterAlarm r k s).voice.alarm = true ∧
      (enterAlarm r k s).mstate = .stopping ∧
      ∃ y ∈ (enterAlarm r k s).seat.records, y.addr = r.addr ∧ y.state = .alarm := by
  rw [enterAlarm_running k runs quiet]
  have put := putSeat_to { r with state := .alarm, alarm := 0, recovery := 0 } s
  have cleared := clearPermit_to (.leftChecked r.addr) (putSeat { r with state := .alarm, alarm := 0, recovery := 0 } s)
  rw [put.seat] at cleared
  have still : (clearPermit (.leftChecked r.addr)
      (putSeat { r with state := .alarm, alarm := 0, recovery := 0 } s)).mstate = .run := by simpa using runs
  have seat := cleared.seat
  generalize clearPermit (.leftChecked r.addr) (putSeat { r with state := .alarm, alarm := 0, recovery := 0 } s) = u at *
  have same : (raiseFault .f11 (.seat r.addr) u).seat = u.seat := raiseFault_seat (by decide) rfl _ still
  have record := raiseFault_rec (c := .f11) (by decide) (.seat r.addr) .f11 u
  rw [if_pos rfl] at record
  have told : ∀ c, (setAlarm true (raiseFault .f11 (.seat r.addr) u)).faultRec c =
      (raiseFault .f11 (.seat r.addr) u).faultRec c := fun c => State.faultRec_congr (by simp) c
  refine ⟨?_, ?_, ?_, ?_, rfl, ?_, ?_⟩
  · simp [same, seat]
  · simp [State.faultActive, told, record, FaultCode.momentary]
  · simp [told, record, FaultRecord.raised]
  · simp [told, record, FaultRecord.raised]
  · have stopped : (raiseFault .f11 (.seat r.addr) u).mstate = .stopping := by
      rw [raiseFault_stops (by decide) rfl, still]
      rfl
    simpa using stopped
  · obtain ⟨y, mem, addr⟩ := List.mem_map.1 fitted
    refine ⟨{ r with state := .alarm, alarm := 0, recovery := 0 }, ?_, rfl, rfl⟩
    have records : (setAlarm true (raiseFault .f11 (.seat r.addr) u)).seat.records = _ :=
      congrArg SeatUnit.records (same.trans seat)
    rw [records]
    exact List.mem_map.2 ⟨y, mem, if_pos addr⟩

/-- What F13's test leaves of the alarm (R103). -/
theorem testF13_rec (was : Bool) (addr : Nat) {c : FaultCode} (other : c ≠ .f13) (s : State) :
    (testF13 was addr s).faultRec c = s.faultRec c := by
  unfold testF13
  split
  · simp [other]
  · split
    · rw [endCond_rec, if_neg other]
    · rfl

/-- The second open read of a CHECKED seat, with the vehicle running (R104, R105). -/
theorem transact_alarm {op : SeatOp} {r : SeatRecord} {w : BitVec 24} (confirm : Bool) {s : State}
    (mem : r ∈ s.seat.records) (distinct : (s.seat.records.map (·.addr)).Nodup) (runs : s.mstate = .run)
    (checked : r.state = .checked) (once : r.alarm = 1) (good : (SeatResponse.ofBits w).crcOk = true)
    (fresh : r.lastCounter ≠ some (SeatResponse.ofBits w).counter)
    (loose : (SeatResponse.ofBits w).lockA = false ∨ (SeatResponse.ofBits w).lockB = false)
    (quiet : ∀ y ∈ s.seat.records, y.state ≠ .alarm) :
    ∃ b u, b.addr = r.addr ∧ r.addr ∈ u.seat.records.map (·.addr) ∧ u.mstate = .run ∧ u.seat.anyAlarm = false ∧
      transact op r w confirm s = testF13 s.seat.anyMissing r.addr (enterAlarm b .locks u) := by
  obtain ⟨state, alarm⟩ := answeredBy_kept op r (.ofBits w)
  have addr := answeredBy_addr op r (.ofBits w)
  rw [checked] at state
  rw [once] at alarm
  rw [transact_eq]
  dsimp only
  have put := putSeat_to (answeredBy op r (.ofBits w)) (polled op r (.ofBits w) s)
  have addrs := (putSeat_only (answeredBy op r (.ofBits w)) (polled op r (.ofBits w) s)).2
  have mstate : (recordedSeat op r (.ofBits w) s).mstate = .run := by
    obtain ⟨u, to', -⟩ := handOccupancy_checked r state
      (s := putSeat (answeredBy op r (.ofBits w)) (polled op r (.ofBits w) s)) (by rw [addrs]; exact distinct)
    unfold recordedSeat
    rw [to'.1, put.1]
    exact runs
  have polls := (recordedSeat_polls op r (.ofBits w) s).addrs
  obtain ⟨u, handed, kept, silent⟩ := handOccupancy_checked r state
    (s := putSeat (answeredBy op r (.ofBits w)) (polled op r (.ofBits w) s)) (by rw [addrs]; exact distinct)
  have seat : (recordedSeat op r (.ofBits w) s).seat = u := handed.seat
  rw [put.seat] at kept silent
  generalize answeredBy op r (.ofBits w) = b at *
  generalize recordedSeat op r (.ofBits w) s = v at *
  have here : b ∈ v.seat.records := seat ▸ kept (List.mem_map.2 ⟨r, mem, if_pos addr.symm⟩)
  have none : v.seat.anyAlarm = false := by
    refine anyAlarm_false (seat ▸ silent fun y mem => ?_)
    obtain ⟨x, old, rfl⟩ := List.mem_map.1 mem
    split
    · simp [state]
    · exact quiet x old
  have found : v.seatAt r.addr = some b := by
    rw [← addr]
    exact find_mem (by rw [polls]; exact distinct) here
  refine ⟨{ b with alarm := 2 }, v, addr, ?_, mstate, none, ?_⟩
  · rw [polls]
    exact List.mem_map_of_mem mem
  · rw [found, Option.getD_some, applyState, state]
    exact congrArg _ (watchChecked_second v alarm (classed_good good fresh) loose)

/-- The operation of a transaction (R98). -/
theorem pickOp_code (window : Timer) (r : SeatRecord) :
    (pickOp (decide (window ≠ .stopped)) r).code =
      if window ≠ .stopped then 1
      else if r.latchPending then 2
      else if r.lampPending then (if r.lamp then 3 else 4)
      else 0 := by
  unfold pickOp
  by_cases active : window ≠ .stopped
  · rw [if_pos (decide_eq_true active), if_pos active]
    rfl
  · rw [if_neg (by simpa using active), if_neg active]
    split
    · rfl
    · split
      · split <;> rfl
      · rfl

/-- The round's next address is taken (R98). -/
def roundLeft (c : Round) (rest : List Nat) (s : State) : State :=
  s.setSeat { s.seat with round := some { c with remaining := rest } }

theorem exec_transaction {s : State} {w : BitVec 24} {rest : List Nat} {confirm : Bool} {r : SeatRecord}
    (polls : s.seat.loop ≠ .stopped) (round : s.seat.round = some { remaining := r.addr :: rest, confirm := confirm })
    (mem : r ∈ s.seat.records) (distinct : (s.seat.records.map (·.addr)).Nodup) :
    exec (.seatTransaction w) s =
      .next
        (transact (pickOp (decide (s.seat.window ≠ .stopped)) r) r w confirm
          (roundLeft { remaining := r.addr :: rest, confirm := confirm } rest s)) := by
  have found : (roundLeft { remaining := r.addr :: rest, confirm := confirm } rest s).seatAt r.addr = some r :=
    find_mem distinct mem
  have row : exec (.seatTransaction w) s = .next (roundTransact w s) := if_neg polls
  rw [row, roundTransact, round]
  show Host.Outcome.next
    (match (roundLeft { remaining := r.addr :: rest, confirm := confirm } rest s).seatAt r.addr with
      | none => _
      | some x => _) = _
  rw [found]
  rfl

end Sys2Proof.Claims

namespace Sys2Proof.Claims

open Sys2Proof.Machine

/-- What a transaction leaves alone (R98 to R107). -/
theorem transact_blocks (op : SeatOp) (r : SeatRecord) (w : BitVec 24) (confirm : Bool) (s : State) :
    transact op r w confirm s =
        { s with
          host := (transact op r w confirm s).host, fault := (transact op r w confirm s).fault
          motion := (transact op r w confirm s).motion, seat := (transact op r w confirm s).seat
          voice := (transact op r w confirm s).voice } ∧
      OnlyReports s (transact op r w confirm s) := by
  obtain ⟨pending, config, guide, zone, cue, clip⟩ := (transact_polls op r w confirm s).blocks
  refine ⟨?_, HostLink.eq_of_port (by simp)⟩
  generalize transact op r w confirm s = t at *
  exact State.ext_fields pending config guide rfl zone rfl cue clip rfl rfl rfl

/-- Settles O51: the transaction of the round's next seat, and the alarm of its second open read. -/
theorem seatTransactionWatchesLocks : Obligations.SeatTransactionWatchesLocks := by
  intro s w a rest confirm r loop round mem addr distinct
  subst addr
  obtain ⟨distinct, -⟩ := distinct
  dsimp only
  have polls := transact_polls (pickOp (decide (s.seat.window ≠ .stopped)) r) r w confirm
    (roundLeft { remaining := r.addr :: rest, confirm := confirm } rest s)
  obtain ⟨blocks, reports⟩ := transact_blocks (pickOp (decide (s.seat.window ≠ .stopped)) r) r w confirm
    (roundLeft { remaining := r.addr :: rest, confirm := confirm } rest s)
  refine ⟨_, exec_transaction loop round mem distinct, blocks, reports, ?_, ?_, ?_, polls.addrs, ?_, ?_⟩
  · rw [polls.unit]
    rfl
  · rw [transact_command, seatCommand, pickOp_code]
  · rw [polls.unit]
    rfl
  · intro y old other idle shut
    obtain ⟨-, -, stands⟩ := polls.others idle shut
    exact stands y old other
  · intro runs checked once good fresh loose quiet
    obtain ⟨b, u, same, fitted, runs, none, whole⟩ :=
      transact_alarm (s := roundLeft { remaining := r.addr :: rest, confirm := confirm } rest s)
        (op := pickOp (decide (s.seat.window ≠ .stopped)) r) (w := w) confirm mem distinct runs checked once good
        fresh loose quiet
    obtain ⟨permit, active, latched, detail, alarm, stops, y, there, here, state⟩ :=
      enterAlarm_told .locks runs none (same ▸ fitted)
    have kept := testF13_rec (roundLeft { remaining := r.addr :: rest, confirm := confirm } rest s).seat.anyMissing
      r.addr (c := .f11) (by decide) (enterAlarm b .locks u)
    rw [whole]
    simp only [testF13_frame, State.faultActive, kept]
    rw [same] at detail here
    exact ⟨permit, active, latched, detail, alarm, stops, y, there, here, state⟩

end Sys2Proof.Claims

namespace Sys2Proof.Claims

open Sys2Proof.Machine

/-! ### Show flags (R136 to R139) -/

theorem onRequest_tells {α : Type} {k : Byte} {judge : α → State → State × Answer} {s u : State}
    {f : RxFrame} {rest : List RxFrame} {a : α} {ans : Answer} (taken : Taken k s f rest)
    (judged : judge a (frameTaken s rest) = (u, ans))
    (port : u.host.port = (frameTaken s rest).host.port) :
    ∃ h, onRequest k (.fit a) s (answering judge) = .next (u.setHost h) ∧ h.reports = u.host.reports ∧
      Answered s (u.setHost h) f rest ans.cls ans.detail ans.body := by
  obtain ⟨h, runs, answered⟩ := onRequest_does taken judged port
  have row : onRequest k (.fit a) s (answering judge) = .next (sendReply f ans u) := by
    rw [onRequest_taken _ a taken, answering, judged]
  have same : u.setHost h = sendReply f ans u := by
    injection runs.symm.trans row
  have host : h = (sendReply f ans u).host := congrArg State.host same
  obtain ⟨reports, -⟩ := sendReply_reports f ans u
  exact ⟨h, runs, host ▸ reports, answered⟩

theorem postState_self (k : StateKind) (i : Nat) {s : State} (room : s.host.reports.length ≤ 40) :
    Report.state k i ∈ (postState k i s).host.reports := by
  unfold postState
  split
  · assumption
  · rw [State.setHost_host, HostLink.joinTail_room (Nat.lt_of_le_of_lt room (by decide))]
    simp

/-- A flag's write changes that flag only, and is reported where it changes it (R136). -/
theorem writeFlag_spec (i : Fin 32) (v : Bool) (s : State) :
    writeFlag i v s =
        { s with host := (writeFlag i v s).host, cue := { s.cue with flags := s.cue.flags.set i v } } ∧
      OnlyReports s (writeFlag i v s) ∧
      (s.cue.flags[i] ≠ v → s.host.reports.length ≤ 40 → Report.state .flags 0 ∈ (writeFlag i v s).host.reports) := by
  unfold writeFlag
  by_cases same : s.flag i = v
  · have stands : s.cue.flags.set i v = s.cue.flags := by
      rw [← same]
      exact Vector.set_getElem_self i.isLt
    rw [if_pos same, stands]
    exact ⟨rfl, rfl, fun other => absurd same other⟩
  · rw [if_neg same]
    refine ⟨by rw [postState_eq]; rfl, HostLink.eq_of_port (by simp), fun _ room => postState_self _ _ room⟩

theorem flagValue_num (b : Bool) : flagValue (if b then 1 else 0) = some b := by cases b <;> rfl

theorem flagValue_none {n : Nat} (h : 1 < n) : flagValue n = none := by
  match n, h with
  | n + 2, _ => rfl

theorem flagSet_takes (i : Fin 32) (v : Bool) (s : State) :
    flagSet { index := i, value := if v then 1 else 0 } s =
      (writeFlag i v s, ⟨.done, .done, .flag s.cue.flags[i]⟩) := by
  rw [flagSet, dif_pos i.isLt, flagValue_num]
  rfl

theorem flagExchange_takes {i : Fin 32} {e : Bool} (v : Bool) {s : State} (same : s.cue.flags[i] = e) :
    flagExchange { index := i, expected := if e then 1 else 0, value := if v then 1 else 0 } s =
      (writeFlag i v s, ⟨.done, .done, .flag v⟩) := by
  rw [flagExchange, dif_pos i.isLt, flagValue_num, flagValue_num]
  exact if_pos same

theorem flagExchange_differs {i : Fin 32} {e : Bool} (v : Bool) {s : State} (other : s.cue.flags[i] ≠ e) :
    flagExchange { index := i, expected := if e then 1 else 0, value := if v then 1 else 0 } s =
      (s, ⟨.qualified, .different, .flag s.cue.flags[i]⟩) := by
  rw [flagExchange, dif_pos i.isLt, flagValue_num, flagValue_num]
  exact if_neg other

theorem flagSet_refused {index value : Nat} (bad : 31 < index ∨ 1 < value) (s : State) :
    flagSet { index := index, value := value } s = (s, .invalid .range) := by
  unfold flagSet
  split
  · rename_i low
    rw [flagValue_none (bad.resolve_left (by simpa using Nat.le_of_lt_succ low))]
  · rfl

theorem flagExchange_refused {index expected value : Nat} (bad : 31 < index ∨ 1 < expected ∨ 1 < value) (s : State) :
    flagExchange { index := index, expected := expected, value := value } s = (s, .invalid .range) := by
  unfold flagExchange
  split
  · rename_i low
    rcases bad.resolve_left (by simpa using Nat.le_of_lt_succ low) with bad | bad
    · rw [flagValue_none bad]
    · rw [flagValue_none bad]
      cases flagValue expected <;> rfl
  · rfl

/-- A wayside frame that is taken on a link that is UP (R90). -/
theorem onWayside_up {s : State} {dest : Byte} (up : s.zone.link = .up) (addressed : Addressed s dest)
    (act : State → State) : onWayside dest s act = .next (act (s.setZone (heard s))) := by
  rw [← validFrame_up up]
  exact onWayside_taken (by simp [up]) (addressed_of addressed)

/-- Settles O52: each flag command by its index and value. -/
theorem flagCommandsWriteOneFlag : Obligations.FlagCommandsWriteOneFlag := by
  refine ⟨fun s i v e => ⟨fun f rest taken => ?_, fun f rest taken => ⟨fun same => ?_, fun other => ?_⟩,
    fun dest index up addressed => ⟨fun low => ?_, fun high => ?_⟩⟩, fun s f rest index expected value => ⟨?_, ?_⟩⟩
  · obtain ⟨blocks, reports, told⟩ := writeFlag_spec i v (frameTaken s rest)
    obtain ⟨h, runs, same, answered⟩ :=
      onRequest_tells taken (flagSet_takes i v (frameTaken s rest)) (by rw [reports]; rfl)
    exact ⟨_, runs, congrArg (fun x : State => x.setHost h) blocks, fun other room => same ▸ told other room, answered⟩
  · obtain ⟨blocks, reports, told⟩ := writeFlag_spec i v (frameTaken s rest)
    obtain ⟨h, runs, same, answered⟩ :=
      onRequest_tells taken (flagExchange_takes (s := frameTaken s rest) v same) (by rw [reports]; rfl)
    exact ⟨_, runs, congrArg (fun x : State => x.setHost h) blocks, fun other room => same ▸ told other room, answered⟩
  · exact onRequest_answer taken (flagExchange_differs (s := frameTaken s rest) v other)
  · obtain ⟨blocks, reports, told⟩ := writeFlag_spec i v (s.setZone (heard s))
    have shown : showFlagFrame index.toNat v (s.setZone (heard s)) = writeFlag i v (s.setZone (heard s)) := by
      rw [low, showFlagFrame, dif_pos i.isLt]
    refine ⟨_, (onWayside_up up addressed _).trans (congrArg _ shown), blocks, told, reports⟩
  · have shown : showFlagFrame index.toNat v (s.setZone (heard s)) =
        postEvent (.flagRejected index.toNat v) (s.setZone (heard s)) := by
      rw [showFlagFrame, dif_neg (by omega)]
    refine ⟨_, (onWayside_up up addressed _).trans (congrArg _ shown), rfl, HostLink.eq_of_port (by simp), fun room => ?_⟩
    exact postEvent_self _ _ (Nat.lt_of_le_of_lt room (by decide))
  · exact fun taken bad => onRequest_answer taken (flagSet_refused bad _)
  · exact fun taken bad => onRequest_answer taken (flagExchange_refused bad _)

end Sys2Proof.Claims

namespace Sys2Proof.Claims

open Sys2Proof.Machine

/-! ### Acknowledgements and pulses (R130 to R132, R135) -/

theorem isFor_iff {e : AckEntry} {id : Nat} {tag : Byte} : e.isFor id tag = true ↔ e.cueId = id ∧ e.tag = tag := by
  simp [AckEntry.isFor]

theorem ackFor_none {s : State} {id : Nat} {tag : Byte} (out : ∀ e ∈ s.cue.acks, ¬(e.cueId = id ∧ e.tag = tag)) :
    s.ackFor id tag = none :=
  List.find?_eq_none.2 fun e mem hit => out e mem (isFor_iff.1 hit)

theorem ackFor_some {s : State} {id : Nat} {tag : Byte} {e : AckEntry} (h : AckOf s id tag e) :
    s.ackFor id tag = some e := by
  obtain ⟨mem, same, tagged, only⟩ := h
  cases found : s.ackFor id tag with
  | none => exact absurd (isFor_iff.2 ⟨same, tagged⟩) (List.find?_eq_none.1 found e mem)
  | some x =>
    have hit : x.isFor id tag = true := List.find?_some (p := fun e : AckEntry => e.isFor id tag) found
    obtain ⟨same, tagged⟩ := isFor_iff.1 hit
    rw [only x (List.mem_of_find?_eq_some found) same tagged]

/-- A CUE ACK for an entry closes it, and is told of a resend (R131). -/
theorem takeAck_spec {s : State} {id : Nat} {tag : Byte} {e : AckEntry} (h : AckOf s id tag e) :
    takeAck id tag s = { s with host := (takeAck id tag s).host, cue := (takeAck id tag s).cue } ∧
      OnlyReports s (takeAck id tag s) ∧
      (takeAck id tag s).cue =
        { s.cue with
          acks := s.cue.acks.filter fun x => !(x.cueId = id && x.tag = tag)
          cues :=
            if e.sends = 2 then
              s.cue.cues.map fun c => if c.id = id then { c with last := some (.ackedOnResend, s.cue.lap) } else c
            else s.cue.cues } ∧
      (e.sends = 2 → Posted s (takeAck id tag s) (.cue id .ackedOnResend .bare)) := by
  unfold takeAck
  rw [ackFor_some h]
  dsimp only
  by_cases again : e.sends = 2
  · rw [if_pos again, if_pos again]
    refine ⟨rfl, HostLink.eq_of_port (by simp), rfl, fun _ room => ?_⟩
    exact postEvent_self _ _ (Nat.lt_of_le_of_lt room (by decide))
  · rw [if_neg again, if_neg again]
    exact ⟨rfl, rfl, rfl, fun sent => absurd sent again⟩

theorem exec_ackTimer {s : State} {id : Nat} {tag : Byte} {e : AckEntry} {n : Nat} (h : AckOf s id tag e)
    (waits : e.stage = .waiting n) :
    exec (.ackTimerExpiry id tag) s =
      if e.sends = 1 then .next (resendScene e s) else .next (unacknowledged e s) := by
  show execAckTimerExpiry id tag s = _
  rw [execAckTimerExpiry, ackFor_some h]
  dsimp only
  rw [if_neg (by simp [waits])]

/-- The frame of a cue is sent once more (R132). -/
theorem resendScene_room {s : State} {e : AckEntry} (link : s.zone.link ≠ .stopped) (room : s.zone.long.length < 16) :
    resendScene e s =
      { s with
        zone :=
          { s.zone with
            long :=
              s.zone.long ++
                [.scene
                  { controller := e.controller, number := e.number, cueId := e.cueId
                    tag := e.tag, late := e.late, ack := true, sends := 2 }] }
        cue :=
          { s.cue with
            acks :=
              s.cue.acks.map fun x =>
                if x.cueId = e.cueId ∧ x.tag = e.tag then { x with sends := 2, stage := .queued } else x } } := by
  unfold resendScene
  simp only [isFor_iff]
  exact if_pos ⟨room, link⟩

/-- The entry closes as UNACKNOWLEDGED, with F21 (R132). -/
theorem unacknowledged_spec (e : AckEntry) (s : State) :
    let t := unacknowledged e s
    t = { s with host := t.host, fault := t.fault, cue := t.cue } ∧ OnlyReports s t ∧
      (t.faultRec .f21).latched = true ∧ (t.faultRec .f21).detail = .cue e.cueId ∧
      (∀ c, c ≠ .f21 → t.faultRec c = s.faultRec c) ∧
      t.cue =
        { s.cue with
          acks := s.cue.acks.filter fun x => !(x.cueId = e.cueId && x.tag = e.tag)
          cues :=
            s.cue.cues.map fun c =>
              if c.id = e.cueId then { c with last := some (.unacknowledged, s.cue.lap) } else c } := by
  have told : tellCue e.cueId .unacknowledged (.scene e.controller e.number) (closeAck e.cueId e.tag s) =
      (postEvent (.cue e.cueId .unacknowledged (.scene e.controller e.number)) s).setCue
        { s.cue with
          acks := s.cue.acks.filter fun x => !(x.cueId = e.cueId && x.tag = e.tag)
          cues :=
            s.cue.cues.map fun c =>
              if c.id = e.cueId then { c with last := some (.unacknowledged, s.cue.lap) } else c } := rfl
  unfold unacknowledged
  rw [told, raiseFault_f21]
  refine ⟨?_, HostLink.eq_of_port (by simp), by simp [FaultRecord.raised], by simp [FaultRecord.raised],
    fun c other => ?_, by simp⟩
  · apply State.ext_fields <;> simp
  · rw [raiseQuiet_rec, if_neg other]
    exact State.faultRec_congr (by simp) c

/-- Settles O53: an acknowledgement by its entry, a timer by the sends, and a pulse by its time. -/
theorem acksAndPulsesEnd : Obligations.AcksAndPulsesEnd := by
  refine ⟨fun s dest cueId tag up addressed => ⟨fun out => ?_, fun e entry => ?_⟩, fun s id tag e n entry waits => ?_,
    fun s o => ⟨fun due => ?_, fun runs => ?_⟩⟩
  · have row : exec (.cueAck dest cueId tag) s = .next (takeAck cueId.toNat tag (s.setZone (heard s))) :=
      onWayside_up up addressed _
    rw [row, takeAck, ackFor_none (s := s.setZone (heard s)) out]
    rfl
  · obtain ⟨blocks, reports, cue, posted⟩ := takeAck_spec (s := s.setZone (heard s)) entry
    exact ⟨_, onWayside_up up addressed _, blocks, reports, cue, posted⟩
  · have found := exec_ackTimer entry waits
    obtain ⟨-, rfl, rfl, -⟩ := entry
    refine ⟨fun once link room => ?_, fun twice => ?_⟩
    · rw [found, if_pos once, resendScene_room link room]
    · rw [found, if_neg (by omega)]
      exact ⟨_, rfl, unacknowledged_spec e s⟩
  · show execPulseExpiry o s = _
    rw [execPulseExpiry, due]
    rfl
  · show execPulseExpiry o s = _
    unfold execPulseExpiry
    split
    · rename_i none
      exact absurd none runs
    · rfl

end Sys2Proof.Claims

namespace Sys2Proof.Claims

open Sys2Proof.Machine

/-! ### What the taking of a cue does to the cue list (R126 to R128) -/

/-- A cue as it was, but for a last outcome that may be new, with the lap given. -/
def Retold (lap : Half) (c d : Cue) : Prop :=
  d = { c with last := d.last } ∧ (d.last = c.last ∨ ∃ o, d.last = some (o, lap))

theorem Retold.refl (lap : Half) (c : Cue) : Retold lap c c := ⟨rfl, .inl rfl⟩

theorem Retold.trans {lap : Half} {c d e : Cue} (h : Retold lap c d) (k : Retold lap d e) : Retold lap c e := by
  obtain ⟨same, last⟩ := h
  obtain ⟨same', last'⟩ := k
  refine ⟨by rw [same', same], ?_⟩
  rcases last' with kept | new
  · rw [kept]
    exact last
  · exact .inr new

theorem Retold.told {lap : Half} {c d : Cue} (h : Retold lap c d) (told : ∃ o, c.last = some (o, lap)) :
    ∃ o, d.last = some (o, lap) := by
  obtain ⟨-, kept | new⟩ := h
  · rwa [kept]
  · exact new

theorem Retold.effective {lap : Half} {c d : Cue} (h : Retold lap c d) (v : Nat) : d.effective v = c.effective v := by
  rw [h.1]
  rfl

theorem forall₂_retold_trans {lap : Half} {as bs cs : List Cue} (h : List.Forall₂ (Retold lap) as bs)
    (k : List.Forall₂ (Retold lap) bs cs) : List.Forall₂ (Retold lap) as cs := by
  induction h generalizing cs with
  | nil => exact k
  | cons first _ ih =>
    cases k with
    | cons second rest => exact .cons (first.trans second) (ih rest)

/-- The cue list as it was, but for last outcomes of this lap. -/
structure CuesRetold (s t : State) : Prop where
  pointer : t.cue.pointer = s.cue.pointer
  lap : t.cue.lap = s.cue.lap
  cues : List.Forall₂ (Retold s.cue.lap) s.cue.cues t.cue.cues

theorem forall₂_retold (lap : Half) (cs : List Cue) : List.Forall₂ (Retold lap) cs cs :=
  List.forall₂_same.2 fun c _ => Retold.refl lap c

theorem CuesRetold.of_cue {s t : State} (pointer : t.cue.pointer = s.cue.pointer) (lap : t.cue.lap = s.cue.lap)
    (cues : t.cue.cues = s.cue.cues) : CuesRetold s t := ⟨pointer, lap, cues ▸ forall₂_retold ..⟩

theorem CuesRetold.of_eq {s t : State} (h : t.cue = s.cue) : CuesRetold s t :=
  .of_cue (by rw [h]) (by rw [h]) (by rw [h])

theorem CuesRetold.trans {s t u : State} (h : CuesRetold s t) (k : CuesRetold t u) : CuesRetold s u := by
  refine ⟨k.pointer.trans h.pointer, k.lap.trans h.lap, ?_⟩
  have second := k.cues
  rw [h.lap] at second
  exact forall₂_retold_trans h.cues second

theorem tellCue_retold (id : Nat) (o : CueOutcome) (r : CueReport) (s : State) : CuesRetold s (tellCue id o r s) := by
  refine ⟨rfl, rfl, List.forall₂_map_right_iff.2 (List.forall₂_same.2 fun c _ => ?_)⟩
  split
  · exact ⟨rfl, .inr ⟨o, rfl⟩⟩
  · exact Retold.refl ..

theorem reportFailed_retold (v : Fin 8) (r : StartRec) (found : Option ClipState) (s : State) :
    CuesRetold s (reportFailed v r found s) := by
  unfold reportFailed
  split
  · exact tellCue_retold ..
  · exact .of_eq (by simp)

theorem fadeTest_retold (v : Fin 8) (s : State) : CuesRetold s (fadeTest v s) := by
  unfold fadeTest fadeEnd
  split
  · split
    · exact .of_eq (by simp)
    · dsimp only
      split
      · exact .of_eq (by simp)
      · exact .trans (.of_eq (by simp)) (reportFailed_retold ..)
  · exact .of_eq rfl

theorem takeStart_retold (v : Fin 8) (r : StartRec) (s : State) : CuesRetold s (takeStart v r s) := by
  unfold takeStart preempt
  split
  · exact .of_eq (by simp)
  · refine .trans (.of_eq ?_) (fadeTest_retold ..)
    split <;> simp

theorem stopVoice_retold (v : Fin 8) (fade : Nat) (s : State) : CuesRetold s (stopVoice v fade s) := by
  unfold stopVoice
  dsimp only
  split
  · exact .of_eq rfl
  · exact .trans (.of_eq (by simp)) (fadeTest_retold ..)
  · exact .trans (.of_eq (by simp)) (fadeTest_retold ..)
  · exact .trans (.of_eq (by simp)) (fadeTest_retold ..)
  · exact .trans (.of_eq (by simp)) (fadeTest_retold ..)

theorem putScene_retold (f : SceneFrame) (s : State) : CuesRetold s (putScene f s) := by
  unfold putScene
  split
  · exact .of_eq (by simp)
  · exact .trans (.of_cue (t := closeAck f.cueId f.tag s) rfl rfl rfl) (tellCue_retold ..)

theorem fireScene_retold (id : Nat) (late : Bool) (controller number : Nat) (ack : Bool) (s : State) :
    CuesRetold s (fireScene id late controller number ack s) := by
  have tag : CuesRetold s (takeSceneTag s) := .of_cue rfl rfl rfl
  unfold fireScene
  dsimp only
  refine .trans (tag.trans ?_) (putScene_retold ..)
  split
  · split
    · exact .of_cue rfl rfl rfl
    · have counted : CuesRetold (takeSceneTag s)
          ((takeSceneTag s).setCue
            { (takeSceneTag s).cue with untracked := bump 65535 (takeSceneTag s).cue.untracked }) :=
        .of_cue rfl rfl rfl
      exact counted.trans (tellCue_retold ..)
  · exact .of_eq rfl

theorem writeFlag_retold (i : Fin 32) (v : Bool) (s : State) : CuesRetold s (writeFlag i v s) := by
  obtain ⟨blocks, -⟩ := writeFlag_spec i v s
  rw [blocks]
  exact .of_cue rfl rfl rfl

/-- A number that names nothing acts on nothing (R121, R122). -/
theorem retold_dite {p : Prop} [Decidable p] {s : State} {f : p → State} (h : ∀ x, CuesRetold s (f x)) :
    CuesRetold s (if x : p then f x else s) := by
  split
  · exact h _
  · exact .of_eq rfl

theorem fireCue_retold (id : Nat) (late : Bool) (k : CueKind) (s : State) : CuesRetold s (fireCue id late k s) := by
  unfold fireCue
  cases k with
  | voiceStart v clip gain routes hold loop =>
    refine retold_dite fun low => ?_
    unfold cueVoiceStart
    split
    · exact takeStart_retold ..
    · exact tellCue_retold ..
  | voiceStop v fade => exact retold_dite fun low => stopVoice_retold ..
  | voiceGain v target ramp => exact retold_dite fun low => .of_eq (by simp)
  | scene controller number ack => exact fireScene_retold ..
  | output o op time => exact retold_dite fun low => .of_cue rfl rfl rfl
  | flag i v => exact retold_dite fun low => writeFlag_retold ..

/-- A cue that is taken has an outcome of this lap, and the pointer moves past it (R126, R127). -/
theorem takeCue_spec {i : Nat} {c : Cue} (front : Nat) {s : State} (at_ : s.cue.cues[i]? = some c) :
    (takeCue i c front s).cue.pointer = i + 1 ∧ (takeCue i c front s).cue.lap = s.cue.lap ∧
      List.Forall₂ (Retold s.cue.lap) s.cue.cues (takeCue i c front s).cue.cues ∧
      (∃ d o, (takeCue i c front s).cue.cues[i]? = some d ∧ d.last = some (o, s.cue.lap)) ∧
      (takeCue i c front s).motion = s.motion := by
  have marked : List.Forall₂ (Retold s.cue.lap) s.cue.cues
      (markSpan i (i + 1) (s.judgeCue c front) s).cue.cues := by
    refine List.forall₂_iff_get.2 ⟨by simp [markSpan], fun j low high => ?_⟩
    simp only [markSpan, State.setCue_cue, List.get_eq_getElem, List.getElem_mapIdx]
    split
    · exact ⟨rfl, .inr ⟨_, rfl⟩⟩
    · exact Retold.refl ..
  have there : (markSpan i (i + 1) (s.judgeCue c front) s).cue.cues[i]? =
      some { c with last := some (s.judgeCue c front, s.cue.lap) } := by
    simp [markSpan, at_]
  have rest : ∃ u : State, u.cue.pointer = i + 1 ∧ u.cue.lap = s.cue.lap ∧
      u.cue.cues = (markSpan i (i + 1) (s.judgeCue c front) s).cue.cues ∧ CuesRetold u (takeCue i c front s) := by
    refine ⟨(markSpan i (i + 1) (s.judgeCue c front) s).setCue
      { (markSpan i (i + 1) (s.judgeCue c front) s).cue with pointer := i + 1 }, rfl, rfl, rfl, ?_⟩
    have reported (q : Prop) [Decidable q] (e : EventReport) (u : State) :
        CuesRetold u (if q then u else postEvent e u) := by
      split
      · exact .of_eq rfl
      · exact .of_eq (by simp)
    unfold takeCue
    dsimp only
    split
    · exact (reported ..).trans (fireCue_retold ..)
    · exact reported ..
  obtain ⟨u, pointer, lap, cues, kept⟩ := rest
  have retold := kept.cues
  rw [cues, lap] at retold
  refine ⟨kept.pointer.trans pointer, kept.lap.trans lap,
    forall₂_retold_trans marked retold, ?_, by simp⟩
  obtain ⟨low, same⟩ := List.getElem?_eq_some_iff.1 there
  have high : i < (takeCue i c front s).cue.cues.length := retold.length_eq ▸ low
  have told := (List.forall₂_iff_get.1 retold).2 i low high
  simp only [List.get_eq_getElem, same] at told
  obtain ⟨o, last⟩ := told.told ⟨_, rfl⟩
  exact ⟨_, o, List.getElem?_eq_getElem high, last⟩

end Sys2Proof.Claims

namespace Sys2Proof.Claims

open Sys2Proof.Machine

/-! ### The cues reached (R124, R126) -/

/-- The cues from the pointer on whose effective trigger the front has reached (R126). -/
def reachedCues (v p front : Nat) (cs : List Cue) : List Cue :=
  (cs.drop p).takeWhile fun c => c.effective v ≤ front

theorem takeWhile_retold {lap : Half} (v front : Nat) {as bs : List Cue} (h : List.Forall₂ (Retold lap) as bs) :
    (bs.takeWhile fun c => c.effective v ≤ front).length = (as.takeWhile fun c => c.effective v ≤ front).length := by
  induction h with
  | nil => rfl
  | cons first _ ih =>
    simp only [List.takeWhile_cons, first.effective v]
    split
    · rw [List.length_cons, ih, List.length_cons]
    · rfl

theorem reachedCues_retold {lap : Half} (v p front : Nat) {as bs : List Cue} (h : List.Forall₂ (Retold lap) as bs) :
    (reachedCues v p front bs).length = (reachedCues v p front as).length :=
  takeWhile_retold v front (List.forall₂_drop p h)

/-- What the taking of the cues reached leaves (R126, R127). -/
structure TakesReached (front : Nat) (s t : State) : Prop where
  pointer :
    t.cue.pointer =
      s.cue.pointer + (reachedCues s.motion.speed.demand s.cue.pointer front s.cue.cues).length
  lap : t.cue.lap = s.cue.lap
  cues : List.Forall₂ (Retold s.cue.lap) s.cue.cues t.cue.cues
  taken :
    ∀ i, s.cue.pointer ≤ i → i < t.cue.pointer → ∃ c o, t.cue.cues[i]? = some c ∧ c.last = some (o, s.cue.lap)

/-- A cue list told again keeps the outcomes of this lap. -/
theorem told_stays {lap : Half} {as bs : List Cue} (h : List.Forall₂ (Retold lap) as bs) {i : Nat} {c : Cue}
    {o : CueOutcome} (there : as[i]? = some c) (last : c.last = some (o, lap)) :
    ∃ d o, bs[i]? = some d ∧ d.last = some (o, lap) := by
  obtain ⟨low, same⟩ := List.getElem?_eq_some_iff.1 there
  have high : i < bs.length := h.length_eq ▸ low
  have told := (List.forall₂_iff_get.1 h).2 i low high
  simp only [List.get_eq_getElem, same] at told
  obtain ⟨o, last⟩ := told.told ⟨o, last⟩
  exact ⟨_, o, List.getElem?_eq_getElem high, last⟩

theorem TakesReached.none {front : Nat} {s : State}
    (none : reachedCues s.motion.speed.demand s.cue.pointer front s.cue.cues = []) : TakesReached front s s :=
  ⟨by rw [none]; rfl, rfl, forall₂_retold .., fun i low high => absurd high (Nat.not_lt.2 low)⟩

/-- The cues reached are taken, up to the first that is not (R126). -/
theorem takeCues_spec (n front : Nat) (s : State) (enough : s.cue.cues.length ≤ s.cue.pointer + n) :
    TakesReached front s (takeCues n front s) := by
  induction n generalizing s with
  | zero => exact .none (by rw [reachedCues, List.drop_eq_nil_of_le (by simpa using enough)]; rfl)
  | succ n ih =>
    unfold takeCues
    split
    · rename_i past
      have short := List.getElem?_eq_none_iff.1 past
      exact .none (by rw [reachedCues, List.drop_eq_nil_of_le short]; rfl)
    · rename_i c there
      obtain ⟨low, same⟩ := List.getElem?_eq_some_iff.1 there
      have front_ : reachedCues s.motion.speed.demand s.cue.pointer front s.cue.cues =
          if c.effective s.motion.speed.demand ≤ front then
            c :: reachedCues s.motion.speed.demand (s.cue.pointer + 1) front s.cue.cues
          else [] := by
        simp only [reachedCues]
        rw [List.drop_eq_getElem_cons low, same, List.takeWhile_cons]
        simp only [decide_eq_true_eq]
      split
      · rename_i reached
        obtain ⟨pointer, lap, retold, ⟨d, o, here, last⟩, motion⟩ := takeCue_spec front there
        have rest := ih (takeCue s.cue.pointer c front s) (by rw [pointer, ← retold.length_eq]; omega)
        have length := reachedCues_retold s.motion.speed.demand (s.cue.pointer + 1) front retold
        generalize takeCue s.cue.pointer c front s = u at *
        obtain ⟨pointer', lap', cues', taken'⟩ := rest
        rw [lap] at lap' cues' taken'
        refine ⟨?_, lap', forall₂_retold_trans retold cues', fun i from_ upto => ?_⟩
        · rw [pointer', front_, if_pos reached, motion, pointer, length, List.length_cons]
          omega
        · by_cases first : i = s.cue.pointer
          · subst first
            exact told_stays cues' here last
          · exact taken' i (by omega) upto
      · rename_i far
        exact .none (by rw [front_, if_neg far])

theorem TakesReached.ids {front : Nat} {s t : State} (h : TakesReached front s t) :
    t.cue.cues.map (·.id) = s.cue.cues.map (·.id) := by
  obtain ⟨-, -, cues, -⟩ := h
  generalize t.cue.cues = bs at cues
  generalize s.cue.cues = as at cues
  induction cues with
  | nil => rfl
  | cons first _ ih =>
    rw [List.map_cons, List.map_cons, ih, first.1]

/-- An update that stays on the cue lap, with the position known before and after, is tested for firing (R123,
R124). -/
theorem cueUpdate_takes {u : PosUpdate} {s : State} (ready : s.isReady = true) (lap : u.lapAfter = s.cue.lap)
    (moves : u.isSet = false) (known : u.before.known = true) (after : u.after.known = true)
    (mayFire : s.mstate = .hold ∨ s.mstate = .run ∨ s.mstate = .creep ∨ s.mstate = .stopping) :
    cueUpdate u s = takeCues s.cue.cues.length u.frontAfter s := by
  have diff : s.lapDiff u.lapAfter = 0 := by simp [State.lapDiff, lap]
  have checked : lapChecked u s = s := by rw [lapChecked, diff, if_neg (by simp)]
  have running : u.placing = none := by
    have before : ¬((u.before = .unlocated ∨ u.before = .lost) ∧ u.after = .located) := by
      rintro ⟨un | lost, -⟩
      · simp [un, PosState.known] at known
      · simp [lost, PosState.known] at known
    rw [PosUpdate.placing, moves, if_neg before]
    rfl
  have tested : s.cueTested u = true := by
    rcases mayFire with m | m | m | m <;> simp [State.cueTested, after, m]
  rw [cueUpdate_eq, checked, diff, running, if_neg (by simp [ready]), if_neg (by simp)]
  dsimp only
  rw [if_pos tested]

end Sys2Proof.Claims

namespace Sys2Proof.Claims

open Sys2Proof.Machine

/-- With the cue unit the first to act, the others leave the cue list alone (R8). -/
theorem handOn_cueFirst {order : UnitOrder} (first : order = .cueMotionZone ∨ order = .cueZoneMotion)
    {u : PosUpdate} (moves : u.isSet = false) (s : State) : (handOn order u s).cue = (cueUpdate u s).cue := by
  have zone (x : State) : (zoneUpdate u x).cue = x.cue := by
    obtain ⟨-, -, -, cue⟩ := zoneUpdate_stopsOnly u x
    exact cue
  have motion (x : State) : (motionUpdate u x).cue = x.cue := (motionUpdate_driven moves x).cue
  rcases first with rfl | rfl
  · exact (zone _).trans (motion _)
  · exact (motion _).trans (zone _)

theorem mayFire_stopsTo {a b : MotionState} (may : b = a ∨ b = a.stopsTo)
    (fires : a = .hold ∨ a = .run ∨ a = .creep ∨ a = .stopping) :
    b = .hold ∨ b = .run ∨ b = .creep ∨ b = .stopping := by
  rcases may with rfl | rfl
  · exact fires
  · rcases fires with rfl | rfl | rfl | rfl <;> exact .inr (.inr (.inr rfl))

/-- Settles O54: the sample's update is tested for firing, and the cues reached are taken in list order. -/
theorem cuesReachedAreTaken : Obligations.CuesReachedAreTaken := by
  intro s g order ready first noMarker fires
  obtain ⟨t, step, whole, handed⟩ := guideSample_handed ready g order
  have guided := guided_spec g s
  refine ⟨t, step, fun known after lap => ?_⟩
  dsimp only
  obtain ⟨r, est⟩ := handed.est
  have front : t.guide.est.front = (Claims.guided g s).guide.est.front := by rw [est]
  have lapNow : t.guide.est.lap = (Claims.guided g s).guide.est.lap := by rw [est]
  have located : t.guide.est.posState = (Claims.guided g s).guide.est.posState := by rw [est]
  have isReady : (Claims.guided g s).isReady = true := by
    rw [State.isReady, guided.config]
    exact decide_eq_true ready
  have now : (update g s).after.known = true :=
    (congrArg PosState.known located).symm.trans (known_iff.1 after)
  have taken := cueUpdate_takes (u := update g s) isReady (by rw [guided.cue, ← lap, lapNow]; rfl) rfl
    (known_iff.1 known) now (mayFire_stopsTo guided.may.mstate fires)
  have cue : t.cue = (takeCues (Claims.guided g s).cue.cues.length t.guide.est.front (Claims.guided g s)).cue := by
    rw [front, whole, handOn_cueFirst first rfl, taken]
    rfl
  have speed : (Claims.guided g s).motion.speed = s.motion.speed := by rw [guided.may.motion]
  have spec := takeCues_spec (Claims.guided g s).cue.cues.length t.guide.est.front (Claims.guided g s)
    (Nat.le_add_left ..)
  have ids := spec.ids
  obtain ⟨pointer, lap, -, outcomes⟩ := spec
  rw [← cue] at pointer lap ids outcomes
  rw [guided.cue] at pointer lap ids outcomes
  rw [speed] at pointer
  exact ⟨pointer, lap, ids, fun i low high => outcomes i low (pointer ▸ high)⟩

end Sys2Proof.Claims

namespace Sys2Proof.Claims

open Sys2Proof.Machine

/-! ### The clip store's parts (R142 to R152) -/

/-- A reply is handed over with no regard to the clip store. -/
theorem sendReply_setClip (f : RxFrame) (a : Answer) (s : State) (c : ClipStore) :
    sendReply f a (s.setClip c) = (sendReply f a s).setClip c := by
  unfold sendReply handReply
  simp only [State.setClip_host]
  split <;> rfl

theorem putClip_fin (s : State) (n : Fin 512) (c : Option Clip) :
    s.putClip n c = s.setClip { s.clip with dir := s.clip.dir.set n c } := dif_pos n.isLt

theorem clipState_fin (s : State) (n : Fin 512) : s.clipState n = (s.clip.dir[n]).map (·.state) := by
  rw [State.clipState, clipAt_fin]

/-- The buffer neither holds nor fetches blocks of a clip (R158). -/
def NotBuffered (s : State) (n : Fin 512) : Prop :=
  (∀ o k, s.clip.buffer ≠ .fetching n o k) ∧ ∀ o d, s.clip.buffer ≠ .full n o d

theorem discardFor_other {s : State} {n : Fin 512} (out : NotBuffered s n) : discardFor n s = s := by
  obtain ⟨fetching, full⟩ := out
  refine if_neg fun same => ?_
  cases h : s.clip.buffer with
  | empty => simp [h, ReadBuffer.clip] at same
  | fetching c o k =>
    rw [h, ReadBuffer.clip, Option.some_inj] at same
    exact fetching o k (same ▸ h)
  | full c o d =>
    rw [h, ReadBuffer.clip, Option.some_inj] at same
    exact full o d (same ▸ h)

/-- The run clip becomes none when it is this clip (R146, R154). -/
theorem dropRun_eq (n : Nat) (s : State) :
    dropRun n s =
      s.setStage
        { s.clip.stage with
          runClip := if s.clip.stage.runClip = some n then none else s.clip.stage.runClip } := by
  unfold dropRun
  split <;> rfl

/-! ### CLIP DEFINE and CLIP ERASE (R145, R146) -/

/-- A range that overlaps no other clip's is found free (R143). -/
theorem overlapping_none {s : State} {n : Fin 512} {start blocks : Nat}
    (free : ∀ (m : Fin 512) (c : Clip), m ≠ n → s.clip.dir[m] = some c →
      start + blocks ≤ c.start ∨ c.start + (c.length + 255) / 256 ≤ start) :
    s.overlapping n start blocks = none := by
  refine List.find?_eq_none.2 fun m mem hit => ?_
  have low : m < 512 := List.mem_range.1 mem
  rw [Bool.and_eq_true, bne_iff_ne] at hit
  obtain ⟨other, overlap⟩ := hit
  have here := clipAt_fin s ⟨m, low⟩
  dsimp only at here
  rw [here] at overlap
  cases h : s.clip.dir[(⟨m, low⟩ : Fin 512)] with
  | none => simp [h] at overlap
  | some c =>
    rw [h] at overlap
    have apart := free ⟨m, low⟩ c (fun same => other (congrArg Fin.val same)) h
    dsimp only at overlap
    rw [rangesOverlap, Bool.and_eq_true, decide_eq_true_eq, decide_eq_true_eq, Clip.blocks] at overlap
    omega

/-- A CLIP DEFINE that passes its tests (R145). -/
theorem clipDefine_takes {s : State} {n : Fin 512} {start length : Nat} {loopStart : Option Nat} (some_ : 1 ≤ length)
    (fits : length ≤ 33554432) (low : start < 131072) (high : start + (length + 255) / 256 ≤ 131072)
    (loops : ∀ l, loopStart = some l → l < length) (bad : ∀ c, s.clip.dir[n] = some c → c.state = .bad)
    (free : ∀ (m : Fin 512) (c : Clip), m ≠ n → s.clip.dir[m] = some c →
      start + (length + 255) / 256 ≤ c.start ∨ c.start + (c.length + 255) / 256 ≤ start)
    (out : NotBuffered s n) :
    clipDefine { clip := n, start := start, length := length, loopStart := loopStart } s =
      (s.setClip
          { s.clip with
            dir :=
              s.clip.dir.set n
                (some { state := .loading, start := start, length := length, loopStart := loopStart
                        crc := none, plays := 0 }) },
        ⟨.done, .done, .number ((length + 255) / 256)⟩) := by
  have inRange : ¬ 511 < n.val := Nat.not_lt.2 (Nat.le_of_lt_succ n.isLt)
  have loop : ¬ (loopStart.map fun l => decide (length ≤ l)) = some true := by
    cases h : loopStart with
    | none => simp
    | some l => simpa using loops l h
  have state : ¬ ((s.clipState n).isSome ∧ s.clipState n ≠ some .bad) := by
    rw [clipState_fin]
    cases h : s.clip.dir[n] with
    | none => simp
    | some c => simp [bad c h]
  unfold clipDefine
  dsimp only
  rw [if_neg inRange, if_neg (by simp [Config.clipSamplesMax]; omega), if_neg (by simp [Config.blockCount]; omega),
    if_neg (by simp [Config.blockCount]; omega), if_neg loop, if_neg state, overlapping_none free, putClip_fin]
  exact congrArg (fun x => (x, _)) (discardFor_other out)

/-- A CLIP ERASE of a clip that nothing holds (R146). -/
theorem clipErase_takes {s : State} {n : Fin 512} {c : Clip} (f : RxFrame) (entry : s.clip.dir[n] = some c)
    (idle : c.plays = 0) (state : c.state ≠ .verifying) (unstaged : ∀ b ∈ s.clip.stage.blocks, b.clip ≠ n)
    (out : NotBuffered s n) :
    clipErase f n s =
      (sendReply f .done s).setClip
        { s.clip with
          dir := s.clip.dir.set n none
          stage :=
            { s.clip.stage with
              runClip := if s.clip.stage.runClip = some n.val then none else s.clip.stage.runClip } } := by
  have inRange : ¬ 511 < n.val := Nat.not_lt.2 (Nat.le_of_lt_succ n.isLt)
  have stages : s.stages n = false := by
    rw [State.stages, List.any_eq_false]
    exact fun b mem => by simpa using unstaged b mem
  unfold clipErase
  rw [if_neg inRange, clipAt_fin, entry]
  dsimp only
  rw [if_neg (by simp [idle]), if_neg state, stages]
  show finishErase f n s = _
  rw [finishErase, putClip_fin, dropRun_eq, discardFor_other (by exact out)]
  exact sendReply_setClip f .done s
    { s.clip with
      dir := s.clip.dir.set n none
      stage :=
        { s.clip.stage with
          runClip := if s.clip.stage.runClip = some n.val then none else s.clip.stage.runClip } }

end Sys2Proof.Claims

namespace Sys2Proof.Claims

open Sys2Proof.Machine

/-! ### CLIP DATA and the stage idle timer (R149 to R152) -/

/-- CLIP DATA passes the tests of R149. -/
theorem refuseData_none {s : State} {n : Fin 512} {c : Clip} {offset : Nat} {data : List Byte}
    (entry : s.clip.dir[n] = some c) (loading : c.state = .loading) (low : offset < (c.length + 255) / 256)
    (some_ : 1 ≤ data.length) (fits : data.length ≤ 512)
    (full : offset + 1 < (c.length + 255) / 256 → data.length = 512) :
    s.refuseData { clip := n, offset := offset, data := data } = none := by
  have inRange : ¬ 511 < n.val := Nat.not_lt.2 (Nat.le_of_lt_succ n.isLt)
  unfold State.refuseData
  dsimp only
  rw [if_neg inRange, if_neg (by simp only [Config.blockBytes]; omega), clipAt_fin, entry]
  dsimp only
  rw [if_neg (by simp [loading]), if_neg (show ¬ c.blocks ≤ offset from Nat.not_le.2 low), if_neg]
  rintro ⟨more, short⟩
  exact absurd (full more) (Nat.ne_of_lt short)

/-- The stage with one more waiting block (R150). -/
def staged (n : Fin 512) (offset : Nat) (data : List Byte) (s : State) : State :=
  s.setStage
    { blocks :=
        s.clip.stage.blocks ++
          [{ clip := n, offset := offset, data := data ++ List.replicate (512 - data.length) 0, committing := false }]
      runClip := some n.val, next := offset + 1, idle := .running s.lim.stageIdle }

theorem stageBlock_few {s : State} (n : Fin 512) (offset : Nat) (data : List Byte)
    (few : (s.clip.stage.blocks.filter fun b => !b.committing).length < 3) :
    stageBlock n offset data s = staged n offset data s := by
  refine if_neg ?_
  have waiting : (staged n offset data s).clip.stage.waiting.length =
      (s.clip.stage.blocks.filter fun b => !b.committing).length + 1 := by
    simp [WriteStage.waiting, staged, State.setStage]
  exact fun four => absurd (waiting.symm.trans four) (by omega)

/-- A CLIP DATA that continues the run stages its block (R149, R150). -/
theorem clipData_stages {s : State} {n : Fin 512} {offset : Nat} {data : List Byte} (f : RxFrame)
    (passes : s.refuseData { clip := n, offset := offset, data := data } = none)
    (run : s.clip.stage.runClip = some n.val) (next : s.clip.stage.next = offset)
    (room : s.clip.stage.blocks.length < 8)
    (few : (s.clip.stage.blocks.filter fun b => !b.committing).length < 3) (out : NotBuffered s n) :
    clipData f { clip := n, offset := offset, data := data } s =
      sendReply f ⟨.done, .done, .staged (s.clip.stage.blocks.length + 1) (offset + 1)⟩ (staged n offset data s) := by
  unfold clipData
  rw [passes]
  dsimp only
  rw [if_neg (by simp only [Config.stageMax]; omega), discardFor_other out, if_pos ⟨run, next⟩, finishData,
    stageBlock_few n offset data few]
  have length : (staged n offset data s).clip.stage.blocks.length = s.clip.stage.blocks.length + 1 := by
    simp [staged, State.setStage]
  exact congrArg (fun k => sendReply f ⟨.done, .done, .staged k (offset + 1)⟩ (staged n offset data s)) length

theorem exec_stageIdle {s : State} (due : s.clip.stage.idle = .running 0) :
    exec .stageIdleExpiry s = .next (commitWaiting s) := by
  show execStageIdleExpiry s = _
  rw [execStageIdleExpiry, due]
  rfl

theorem exec_stageIdle_waits {s : State} (waits : s.clip.stage.idle ≠ .running 0) :
    exec .stageIdleExpiry s = .next s := by
  show execStageIdleExpiry s = _
  unfold execStageIdleExpiry
  split
  · rename_i due
    exact absurd due waits
  · rfl

/-- Up to three waiting blocks are one group (R151, R152). -/
theorem groupsOf4_one {b : StagedBlock} {more : List StagedBlock} (few : more.length ≤ 2) (n : Nat) :
    groupsOf4 (n + 2) (b :: more) = [b :: more] := by
  have whole : (b :: more).take 4 = b :: more := List.take_of_length_le (by simp; omega)
  have none : (b :: more).drop 4 = [] := List.drop_eq_nil_of_le (by simp; omega)
  rw [groupsOf4, whole, none]
  rfl

/-- The waiting blocks are put in one commit request (R152). -/
theorem commitWaiting_one {s : State} {b : StagedBlock} {more : List StagedBlock} {c : Clip} {n : Fin 512}
    (waiting : (s.clip.stage.blocks.filter fun x => !x.committing) = b :: more) (few : more.length ≤ 2)
    (named : b.clip = n) (entry : s.clip.dir[n] = some c) :
    commitWaiting s =
      s.setClip
        { s.clip with
          stage :=
            { s.clip.stage with
              blocks := s.clip.stage.blocks.map fun x => { x with committing := true }, idle := .stopped }
          arb :=
            { s.clip.arb with
              commits :=
                s.clip.arb.commits ++
                  [{ clip := n, offset := b.offset, mem := c.start + b.offset
                     data := b.data :: more.map (·.data) }] } } := by
  have waits : s.clip.stage.waiting = b :: more := waiting
  have start : ((s.clip.stage.waiting.head?.bind fun b => s.clipAt b.clip).map (·.start)).getD 0 = c.start := by
    rw [waits, List.head?_cons, Option.bind_some, named, clipAt_fin, entry]
    rfl
  unfold commitWaiting
  dsimp only
  rw [start, waits, Config.stageMax, groupsOf4_one few 6, ← named]
  rfl

/-! ### CLIP SEAL (R154, R155) -/

/-- The clip store once a seal is taken (R154, R155). -/
def sealedClip (n : Fin 512) (c : Clip) (crc : Code) (s : State) : State :=
  let entered :=
    s.setClip
      { s.clip with
        dir := s.clip.dir.set n (some { c with state := .verifying, crc := some crc })
        verify := { s.clip.verify with queue := s.clip.verify.queue ++ [n.val] }
        stage :=
          { s.clip.stage with
            runClip := if s.clip.stage.runClip = some n.val then none else s.clip.stage.runClip } }
  if (s.clip.verify.queue ++ [n.val]).length = 1 then startVerify entered else entered

theorem finishSeal_eq {s : State} {n : Fin 512} {c : Clip} (f : RxFrame) (crc : Code)
    (entry : s.clip.dir[n] = some c) :
    finishSeal f n crc s =
      sendReply f ⟨.done, .done, .number (s.clip.verify.queue.length + 1)⟩ (sealedClip n c crc s) := by
  have length : (s.clip.verify.queue ++ [n.val]).length = s.clip.verify.queue.length + 1 := by simp
  unfold finishSeal
  rw [clipAt_fin, entry]
  dsimp only
  rw [putClip_fin, dropRun_eq, sealedClip, ← length]
  rfl

theorem startVerify_spec (s : State) :
    startVerify s = s.setClip (startVerify s).clip ∧ (startVerify s).clip.dir = s.clip.dir ∧
      (startVerify s).clip.verify.queue = s.clip.verify.queue ∧ (startVerify s).clip.mem = s.clip.mem ∧
      (startVerify s).clip.stage = s.clip.stage := by
  unfold startVerify
  split <;> exact ⟨rfl, rfl, rfl, rfl, rfl⟩

/-- The clip store after a seal (R154, R155). -/
theorem sealedClip_spec {s : State} {n : Fin 512} {c : Clip} (crc : Code) :
    sealedClip n c crc s = s.setClip (sealedClip n c crc s).clip ∧
      (sealedClip n c crc s).clip.dir = s.clip.dir.set n (some { c with state := .verifying, crc := some crc }) ∧
      (sealedClip n c crc s).clip.verify.queue = s.clip.verify.queue ++ [n.val] ∧
      (sealedClip n c crc s).clip.mem = s.clip.mem ∧
      (sealedClip n c crc s).clip.stage.runClip =
        (if s.clip.stage.runClip = some n.val then none else s.clip.stage.runClip) ∧
      (s.clip.verify.queue = [] →
        (sealedClip n c crc s).clip.verify.next = 0 ∧ (sealedClip n c crc s).clip.verify.crc = 0xFFFFFFFF ∧
          (sealedClip n c crc s).clip.arb.verify = some (n.val, c.start)) := by
  unfold sealedClip
  dsimp only
  split
  · generalize entered : s.setClip _ = u
    obtain ⟨blocks, dir, queue, mem, stage⟩ := startVerify_spec u
    refine ⟨by rw [blocks, ← entered]; rfl, by rw [dir, ← entered]; rfl, by rw [queue, ← entered]; rfl,
      by rw [mem, ← entered]; rfl, by rw [stage, ← entered]; rfl, fun empty => ?_⟩
    have head : u.clip.verify.queue = [n.val] := by
      rw [← entered]
      exact congrArg (· ++ [n.val]) empty
    have named : u.clipAt n = some { c with state := .verifying, crc := some crc } := by
      rw [clipAt_fin, ← entered]
      exact Vector.getElem_set_self n.isLt
    unfold startVerify
    rw [head]
    dsimp only
    rw [named]
    exact ⟨rfl, rfl, rfl⟩
  · rename_i more
    exact ⟨rfl, rfl, rfl, rfl, rfl, fun empty => absurd (by rw [empty]; rfl) more⟩

/-- A CLIP SEAL with an empty stage (R154). -/
theorem clipSeal_takes {s : State} {n : Fin 512} {c : Clip} (f : RxFrame) (crc : Code)
    (entry : s.clip.dir[n] = some c) (loading : c.state = .loading) (room : s.clip.verify.queue.length < 4)
    (empty : s.clip.stage.blocks = []) :
    clipSeal f { clip := n, crc := crc } s =
      sendReply f ⟨.done, .done, .number (s.clip.verify.queue.length + 1)⟩ (sealedClip n c crc (s.setHeld none)) := by
  have inRange : ¬ 511 < n.val := Nat.not_lt.2 (Nat.le_of_lt_succ n.isLt)
  unfold clipSeal
  dsimp only
  rw [if_neg inRange, clipState_fin, entry, if_neg (by simp [loading]),
    if_neg (by simp only [Config.verifyMax]; omega), flushFor, empty]
  exact finishSeal_eq (s := s.setHeld none) f crc entry

end Sys2Proof.Claims

namespace Sys2Proof.Claims

open Sys2Proof.Machine

theorem clipErase_absent {s : State} {n : Fin 512} (f : RxFrame) (absent : s.clip.dir[n] = none) :
    clipErase f n s = sendReply f .already s := by
  have inRange : ¬ 511 < n.val := Nat.not_lt.2 (Nat.le_of_lt_succ n.isLt)
  rw [clipErase, if_neg inRange, clipAt_fin, absent]

/-- A request that is answered, with the clip store changed beside. -/
theorem onRequest_clip {α : Type} {k : Byte} {act : RxFrame → α → State → State} {s : State} {f : RxFrame}
    {rest : List RxFrame} {a : α} {ans : Answer} {c : ClipStore} (taken : Taken k s f rest)
    (does : act f a (frameTaken s rest) = (sendReply f ans (frameTaken s rest)).setClip c) :
    onRequest k (.fit a) s act =
      .next { s with host := replied s.host rest (reply f ans.cls ans.detail ans.body), clip := c } := by
  rw [onRequest_taken _ a taken, does, sendReply_frameTaken]
  rfl

/-- A request that is answered, with the clip store changed before the reply. -/
theorem onRequest_answers {α : Type} {k : Byte} {act : RxFrame → α → State → State} {s u : State} {f : RxFrame}
    {rest : List RxFrame} {a : α} {ans : Answer} (taken : Taken k s f rest)
    (does : act f a (frameTaken s rest) = sendReply f ans u) (host : u.host = (frameTaken s rest).host) :
    ∃ h, onRequest k (.fit a) s act = .next (u.setHost h) ∧
      Answered s (u.setHost h) f rest ans.cls ans.detail ans.body := by
  obtain ⟨h, runs, answered⟩ := onRequest_does (judge := fun (_ : Unit) (_ : State) => (u, ans)) (a := ()) taken rfl
    (congrArg HostLink.port host)
  refine ⟨h, ?_, answered⟩
  rw [onRequest_taken _ a taken, does, ← runs, onRequest_taken _ () taken]
  rfl

/-- Settles O55: each clip request that passes its tests, and the idle timer by its time. -/
theorem clipsAreDefinedStagedAndSealed : Obligations.ClipsAreDefinedStagedAndSealed := by
  refine ⟨⟨?_, ?_⟩, ?_, ?_, ?_, ?_⟩
  · intro s f rest n start length loopStart taken some_ fits low high loops bad free fetching full
    refine onRequest_clip taken (ans := ⟨.done, .done, .number ((length + 255) / 256)⟩) ?_
    rw [answering, clipDefine_takes (s := frameTaken s rest) some_ fits low high loops bad free ⟨fetching, full⟩]
    exact sendReply_setClip ..
  · intro s f rest n taken
    refine ⟨fun absent => ?_, fun c entry idle state unstaged fetching full => ?_⟩
    · show onRequest 0x44 (.fit n.val) s clipErase = _
      rw [onRequest_taken _ _ taken, clipErase_absent (s := frameTaken s rest) f absent, sendReply_frameTaken]
      rfl
    · exact onRequest_clip taken
        (clipErase_takes (s := frameTaken s rest) f entry idle state unstaged ⟨fetching, full⟩)
  · intro s f rest n c offset data taken entry loading low some_ fits full run next room few fetching held
    refine onRequest_clip taken
      (ans := ⟨.done, .done, .staged (s.clip.stage.blocks.length + 1) (offset + 1)⟩) ?_
    rw [clipData_stages (s := frameTaken s rest) f (refuseData_none (s := frameTaken s rest) entry loading low some_
      fits full) run next room few ⟨fetching, held⟩]
    exact sendReply_setClip ..
  · exact fun s waits => exec_stageIdle_waits waits
  · intro s b more c n due waiting few named entry
    rw [exec_stageIdle due, commitWaiting_one waiting few named entry]
    rfl
  · intro s f rest n c crc taken entry loading room empty
    have does := clipSeal_takes (s := frameTaken s rest) f crc entry loading room empty
    obtain ⟨blocks, dir, queue, mem, run, first⟩ :=
      sealedClip_spec (s := (frameTaken s rest).setHeld none) (n := n) (c := c) crc
    have free : (frameTaken s rest).setHeld none = frameTaken s rest := by
      obtain ⟨held, -⟩ := taken
      show (frameTaken s rest).setHost { (frameTaken s rest).host with held := none } = _
      rw [show none = (frameTaken s rest).host.held from held.symm]
      rfl
    rw [free] at does blocks dir queue mem run first
    have host : (sealedClip n c crc (frameTaken s rest)).host = (frameTaken s rest).host := by
      rw [blocks]
      rfl
    obtain ⟨h, runs, answered⟩ := onRequest_answers taken does host
    refine ⟨_, runs, ?_, answered, dir, queue, mem, run, first⟩
    rw [blocks]
    rfl

end Sys2Proof.Claims

namespace Sys2Proof.Claims

open Sys2Proof.Machine

/-! ### CLIP READ (R157, R158) -/

/-- The prefetch after a read changes the buffer and the arbiter's waiting read only (R158). -/
theorem prefetch_spec (clip offset : Nat) (s : State) :
    prefetch clip offset s = s.setClip (prefetch clip offset s).clip ∧
      (prefetch clip offset s).clip.mem = s.clip.mem ∧ (prefetch clip offset s).clip.dir = s.clip.dir ∧
      (prefetch clip offset s).clip.stage = s.clip.stage ∧
      (prefetch clip offset s).clip.arb.port = s.clip.arb.port := by
  unfold prefetch
  split
  · exact ⟨rfl, rfl, rfl, rfl, rfl⟩
  · dsimp only
    split <;> exact ⟨rfl, rfl, rfl, rfl, rfl⟩

/-- A CLIP READ that passes its tests, of a clip the stage holds no block of (R157). -/
theorem clipRead_obtains {s : State} {n : Fin 512} {c : Clip} {offset count : Nat} (f : RxFrame)
    (entry : s.clip.dir[n] = some c) (some_ : 1 ≤ count) (few : count ≤ 2)
    (low : offset + count ≤ (c.length + 255) / 256) (unstaged : ∀ b ∈ s.clip.stage.blocks, b.clip ≠ n) :
    clipRead f { clip := n, offset := offset, count := count } s = obtainBlocks f n offset count s := by
  have inRange : ¬ 511 < n.val := Nat.not_lt.2 (Nat.le_of_lt_succ n.isLt)
  have stages : s.stages n = false := by
    rw [State.stages, List.any_eq_false]
    exact fun b mem => by simpa using unstaged b mem
  unfold clipRead
  dsimp only
  rw [if_neg inRange, if_neg (by omega), clipAt_fin, entry]
  dsimp only
  rw [if_neg (show ¬ c.blocks < offset + count from Nat.not_lt.2 low), stages]
  rfl

theorem obtainBlocks_buffer {s : State} {n offset count o : Nat} {data : List (List Byte)} (f : RxFrame)
    (buffer : s.clip.buffer = .full n o data) (low : o ≤ offset) (high : offset + count ≤ o + data.length) :
    obtainBlocks f n offset count s =
      answerRead f n offset count true ((data.drop (offset - o)).take count) s := by
  unfold obtainBlocks
  rw [buffer]
  exact if_pos ⟨rfl, low, high⟩

theorem obtainBlocks_memory {s : State} (f : RxFrame) (n offset count : Nat) (buffer : s.clip.buffer = .empty) :
    obtainBlocks f n offset count s = readMemory f n offset count s := by
  unfold obtainBlocks
  rw [buffer]

/-- The reply to a CLIP READ (R157). -/
def readAnswer (s : State) (n offset count : Nat) (fromBuffer : Bool) (data : List (List Byte)) : Answer :=
  ⟨.done, .done, .read n (s.clipState n) offset count fromBuffer data⟩

theorem answerRead_spec (f : RxFrame) (n offset count : Nat) (fromBuffer : Bool) (data : List (List Byte)) (s : State) :
    let t := answerRead f n offset count fromBuffer data s
    t = { s with host := t.host, clip := t.clip } ∧
      t.host = (sendReply f (readAnswer s n offset count fromBuffer data) s).host ∧ t.clip.mem = s.clip.mem ∧
      t.clip.dir = s.clip.dir ∧ t.clip.stage = s.clip.stage ∧ t.clip.arb.port = s.clip.arb.port := by
  have sent := sendReply_eq f (readAnswer s n offset count fromBuffer data) s
  obtain ⟨blocks, mem, dir, stage, port⟩ :=
    prefetch_spec n (offset + count) (sendReply f (readAnswer s n offset count fromBuffer data) s)
  have same : (sendReply f (readAnswer s n offset count fromBuffer data) s).clip = s.clip := by rw [sent]; rfl
  rw [same] at mem dir stage port
  have whole : answerRead f n offset count fromBuffer data s =
      prefetch n (offset + count) (sendReply f (readAnswer s n offset count fromBuffer data) s) := rfl
  have host : (answerRead f n offset count fromBuffer data s).host =
      (sendReply f (readAnswer s n offset count fromBuffer data) s).host := by
    rw [whole, blocks]
    rfl
  refine ⟨?_, host, mem, dir, stage, port⟩
  rw [host, whole]
  refine blocks.trans ?_
  rw [sent]
  rfl

/-- The blocks are asked of memory, and the request is held (R157). -/
theorem readMemory_spec {s : State} {n : Fin 512} {c : Clip} (f : RxFrame) (offset count : Nat)
    (entry : s.clip.dir[n] = some c) :
    let t := readMemory f n offset count s
    t = { s with host := { s.host with held := some (.read f n offset count false) }, clip := t.clip } ∧
      t.clip.mem = s.clip.mem ∧ t.clip.dir = s.clip.dir ∧ t.clip.stage = s.clip.stage ∧
      t.clip.arb.readBack =
        some { clip := n, offset := offset, mem := c.start + offset, count := count, prefetch := false } := by
  have start : ((s.clipAt n).map (·.start)).getD 0 = c.start := by
    rw [clipAt_fin, entry]
    rfl
  dsimp only
  unfold readMemory
  rw [start]
  exact ⟨rfl, rfl, rfl, rfl, rfl⟩

/-! ### A read-back burst (R157, R160) -/

theorem exec_readBack {s : State} {r : ReadReq} (port : s.clip.arb.port = some { burst := .readBack r, dropped := false })
    (asked : r.prefetch = false) :
    exec .readBackBurstComplete s =
      if 131072 < r.mem + r.count then .fault .memoryAddress
      else .next (answerFromMemory (Memory.readBlocks s.clip.mem r.mem r.count) (freePort s)) := by
  show execReadBackBurstComplete s = _
  rw [execReadBackBurstComplete, port]
  dsimp only
  rw [asked]
  by_cases past : 131072 < r.mem + r.count
  · rw [if_pos past, if_neg (by simpa [blocksExist, Config.blockCount] using past)]
  · rw [if_neg past, if_pos (by simpa [blocksExist, Config.blockCount] using past)]
    rfl

theorem answerFromMemory_held {s : State} {f : RxFrame} {n offset count : Nat} (data : List (List Byte))
    (held : s.host.held = some (.read f n offset count false)) :
    answerFromMemory data s = answerRead f n offset count false data (s.setHeld none) := by
  unfold answerFromMemory
  rw [held]

/-- The reply to a request that was held (R157, R206). -/
theorem sendReply_held (f : RxFrame) (a : Answer) (s : State) :
    (sendReply f a (s.setHeld none)).host =
      { replied s.host s.host.rxQueue (reply f a.cls a.detail a.body) with held := none } := by
  unfold replied
  cases h : s.host.sending with
  | none =>
    rw [sendReply_free (s := s.setHeld none) h]
    rfl
  | some x =>
    rw [sendReply_busy (s := s.setHeld none) h]
    simp [State.setHeld, replyTo, reply, h]

/-- Settles O56: a read from the buffer, one asked of memory, and its burst. -/
theorem clipReadIsAnswered : Obligations.ClipReadIsAnswered := by
  refine ⟨?_, ?_⟩
  · intro s f rest n c offset count o data taken entry some_ few low unstaged
    have reads := clipRead_obtains (s := frameTaken s rest) f entry some_ few low unstaged
    have row : exec (.clipRead (.fit { clip := n, offset := offset, count := count })) s =
        .next (obtainBlocks f n offset count (frameTaken s rest)) :=
      (onRequest_taken clipRead _ taken).trans (congrArg _ reads)
    refine ⟨fun buffer lo hi => ?_, fun buffer => ?_⟩
    · rw [obtainBlocks_buffer (s := frameTaken s rest) f buffer lo hi] at row
      obtain ⟨blocks, host, mem, dir, stage, -⟩ :=
        answerRead_spec f n offset count true ((data.drop (offset - o)).take count) (frameTaken s rest)
      refine ⟨_, row, blocks, mem, dir, stage, ?_⟩
      have state : (frameTaken s rest).clipState n = some c.state :=
        (clipState_fin ..).trans (congrArg (Option.map _) entry)
      rw [sendReply_frameTaken, readAnswer, state] at host
      unfold Answered
      rw [host]
    · rw [obtainBlocks_memory (s := frameTaken s rest) f _ _ _ buffer] at row
      exact ⟨_, row, readMemory_spec (s := frameTaken s rest) f offset count entry⟩
  · intro s f n c offset count r port asked held entry
    refine ⟨fun past => ?_, fun low => ?_⟩
    · rw [exec_readBack port asked, if_pos past]
    · have row := exec_readBack port asked
      rw [if_neg (Nat.not_lt.2 low), answerFromMemory_held (s := freePort s) _ held] at row
      obtain ⟨blocks, host, mem, -, -, free⟩ :=
        answerRead_spec f n offset count false (Memory.readBlocks s.clip.mem r.mem r.count)
          ((freePort s).setHeld none)
      refine ⟨_, row, blocks, mem, free, host.trans ?_⟩
      have state : ((freePort s).setHeld none).clipState n = some c.state :=
        (clipState_fin ..).trans (congrArg (Option.map _) entry)
      rw [sendReply_held, readAnswer, state]
      rfl

end Sys2Proof.Claims

namespace Sys2Proof.Claims

open Sys2Proof.Machine

/-! ### The arbiter's choice (R159) -/

/-- The place of a voice in the order of service (R159). -/
def servicePlace (last v : Fin 8) : Nat := (v.val + 7 - last.val) % 8

theorem serviceOrder_place :
    ∀ last v : Fin 8,
      serviceOrder last =
          (serviceOrder last).take (servicePlace last v) ++ v :: (serviceOrder last).drop (servicePlace last v + 1) ∧
        ∀ u ∈ (serviceOrder last).take (servicePlace last v), servicePlace last u < servicePlace last v := by
  decide

/-- The refill served is that of the voice first in the order of service (R159). -/
theorem nextRefill_first {a : Arbiter} {v : Fin 8} {r : RefillReq} (waits : a.refills[v] = some r)
    (first : ∀ u : Fin 8, a.refills[u] ≠ none → servicePlace a.lastVoice v ≤ servicePlace a.lastVoice u) :
    a.nextRefill = some v := by
  obtain ⟨order, earlier⟩ := serviceOrder_place a.lastVoice v
  have none_ : ((serviceOrder a.lastVoice).take (servicePlace a.lastVoice v)).find?
      (fun u => a.refills[u].isSome) = none := by
    refine List.find?_eq_none.2 fun u mem some_ => ?_
    exact absurd (first u (Option.isSome_iff_ne_none.1 some_)) (Nat.not_le.2 (earlier u mem))
  rw [Arbiter.nextRefill, order, List.find?_append, none_, Option.none_or, List.find?_cons_of_pos]
  rw [waits]
  rfl

theorem nextRefill_none {a : Arbiter} (none : ∀ v : Fin 8, a.refills[v] = none) : a.nextRefill = Option.none :=
  List.find?_eq_none.2 fun v _ some_ => by simp [none v] at some_

theorem exec_arbiter {s : State} (free : s.clip.arb.port = none) :
    exec .arbiterChoice s = .next { s with clip := { s.clip with arb := s.clip.arb.choose } } := if_pos free

/-- Settles O57: the choice by the first class that waits. -/
theorem arbiterServesInOrder : Obligations.ArbiterServesInOrder := by
  intro s
  refine ⟨fun busy => if_neg busy, fun free => ?_⟩
  dsimp only
  rw [exec_arbiter free]
  refine ⟨fun v r waits first => ?_, fun none => ⟨fun c rest commits => ?_, fun commits => ⟨fun r read => ?_,
    fun read => ⟨fun n m verify => ?_, fun verify => ?_⟩⟩⟩⟩
  · rw [Arbiter.choose, nextRefill_first waits first]
    dsimp only
    rw [waits]
    rfl
  · rw [Arbiter.choose, nextRefill_none none, commits]
  · rw [Arbiter.choose, nextRefill_none none, commits, read]
  · rw [Arbiter.choose, nextRefill_none none, commits, read, verify]
  · rw [Arbiter.choose, nextRefill_none none, commits, read, verify]

end Sys2Proof.Claims

namespace Sys2Proof.Claims

open Sys2Proof.Machine

/-! ### Commit bursts (R153, R160) -/

/-- The byte of a block written, of 512-byte blocks written from `block` upward. -/
theorem read_writeBlocks_in {m : List Host.Cell} (wf : Memory.wf m) (block : Nat) {ds : List (List Byte)}
    (full : ∀ d ∈ ds, d.length = 512) {i j : Nat} {b : List Byte} {x : Byte} (here : ds[i]? = some b)
    (byte : b[j]? = some x) : Memory.read (Memory.writeBlocks m block ds) ((block + i) * 512 + j) = x := by
  induction ds generalizing m block i with
  | nil => simp at here
  | cons d ds ih =>
    have rest : ∀ e ∈ ds, e.length = 512 := fun e mem => full e (List.mem_cons_of_mem _ mem)
    have wf' := Memory.wf_writeBytes wf (block * 512) d
    obtain ⟨low, value⟩ := List.getElem?_eq_some_iff.1 byte
    cases i with
    | zero =>
      obtain rfl : d = b := by simpa using here
      have length := full d (List.mem_cons_self ..)
      have other := Memory.read_writeBlocks_other wf' (block + 1) ds rest ((block + 0) * 512 + j)
        (.inl (by simp only [Config.blockBytes]; omega))
      refine other.trans ?_
      rw [Memory.read_writeBytes wf, if_pos (by omega), Nat.add_zero, Nat.add_sub_cancel_left,
        List.getD_eq_getElem?_getD, byte]
      rfl
    | succ i =>
      have next := ih wf' (block + 1) rest (i := i) (by simpa using here)
      rw [show block + (i + 1) = block + 1 + i by omega]
      exact next

/-- A free port stays free, and the count of refused data stands. -/
def KeepsPort (s t : State) : Prop :=
  (s.clip.arb.port = none → t.clip.arb.port = none) ∧ t.clip.busy = s.clip.busy

theorem KeepsPort.refl (s : State) : KeepsPort s s := ⟨id, rfl⟩

theorem KeepsPort.trans {s t u : State} (h : KeepsPort s t) (k : KeepsPort t u) : KeepsPort s u :=
  ⟨k.1 ∘ h.1, k.2.trans h.2⟩

theorem KeepsPort.of_clip {s t : State} (h : t.clip = s.clip) : KeepsPort s t := by
  unfold KeepsPort
  rw [h]
  exact ⟨id, rfl⟩

theorem sendReply_clip (f : RxFrame) (a : Answer) (s : State) : (sendReply f a s).clip = s.clip := by
  rw [sendReply_eq]
  rfl

theorem sendReply_keepsPort (f : RxFrame) (a : Answer) (s : State) : KeepsPort s (sendReply f a s) :=
  .of_clip (sendReply_clip ..)

theorem commitWaiting_keepsPort (s : State) : KeepsPort s (commitWaiting s) := ⟨id, rfl⟩

theorem stageBlock_keepsPort (n offset : Nat) (data : List Byte) (s : State) :
    KeepsPort s (stageBlock n offset data s) := by
  unfold stageBlock
  dsimp only
  split
  · exact commitWaiting_keepsPort _
  · exact ⟨id, rfl⟩

theorem putClip_keepsPort (n : Nat) (c : Option Clip) (s : State) : KeepsPort s (s.putClip n c) := by
  unfold State.putClip
  split <;> exact ⟨id, rfl⟩

theorem dropRun_keepsPort (n : Nat) (s : State) : KeepsPort s (dropRun n s) := by
  rw [dropRun_eq]
  exact ⟨id, rfl⟩

theorem startVerify_keepsPort (s : State) : KeepsPort s (startVerify s) := by
  unfold startVerify
  split <;> exact ⟨id, rfl⟩

theorem discardBuffer_keepsPort (s : State) : KeepsPort s (discardBuffer s) := by
  refine ⟨fun free => ?_, rfl⟩
  unfold discardBuffer
  dsimp only
  rw [free]
  rfl

theorem discardFor_keepsPort (n : Nat) (s : State) : KeepsPort s (discardFor n s) := by
  unfold discardFor
  split
  · exact discardBuffer_keepsPort s
  · exact .refl s

theorem finishData_keepsPort (f : RxFrame) (n offset : Nat) (data : List Byte) (s : State) :
    KeepsPort s (finishData f n offset data s) := (stageBlock_keepsPort ..).trans (sendReply_keepsPort ..)

/-- A clip is put in the verify queue, and the reply handed over (R154, R155). -/
theorem queued_keepsPort (f : RxFrame) (a : Answer) (n : Nat) (v : VerifyState) (q : Prop) [Decidable q] (s : State) :
    KeepsPort s
      (sendReply f a (if q then startVerify (dropRun n (s.setVerify v)) else dropRun n (s.setVerify v))) := by
  have queued : KeepsPort s (dropRun n (s.setVerify v)) := dropRun_keepsPort n (s.setVerify v)
  refine .trans ?_ (sendReply_keepsPort ..)
  split
  · exact queued.trans (startVerify_keepsPort _)
  · exact queued

theorem finishSeal_keepsPort (f : RxFrame) (n : Nat) (crc : Code) (s : State) :
    KeepsPort s (finishSeal f n crc s) := by
  unfold finishSeal
  dsimp only
  split
  · exact (putClip_keepsPort ..).trans (queued_keepsPort ..)
  · exact queued_keepsPort ..

theorem finishErase_keepsPort (f : RxFrame) (n : Nat) (s : State) : KeepsPort s (finishErase f n s) :=
  (((putClip_keepsPort n none s).trans (dropRun_keepsPort n _)).trans (discardFor_keepsPort n _)).trans
    (sendReply_keepsPort ..)

theorem prefetch_keepsPort (n offset : Nat) (s : State) : KeepsPort s (prefetch n offset s) := by
  unfold prefetch
  split
  · exact ⟨id, rfl⟩
  · dsimp only
    split <;> exact ⟨id, rfl⟩

theorem answerRead_keepsPort (f : RxFrame) (n offset count : Nat) (buffered : Bool) (data : List (List Byte))
    (s : State) : KeepsPort s (answerRead f n offset count buffered data s) :=
  (sendReply_keepsPort ..).trans (prefetch_keepsPort ..)

theorem readMemory_keepsPort (f : RxFrame) (n offset count : Nat) (s : State) :
    KeepsPort s (readMemory f n offset count s) := (discardBuffer_keepsPort s).trans ⟨id, rfl⟩

theorem obtainBlocks_keepsPort (f : RxFrame) (n offset count : Nat) (s : State) :
    KeepsPort s (obtainBlocks f n offset count s) := by
  unfold obtainBlocks
  split
  · split
    · exact answerRead_keepsPort ..
    · exact readMemory_keepsPort ..
  · split
    · exact ⟨id, rfl⟩
    · exact readMemory_keepsPort ..
  · exact readMemory_keepsPort ..

theorem continueHeld_keepsPort (h : Held) (s : State) : KeepsPort s (continueHeld h s) := by
  unfold continueHeld
  split
  · exact finishData_keepsPort _ _ _ _ (s.setHeld none)
  · exact finishSeal_keepsPort _ _ _ (s.setHeld none)
  · exact finishErase_keepsPort _ _ (s.setHeld none)
  · exact obtainBlocks_keepsPort _ _ _ _ (s.setHeld none)
  · exact .refl s

theorem flushTest_keepsPort (s : State) : KeepsPort s (flushTest s) := by
  unfold flushTest
  split
  · split
    · exact continueHeld_keepsPort ..
    · exact .refl s
  · exact .refl s

end Sys2Proof.Claims

namespace Sys2Proof.Claims

open Sys2Proof.Machine

/-- A commit burst's blocks in memory, the port free (R153, R160). -/
def burstWritten (r : CommitReq) (s : State) : State :=
  s.setClip
    { s.clip with mem := Memory.writeBlocks s.clip.mem r.mem r.data, arb := { s.clip.arb with port := none } }

theorem exec_commit {s : State} {r : CommitReq} {dropped : Bool}
    (port : s.clip.arb.port = some { burst := .commit r, dropped := dropped }) :
    exec .commitBurstComplete s =
      if 131072 < r.mem + r.data.length then .fault .memoryAddress
      else .next (if dropped then burstWritten r s else flushTest (leaveStage r (burstWritten r s))) := by
  show execCommitBurstComplete s = _
  rw [execCommitBurstComplete, port]
  dsimp only
  by_cases past : 131072 < r.mem + r.data.length
  · rw [if_pos past, if_neg (by simpa [blocksExist, Config.blockCount] using past)]
  · rw [if_neg past, if_pos (by simpa [blocksExist, Config.blockCount] using past)]
    rfl

/-- What a commit burst leaves, whatever request is in hand (R153). -/
theorem burstWritten_spec (r : CommitReq) (dropped : Bool) (s : State) :
    let t := if dropped then burstWritten r s else flushTest (leaveStage r (burstWritten r s))
    t = { s with host := t.host, clip := t.clip } ∧ t.clip.arb.port = none ∧ t.clip.busy = s.clip.busy ∧
      t.clip.mem = Memory.writeBlocks s.clip.mem r.mem r.data := by
  dsimp only
  cases dropped with
  | true => exact ⟨rfl, rfl, rfl, rfl⟩
  | false =>
    obtain ⟨pending, config, guide, motion, zone, seat, cue, voice, fault, mem, -⟩ :=
      flushTest_frame (leaveStage r (burstWritten r s))
    obtain ⟨port, busy⟩ := flushTest_keepsPort (leaveStage r (burstWritten r s))
    exact ⟨State.ext_fields pending config guide motion zone seat cue rfl voice fault rfl, port rfl, busy, mem⟩

/-! ### Verify bursts (R155, R156) -/

/-- A verify burst that is not dropped (R155, R160). -/
theorem exec_verify {s : State} {n : Fin 512} {m : Nat} {c : Clip}
    (port : s.clip.arb.port = some { burst := .verify n m, dropped := false }) (entry : s.clip.dir[n] = some c) :
    exec .verifyBlockComplete s =
      if 131071 < m then .fault .memoryAddress
      else .next (feedBlock n c (Memory.readBlock s.clip.mem m) (freePort s)) := by
  show execVerifyBlockComplete s = _
  rw [execVerifyBlockComplete, port]
  dsimp only
  by_cases past : 131071 < m
  · rw [if_pos past, if_neg (by simp [blocksExist, Config.blockCount]; omega)]
  · rw [if_neg past, if_pos (by simp [blocksExist, Config.blockCount]; omega), clipAt_fin (freePort s),
      show (freePort s).clip.dir[n] = some c from entry]

/-- A block that is not the clip's last is fed whole, and the next asked for (R155). -/
theorem feedBlock_more {n : Nat} {c : Clip} (data : List Byte) {s : State}
    (more : s.clip.verify.next + 1 < (c.length + 255) / 256) :
    feedBlock n c data s =
      s.setClip
        { s.clip with
          verify :=
            { s.clip.verify with next := s.clip.verify.next + 1, crc := crc32Feed s.clip.verify.crc data }
          arb := { s.clip.arb with verify := some (n, c.start + (s.clip.verify.next + 1)) } } := by
  have whole : c.fedBytes s.clip.verify.next data = data := if_neg (Nat.ne_of_lt more)
  unfold feedBlock
  dsimp only
  rw [whole]
  exact if_pos more

/-- The CRC of a clip whose last block is fed (R155). -/
def lastCrc (c : Clip) (data : List Byte) (s : State) : Code :=
  crc32Feed s.clip.verify.crc (data.take (2 * (c.length - 256 * s.clip.verify.next))) ^^^ 0xFFFFFFFF

/-- The last block ends the clip's verification (R155, R156). -/
theorem feedBlock_last {n : Nat} {c : Clip} (data : List Byte) {s : State}
    (last : s.clip.verify.next + 1 = (c.length + 255) / 256) :
    feedBlock n c data s = endVerify n c (lastCrc c data s) s := by
  have blocks : c.blocks = s.clip.verify.next + 1 := last.symm
  have fed : c.fedBytes s.clip.verify.next data = data.take (2 * (c.length - 256 * s.clip.verify.next)) := by
    rw [Clip.fedBytes, if_pos blocks.symm, blocks, Nat.add_sub_cancel]
  unfold feedBlock
  dsimp only
  rw [fed, if_neg (by omega)]
  rfl

/-- The clip is READY or BAD, and leaves the verify queue (R156). -/
def judgedClip (n : Fin 512) (c : Clip) (computed : Code) (s : State) : State :=
  s.setClip
    { s.clip with
      dir := s.clip.dir.set n (some { c with state := if c.crc = some computed then .ready else .bad })
      verify := { s.clip.verify with queue := s.clip.verify.queue.tail } }

/-- The clip's failure, raised as F17, and the report (R156). -/
def verifyTold (n : Fin 512) (c : Clip) (computed : Code) (s : State) : State :=
  postEvent (.clipVerified n (decide (c.crc = some computed)) computed c.crc)
    (if c.crc = some computed then judgedClip n c computed s
     else raiseQuiet .f17 .note (.clipCrc n computed (c.crc.getD 0)) (judgedClip n c computed s))

theorem endVerify_eq (n : Fin 512) (c : Clip) (computed : Code) (s : State) :
    endVerify n c computed s = startVerify (verifyTold n c computed s) := by
  unfold endVerify verifyTold
  dsimp only
  rw [putClip_fin]
  by_cases same : c.crc = some computed
  · rw [if_pos same, decide_eq_true same]
    simp only [if_true, judgedClip, same]
    rfl
  · rw [if_neg same, decide_eq_false same]
    simp only [judgedClip, same]
    rfl

theorem verifyTold_spec (n : Fin 512) (c : Clip) (computed : Code) (s : State) :
    let t := verifyTold n c computed s
    t = { s with host := t.host, clip := (judgedClip n c computed s).clip, fault := t.fault } ∧ OnlyReports s t ∧
      (c.crc = some computed → t.fault = s.fault) ∧
      (c.crc ≠ some computed →
        (t.faultRec .f17).latched = true ∧ (t.faultRec .f17).detail = .clipCrc n computed (c.crc.getD 0)) := by
  dsimp only
  unfold verifyTold
  by_cases same : c.crc = some computed
  · rw [if_pos same]
    exact ⟨rfl, HostLink.eq_of_port (by simp [judgedClip]), fun _ => rfl, fun other => absurd same other⟩
  · rw [if_neg same]
    refine ⟨?_, HostLink.eq_of_port (by simp [judgedClip]), fun ok => absurd ok same, fun _ => ?_⟩
    · apply State.ext_fields <;> simp [judgedClip]
    · simp [FaultRecord.raised]

/-- The next clip of the queue is verified from its start (R155). -/
theorem startVerify_next {s : State} {n : Nat} {rest : List Nat} (queue : s.clip.verify.queue = n :: rest) :
    (startVerify s).clip.verify.next = 0 ∧ (startVerify s).clip.verify.crc = 0xFFFFFFFF ∧
      (startVerify s).clip.arb.verify = some (n, ((s.clipAt n).map (·.start)).getD 0) := by
  unfold startVerify
  rw [queue]
  exact ⟨rfl, rfl, rfl⟩

theorem startVerify_none {s : State} (queue : s.clip.verify.queue = []) : (startVerify s).clip.arb.verify = none := by
  unfold startVerify
  rw [queue]
  rfl

end Sys2Proof.Claims

namespace Sys2Proof.Claims

open Sys2Proof.Machine

/-- The verification that ends with the clip's last block (R155, R156). -/
theorem endVerify_spec {s : State} {n : Fin 512} {c : Clip} {queue : List Nat} (computed : Code)
    (entry : s.clip.dir[n] = some c) (head : s.clip.verify.queue = n.val :: queue) (free : s.clip.arb.port = none) :
    let t := endVerify n c computed s
    t = { s with host := t.host, clip := t.clip, fault := t.fault } ∧ OnlyReports s t ∧ t.clip.mem = s.clip.mem ∧
      t.clip.verify.queue = queue ∧ t.clip.arb.port = none ∧
      t.clip.dir = s.clip.dir.set n (some { c with state := if c.crc = some computed then .ready else .bad }) ∧
      (queue = [] → t.clip.arb.verify = none) ∧
      (∀ (n' : Fin 512) (c' : Clip) (rest : List Nat), queue = n'.val :: rest → s.clip.dir[n'] = some c' →
        t.clip.verify.next = 0 ∧ t.clip.verify.crc = 0xFFFFFFFF ∧
          t.clip.arb.verify = some (n'.val, c'.start)) ∧
      (c.crc = some computed → t.fault = s.fault) ∧
      (c.crc ≠ some computed →
        (t.faultRec .f17).latched = true ∧ (t.faultRec .f17).detail = .clipCrc n computed (c.crc.getD 0)) := by
  dsimp only
  rw [endVerify_eq]
  obtain ⟨told, reports, passed, failed⟩ := verifyTold_spec n c computed s
  have clip : (verifyTold n c computed s).clip = (judgedClip n c computed s).clip := by rw [told]
  have tail : (verifyTold n c computed s).clip.verify.queue = queue := by
    rw [clip]
    exact congrArg List.tail head
  generalize verifyTold n c computed s = u at *
  obtain ⟨blocks, dir, same, mem, -⟩ := startVerify_spec u
  have port := (startVerify_keepsPort u).1 (by rw [clip]; exact free)
  have host : (startVerify u).host = u.host := by
    rw [blocks]
    rfl
  have fault : (startVerify u).fault = u.fault := by
    rw [blocks]
    rfl
  refine ⟨?_, ?_, by rw [mem, clip]; rfl, same.trans tail, port, by rw [dir, clip]; rfl,
    fun empty => startVerify_none (tail.trans empty), fun n' c' rest next entry' => ?_,
    fun ok => fault.trans (passed ok), fun bad => ?_⟩
  · rw [host, fault]
    refine blocks.trans ?_
    rw [told]
    rfl
  · rw [OnlyReports, host]
    exact reports
  · have started := startVerify_next (tail.trans next)
    have start : ((u.clipAt n').map (·.start)).getD 0 = c'.start := by
      rw [clipAt_fin, clip]
      show (Option.map _ (s.clip.dir.set n _)[n']).getD 0 = _
      by_cases own : n' = n
      · subst own
        obtain rfl : c = c' := Option.some_inj.1 (entry.symm.trans entry')
        simp
      · have other : (s.clip.dir.set n
            (some { c with state := if c.crc = some computed then .ready else .bad }))[n'] = s.clip.dir[n'] :=
          Vector.getElem_set_ne n.isLt n'.isLt fun eq => own (Fin.ext eq.symm)
        rw [other, entry']
        rfl
    rw [start] at started
    exact started
  · rw [State.faultRec_congr fault]
    exact failed bad

/-- Settles O58: the commit burst and the verify burst, each by where its blocks lie. -/
theorem commitAndVerifyBurstsComplete : Obligations.CommitAndVerifyBurstsComplete := by
  refine ⟨fun s r dropped wf port => ⟨fun past => ?_, fun low full => ?_⟩, fun s n m c queue port entry head => ?_⟩
  · rw [exec_commit port, if_pos past]
  · rw [exec_commit port, if_neg (Nat.not_lt.2 low)]
    obtain ⟨blocks, free, busy, mem⟩ := burstWritten_spec r dropped s
    refine ⟨_, rfl, blocks, free, busy, fun i j b x here byte => ?_, fun a out => ?_, fun kept idle => ?_⟩
    · rw [mem]
      exact read_writeBlocks_in wf r.mem full here byte
    · rw [mem]
      exact Memory.read_writeBlocks_other wf r.mem r.data full a out
    · subst kept
      have still : flushTest (leaveStage r (burstWritten r s)) = leaveStage r (burstWritten r s) := by
        unfold flushTest
        rw [show (leaveStage r (burstWritten r s)).host.held = none from idle]
      rw [if_neg (by decide), still]
      exact ⟨rfl, rfl, rfl⟩
  · dsimp only
    refine ⟨fun past => ?_, fun low more => ?_, fun low some_ last => ?_⟩
    · rw [exec_verify port entry, if_pos past]
    · rw [exec_verify port entry, if_neg (Nat.not_lt.2 low), feedBlock_more (s := freePort s) _ more]
      rfl
    · rw [exec_verify port entry, if_neg (Nat.not_lt.2 low), feedBlock_last (s := freePort s) _ last]
      exact ⟨_, rfl, endVerify_spec (s := freePort s) _ entry head rfl⟩

end Sys2Proof.Claims

namespace Sys2Proof.Claims

open Sys2Proof.Machine

/-! ### A voice's record (R163 to R170) -/

theorem getVoice_putVoice (v : Fin 8) (w : Voice) (s : State) : (s.putVoice v w).getVoice v = w :=
  Vector.getElem_set_self v.isLt

theorem putVoice_putVoice (v : Fin 8) (w x : Voice) (s : State) :
    (s.putVoice v w).putVoice v x = s.putVoice v x := by
  unfold State.putVoice
  simp only [State.setVoice_voice]
  rw [Vector.set_set]
  rfl

theorem putVoice_voice (v : Fin 8) (w : Voice) (s : State) :
    (s.putVoice v w).voice = { s.voice with voices := s.voice.voices.set v ((s.putVoice v w).getVoice v) } := by
  rw [getVoice_putVoice]
  rfl

theorem putVoice_getVoice (v : Fin 8) (s : State) : s.putVoice v (s.getVoice v) = s := by
  unfold State.putVoice State.getVoice
  have same : s.voice.voices.set v s.voice.voices[v] = s.voice.voices := Vector.set_getElem_self v.isLt
  rw [same]
  rfl

/-- What a voice's work on its own record and on the arbiter leaves alone. -/
structure OnlyVoice (v : Fin 8) (s t : State) : Prop where
  blocks :
    t =
      { s with
        voice := { s.voice with voices := s.voice.voices.set v (t.getVoice v) }
        clip := { s.clip with arb := t.clip.arb } }

theorem OnlyVoice.of_put {v : Fin 8} {s : State} (a : Arbiter) (w : Voice) :
    OnlyVoice v s ((s.setArb a).putVoice v w) := by
  refine ⟨?_⟩
  rw [getVoice_putVoice]
  rfl

theorem OnlyVoice.refl (v : Fin 8) (s : State) : OnlyVoice v s s := by
  have whole := OnlyVoice.of_put (v := v) (s := s) s.clip.arb (s.getVoice v)
  rwa [show s.setArb s.clip.arb = s from rfl, putVoice_getVoice] at whole

theorem OnlyVoice.trans {v : Fin 8} {s t u : State} (h : OnlyVoice v s t) (k : OnlyVoice v t u) : OnlyVoice v s u := by
  obtain ⟨first⟩ := h
  obtain ⟨second⟩ := k
  refine ⟨second.trans ?_⟩
  have voices : (t.voice.voices.set v (u.getVoice v)) = s.voice.voices.set v (u.getVoice v) := by
    rw [first]
    exact Vector.set_set ..
  rw [voices]
  generalize u.getVoice v = w
  rw [first]

theorem OnlyVoice.putVoice {v : Fin 8} {s t : State} (h : OnlyVoice v s t) (w : Voice) :
    OnlyVoice v s (t.putVoice v w) := h.trans (.of_put t.clip.arb w)

/-- The refill test changes the voice's cursor and its waiting refill only (R169). -/
theorem refillTest_spec (v : Fin 8) (s : State) :
    OnlyVoice v s (refillTest v s) ∧ (refillTest v s).clip.arb.port = s.clip.arb.port ∧
      (refillTest v s).getVoice v =
        { s.getVoice v with
          refill := ((refillTest v s).getVoice v).refill, cursor := ((refillTest v s).getVoice v).cursor } := by
  unfold refillTest
  dsimp only
  split
  · exact ⟨.refl v s, rfl, rfl⟩
  · split
    · refine ⟨.of_put _ _, rfl, ?_⟩
      rw [getVoice_putVoice]
    · exact ⟨.refl v s, rfl, rfl⟩

/-- A voice that may put a refill asks for its next blocks (R169). -/
theorem refillTest_asks {v : Fin 8} {s : State} {w : Voice} {cur : Nat} (voice : s.getVoice v = w)
    (cursor : w.cursor = some cur) (wants : w.wantsRefill = true) :
    refillTest v s =
      (s.setArb
          { s.clip.arb with
            refills :=
              s.clip.arb.refills.set v
                (some { offset := cur, mem := w.start + cur, count := min 2 (w.blocks - cur) }) }).putVoice v
        { w with refill := true, cursor := w.cursorAfter (cur + min 2 (w.blocks - cur)) } := by
  unfold refillTest
  dsimp only
  rw [voice, cursor]
  exact if_pos wants

/-- The voice's refill is withdrawn (R160). -/
theorem withdrawRefill_spec (v : Fin 8) (s : State) :
    OnlyVoice v s (withdrawRefill v s) ∧ (withdrawRefill v s).clip.arb.refills[v] = none ∧
      (withdrawRefill v s).getVoice v = { s.getVoice v with refill := false } := by
  refine ⟨.of_put _ _, Vector.getElem_set_self v.isLt, ?_⟩
  exact getVoice_putVoice ..

theorem releasePlayOf_voice (clip : Option Nat) (s : State) : (releasePlayOf clip s).voice = s.voice := by
  simp

/-- A play release of a voice's clip (R147). -/
theorem releasePlayOf_fin {n : Fin 512} {c : Clip} {s : State} (entry : s.clip.dir[n] = some c) :
    releasePlayOf (some n.val) s =
      s.setClip { s.clip with dir := s.clip.dir.set n (some { c with plays := c.plays - 1 }) } := by
  show releasePlay n s = _
  rw [releasePlay, clipAt_fin, entry]
  exact putClip_fin ..

/-- A voice that goes IDLE (R168, R172). -/
theorem goIdle_spec (v : Fin 8) (reason : VoiceEndReason) (s : State) :
    let t := goIdle v reason s
    t = { s with host := t.host, voice := t.voice, clip := t.clip } ∧
      t.voice = { s.voice with voices := s.voice.voices.set v (t.getVoice v) } ∧
      t.getVoice v = { s.getVoice v with refill := false }.toIdle ∧ t.clip.arb.refills[v] = none ∧
      t.clip.mem = s.clip.mem ∧ t.clip.dir = (releasePlayOf (s.getVoice v).clip s).clip.dir := by
  dsimp only
  have mem : (releasePlayOf (s.getVoice v).clip s).clip.mem = s.clip.mem := by simp
  have whole : releasePlayOf (s.getVoice v).clip s = s.setClip (releasePlayOf (s.getVoice v).clip s).clip := by
    apply State.ext_fields <;> simp
  unfold goIdle
  dsimp only
  generalize releasePlayOf (s.getVoice v).clip s = r at *
  obtain ⟨only, free, voice⟩ := withdrawRefill_spec v r
  have own : r.getVoice v = s.getVoice v := by
    rw [whole]
    rfl
  rw [own] at voice
  generalize withdrawRefill v r = x at *
  rw [voice]
  have read := getVoice_putVoice v { s.getVoice v with refill := false }.toIdle x
  have kept : (x.putVoice v { s.getVoice v with refill := false }.toIdle).clip = x.clip := rfl
  obtain ⟨blocks⟩ := only.putVoice { s.getVoice v with refill := false }.toIdle
  generalize x.putVoice v { s.getVoice v with refill := false }.toIdle = y at *
  have same : r.voice = s.voice := by
    rw [whole]
    rfl
  have rest : x.clip = { r.clip with arb := x.clip.arb } := by rw [only.blocks]
  refine ⟨?_, ?_, read, ?_, ?_, ?_⟩
  · show y.setHost _ = _
    rw [blocks, whole]
    rfl
  · show y.voice = { s.voice with voices := s.voice.voices.set v (y.getVoice v) }
    rw [← same]
    exact congrArg State.voice blocks
  · rw [show (postEvent _ y).clip = x.clip from kept]
    exact free
  · rw [show (postEvent _ y).clip = x.clip from kept, rest]
    exact mem
  · rw [show (postEvent _ y).clip = x.clip from kept, rest]

end Sys2Proof.Claims

namespace Sys2Proof.Claims

open Sys2Proof.Machine

/-! ### Starts (R165 to R167, R169) -/

/-- The start the host asks for (R165). -/
def hostStart (n gain : Nat) (routes : Routes) (hold : HoldPolicy) (loop duckable : Bool) : StartRec :=
  { clip := n, gain := gain, routes := routes, hold := hold, loop := loop, duckable := duckable, announce := false
    source := .host }

theorem routesOk_of {routes : Routes} (ok : ∀ o : Fin 4, routes[o] ≤ 256) : routesOk routes = true := by
  unfold routesOk
  simpa using fun i h => ok ⟨i, h⟩

/-- A VOICE START of a READY clip is taken (R165). -/
theorem voiceStart_takes {s : State} {v : Fin 8} {n : Fin 512} {c : Clip} {gain : Nat} {routes : Routes}
    (hold : HoldPolicy) (loop duckable : Bool) (loud : gain ≤ 4096) (ok : ∀ o : Fin 4, routes[o] ≤ 256)
    (free : v = 7 → s.config.committedMap.clip = none) (entry : s.clip.dir[n] = some c) (ready : c.state = .ready) :
    voiceStart
        { voice := v, clip := n, gain := gain, routes := routes, hold := some hold, loop := loop
          duckable := duckable } s =
      (takeStart v (hostStart n gain routes hold loop duckable) s,
        ⟨.done, if s.voice.voices[v].state = .idle then .started else .pending, .empty⟩) := by
  have inRange : ¬ (511 < n.val ∨ 4096 < gain ∨ routesOk routes = false) := by
    rintro (high | high | bad)
    · exact absurd n.isLt (by omega)
    · omega
    · simp [routesOk_of ok] at bad
  have open_ : ¬ (v.val = 7 ∧ s.config.committedMap.clip.isSome) := by
    rintro ⟨seven, named⟩
    rw [free (Fin.ext seven)] at named
    cases named
  have claim : s.claimable n = true := by
    rw [State.claimable, clipState_fin, entry]
    simp [ready]
  unfold voiceStart
  rw [dif_pos v.isLt]
  dsimp only
  rw [if_neg inRange, if_neg open_, if_neg (by simp [claim])]
  rfl

/-- A start on an IDLE voice (R166, R169). -/
theorem startIdle_spec {s : State} {n : Fin 512} {c : Clip} (v : Fin 8) (r : StartRec) (named : r.clip = n)
    (entry : s.clip.dir[n] = some c) (ready : c.state = .ready) :
    startIdle v r s =
      (s.setClip
          { s.clip with
            dir := s.clip.dir.set n (some { c with plays := c.plays + 1 })
            arb :=
              { s.clip.arb with
                refills :=
                  s.clip.arb.refills.set v
                    (some { offset := 0, mem := c.start, count := min 2 ((c.length + 255) / 256) }) } }).putVoice v
        { (s.getVoice v).started r c s.voice.paused with
          refill := true
          cursor :=
            ((s.getVoice v).started r c s.voice.paused).cursorAfter (0 + min 2 ((c.length + 255) / 256)) } := by
  unfold startIdle
  rw [named, clipAt_fin, entry]
  dsimp only
  rw [if_pos ready, putClip_fin, refillTest_asks (getVoice_putVoice ..) rfl rfl]
  exact putVoice_putVoice v _ _ (State.setClip s _)

/-- The record of a voice that was started and has its first refill put, field by field (R166, R169). -/
theorem started_shown {w u : Voice} {r : StartRec} {c : Clip} {paused : Bool} {cursor : Option Nat}
    (h : u = { w.started r c paused with refill := true, cursor := cursor }) :
    u =
      { w with
        state := .priming, clip := some r.clip, start := c.start, length := c.length
        blocks := (c.length + 255) / 256, loopStart := c.loopStart, pos := 0
        gain := r.gain * 256, target := r.gain * 256, step := 0, routes := r.routes
        hold := r.hold, loop := r.loop, duckable := r.duckable, announce := r.announce
        source := some r.source, pausePending := r.hold = .pause && paused
        sounding := false, ring := [], cursor := u.cursor
        refill := true, pend := none, underrun := false, underruns := 0 } := by
  subst h
  rfl

/-- A start on a PLAYING voice waits for its fade (R167). -/
theorem preempt_playing {s : State} {v : Fin 8} (r : StartRec) (playing : (s.getVoice v).state = .playing)
    (loud : 0 < (s.getVoice v).gain) :
    preempt v r s =
      s.putVoice v
        { s.getVoice v with
          state := .releasing, target := 0, step := max 1 (((s.getVoice v).gain + 63) / 64), sounding := true
          pend := some r } := by
  have sounds : (s.getVoice v).soundsOn = true := by simp [Voice.soundsOn, playing]
  unfold preempt
  dsimp only
  rw [if_neg (by simp [playing]), sounds, playing]
  unfold fadeTest
  rw [if_neg]
  · simp [ceilDiv]
  · rw [getVoice_putVoice]
    exact fun quiet => absurd quiet.2 (Nat.pos_iff_ne_zero.1 loud)

/-! ### Stops and gains (R168, R173, R174) -/

theorem voiceStop_idle {s : State} {v : Fin 8} {fade : Nat} (short : fade ≤ 10000) (idle : s.voice.voices[v].state = .idle) :
    voiceStop { voice := v, fade := fade } s = (s, .already) := by
  unfold voiceStop
  rw [dif_pos v.isLt, if_neg (Nat.not_lt.2 short)]
  exact if_pos idle

theorem voiceStop_takes {s : State} {v : Fin 8} {fade : Nat} (short : fade ≤ 10000)
    (busy : s.voice.voices[v].state ≠ .idle) :
    voiceStop { voice := v, fade := fade } s = (stopVoice v fade s, .done) := by
  unfold voiceStop
  rw [dif_pos v.isLt, if_neg (Nat.not_lt.2 short)]
  exact if_neg busy

/-- A PLAYING voice is faded out (R173). -/
theorem stopVoice_fades {s : State} {v : Fin 8} {fade : Nat} (playing : (s.getVoice v).state = .playing)
    (loud : 0 < (s.getVoice v).gain) (slow : 0 < fade) :
    stopVoice v fade s =
      s.putVoice v
        { s.getVoice v with
          state := .releasing, sounding := true, target := 0
          step := max 1 (((s.getVoice v).gain + fade * 48 - 1) / (fade * 48)) } := by
  unfold stopVoice
  dsimp only
  rw [playing]
  dsimp only
  rw [if_neg (by omega), if_neg (by omega)]
  unfold fadeTest
  rw [if_neg]
  · rfl
  · rw [getVoice_putVoice]
    exact fun quiet => absurd quiet.2 (Nat.pos_iff_ne_zero.1 loud)

/-- A voice whose gain is 0 and that nothing waits for goes IDLE at once (R168, R173). -/
theorem fadeTest_ends {s : State} {v : Fin 8} {w : Voice} (voice : s.getVoice v = w) (fades : w.state = .releasing)
    (quiet : w.gain = 0) (none : w.pend = Option.none) : fadeTest v s = goIdle v .stopped s := by
  unfold fadeTest fadeEnd
  rw [voice, if_pos ⟨fades, quiet⟩, none]

/-- A voice that sounds nothing ends at once (R168, R173). -/
theorem stopVoice_ends {s : State} {v : Fin 8} {fade : Nat} (none : (s.getVoice v).pend = Option.none)
    (ends : (s.getVoice v).state = .priming ∨ (s.getVoice v).state = .paused ∨
      (s.getVoice v).state = .playing ∧ fade = 0) :
    ∃ u, OnlyVoice v s u ∧ stopVoice v fade s = goIdle v .stopped u ∧ (u.getVoice v).gain = 0 ∧
      (u.getVoice v).clip = (s.getVoice v).clip := by
  have silent (h : (s.getVoice v).state = .priming ∨ (s.getVoice v).state = .paused) :
      ∃ u, OnlyVoice v s u ∧ stopVoice v fade s = goIdle v .stopped u ∧ (u.getVoice v).gain = 0 ∧
        (u.getVoice v).clip = (s.getVoice v).clip := by
    obtain ⟨only, -, voice⟩ := withdrawRefill_spec v s
    have whole : stopVoice v fade s =
        fadeTest v
          ((withdrawRefill v s).putVoice v
            { (withdrawRefill v s).getVoice v with state := .releasing, sounding := false, gain := 0 }) := by
      unfold stopVoice
      dsimp only
      rcases h with h | h <;> rw [h]
    rw [voice] at whole
    refine ⟨_, only.putVoice _, whole.trans (fadeTest_ends (getVoice_putVoice ..) rfl rfl none), ?_, ?_⟩
    · rw [getVoice_putVoice]
    · rw [getVoice_putVoice]
  rcases ends with h | h | ⟨playing, rfl⟩
  · exact silent (.inl h)
  · exact silent (.inr h)
  · have whole : stopVoice v 0 s =
        fadeTest v
          (s.putVoice v { s.getVoice v with state := .releasing, sounding := true, target := 0, gain := 0 }) := by
      unfold stopVoice
      dsimp only
      rw [playing]
      rfl
    refine ⟨_, (OnlyVoice.refl v s).putVoice _, whole.trans (fadeTest_ends (getVoice_putVoice ..) rfl rfl none),
      ?_, ?_⟩
    · rw [getVoice_putVoice]
    · rw [getVoice_putVoice]

/-- The voice record after a VOICE GAIN (R174). -/
def gained (w : Voice) (target ramp : Nat) : Voice :=
  if ramp = 0 ∨ w.gain = target * 256 then { w with target := target * 256, gain := target * 256 }
  else
    { w with
      target := target * 256
      step := max 1 ((max w.gain (target * 256) - min w.gain (target * 256) + ramp * 48 - 1) / (ramp * 48)) }

theorem gainVoice_takes {s : State} {v : Fin 8} (target ramp : Nat) (takes : (s.getVoice v).takesGain = true) :
    gainVoice v target ramp s = s.putVoice v (gained (s.getVoice v) target ramp) := by
  have span (g t : Nat) : t - g + (g - t) = max g t - min g t := by omega
  unfold gainVoice gained
  dsimp only
  rw [if_pos takes]
  by_cases once : ramp = 0 ∨ (s.getVoice v).gain = target * 256
  · rw [if_pos once, if_pos (once.imp_right Eq.symm)]
  · rw [if_neg once, if_neg (mt (Or.imp_right Eq.symm) once), span]
    rfl

theorem takesGain_iff {w : Voice} :
    w.takesGain = true ↔ w.state = .priming ∨ w.state = .playing ∨ w.state = .paused := by
  simp [Voice.takesGain, or_assoc]

end Sys2Proof.Claims

namespace Sys2Proof.Claims

open Sys2Proof.Machine

/-! ### Refills (R160, R169, R170) -/

theorem exec_refill {s : State} {v : Fin 8} {r : RefillReq}
    (port : s.clip.arb.port = some { burst := .refill v r, dropped := false }) :
    exec .refillComplete s =
      if 131072 < r.mem + r.count then .fault .memoryAddress
      else .next (joinRing v (Memory.readBlocks s.clip.mem r.mem r.count) (freePort s)) := by
  show execRefillComplete s = _
  rw [execRefillComplete, port]
  dsimp only
  by_cases past : 131072 < r.mem + r.count
  · rw [if_pos past, if_neg (by simpa [blocksExist, Config.blockCount] using past)]
  · rw [if_neg past, if_pos (by simpa [blocksExist, Config.blockCount] using past)]
    rfl

theorem primed_ring (w : Voice) : w.primed.ring = w.ring := by
  unfold Voice.primed
  split <;> rfl

theorem primed_full {w : Voice} (priming : w.state = .priming) (full : 2 ≤ w.ring.length) :
    w.primed.state = if w.pausePending then .paused else .playing := by
  rw [Voice.primed, if_pos ⟨priming, .inl full⟩]

theorem primed_other {w : Voice} (other : w.state ≠ .priming) : w.primed.state = w.state := by
  rw [Voice.primed, if_neg fun h => other h.1]

/-- A refill joins the ring of its voice (R169, R170). -/
theorem joinRing_spec (v : Fin 8) (data : List (List Byte)) (s : State) :
    let t := joinRing v data s
    OnlyVoice v s t ∧ t.clip.arb.port = s.clip.arb.port ∧
      (t.getVoice v).ring = (s.getVoice v).ring ++ data ∧
      ((s.getVoice v).state = .priming → 2 ≤ (s.getVoice v).ring.length + data.length →
        (t.getVoice v).state = (if (s.getVoice v).pausePending then .paused else .playing)) ∧
      ((s.getVoice v).state ≠ .priming → (t.getVoice v).state = (s.getVoice v).state) := by
  obtain ⟨only, port, voice⟩ :=
    refillTest_spec v (s.putVoice v { s.getVoice v with ring := (s.getVoice v).ring ++ data, refill := false })
  rw [getVoice_putVoice] at voice
  dsimp only
  have whole : joinRing v data s =
      (refillTest v (s.putVoice v { s.getVoice v with ring := (s.getVoice v).ring ++ data, refill := false })).putVoice v
        ((refillTest v
          (s.putVoice v
            { s.getVoice v with ring := (s.getVoice v).ring ++ data, refill := false })).getVoice v).primed := rfl
  rw [whole, getVoice_putVoice]
  refine ⟨(((OnlyVoice.refl v s).putVoice _).trans only).putVoice _, port, ?_, fun priming full => ?_, fun other => ?_⟩
  · rw [primed_ring, voice]
  · rw [primed_full]
    · rw [voice]
    · rw [voice]
      exact priming
    · rw [voice]
      simpa using full
  · rw [primed_other]
    · rw [voice]
    · rw [voice]
      exact other

/-! ### The requests, answered -/

/-- A reply is handed over with no regard to the voices. -/
theorem sendReply_setVoice (f : RxFrame) (a : Answer) (s : State) (u : VoiceEngine) :
    sendReply f a (s.setVoice u) = (sendReply f a s).setVoice u := by
  unfold sendReply handReply
  simp only [State.setVoice_host]
  split <;> rfl

/-- A request that its owner answers, with the voice engine changed. -/
theorem onRequest_voice {α : Type} {k : Byte} {judge : α → State → State × Answer} {s : State} {f : RxFrame}
    {rest : List RxFrame} {a : α} {ans : Answer} {u : VoiceEngine} (taken : Taken k s f rest)
    (judged : judge a (frameTaken s rest) = ((frameTaken s rest).setVoice u, ans)) :
    onRequest k (.fit a) s (answering judge) =
      .next { s with voice := u, host := replied s.host rest (reply f ans.cls ans.detail ans.body) } := by
  rw [onRequest_taken _ a taken, answering, judged]
  dsimp only
  rw [sendReply_setVoice, sendReply_frameTaken]
  rfl

theorem voiceGain_takes {s : State} {v : Fin 8} {target ramp : Nat} (low : target ≤ 4096) (short : ramp ≤ 10000)
    (takes : (s.getVoice v).takesGain = true) :
    voiceGain { voice := v, target := target, ramp := ramp } s =
      (s.setVoice { s.voice with voices := s.voice.voices.set v (gained (s.getVoice v) target ramp) }, .done) := by
  unfold voiceGain
  rw [dif_pos v.isLt]
  dsimp only
  rw [if_neg (by omega)]
  refine (if_pos takes).trans ?_
  exact congrArg (fun x => (x, Answer.done)) (gainVoice_takes target ramp takes)

theorem voiceGain_refused {s : State} {v : Fin 8} {target ramp : Nat} (low : target ≤ 4096) (short : ramp ≤ 10000)
    (out : (s.getVoice v).takesGain = false) :
    voiceGain { voice := v, target := target, ramp := ramp } s = (s, .refuse .state) := by
  unfold voiceGain
  rw [dif_pos v.isLt]
  dsimp only
  rw [if_neg (by omega)]
  exact if_neg (by simp [out])

/-- What the end of a voice leaves of the state before its stop (R163, R168). -/
structure Silenced (v : Fin 8) (s t : State) : Prop where
  blocks : t = { s with host := t.host, voice := t.voice, clip := t.clip }
  voice : t.voice = { s.voice with voices := s.voice.voices.set v (t.getVoice v) }
  state : (t.getVoice v).state = .idle
  clip : (t.getVoice v).clip = none
  ring : (t.getVoice v).ring = []
  gain : (t.getVoice v).gain = 0
  refills : t.clip.arb.refills[v] = none
  mem : t.clip.mem = s.clip.mem
  plays :
    ∀ (n : Fin 512) (c : Clip), (s.getVoice v).clip = some n.val → s.clip.dir[n] = some c →
      t.clip.dir = s.clip.dir.set n (some { c with plays := c.plays - 1 })
  port : t.host.port = s.host.port

theorem goIdle_silences {v : Fin 8} {s u : State} (reason : VoiceEndReason) (only : OnlyVoice v s u)
    (quiet : (u.getVoice v).gain = 0) (clip : (u.getVoice v).clip = (s.getVoice v).clip) :
    Silenced v s (goIdle v reason u) := by
  obtain ⟨blocks, voice, read, refills, mem, dir⟩ := goIdle_spec v reason u
  obtain ⟨before⟩ := only
  have voices : u.voice.voices.set v ((goIdle v reason u).getVoice v) =
      s.voice.voices.set v ((goIdle v reason u).getVoice v) := by
    rw [before]
    exact Vector.set_set ..
  have memory : u.clip.mem = s.clip.mem := by rw [before]
  have entries : u.clip.dir = s.clip.dir := by rw [before]
  have host : u.host = s.host := by rw [before]
  refine ⟨?_, ?_, by rw [read]; rfl, by rw [read]; rfl, by rw [read]; rfl, by rw [read]; exact quiet, refills,
    mem.trans memory, fun n c named entry => ?_, by simp [host]⟩
  · refine blocks.trans ?_
    generalize goIdle v reason u = t
    rw [before]
  · rw [voice, voices]
    generalize (goIdle v reason u).getVoice v = w
    rw [before]
  · have entry' : u.clip.dir[n] = some c := by
      rw [entries]
      exact entry
    rw [dir, clip, named, releasePlayOf_fin entry', ← entries]
    rfl

/-- Settles O59: each voice request by the voice's state, and the refill by where its blocks lie. -/
theorem voiceRequestsAndRefills : Obligations.VoiceRequestsAndRefills := by
  refine ⟨?_, ?_, ?_, ?_, ?_⟩
  · intro s f rest v n c gain routes hold loop duckable taken loud ok free entry ready
    have judged := voiceStart_takes (s := frameTaken s rest) hold loop duckable loud ok free entry ready
    refine ⟨fun idle => ?_, fun playing sounding => ?_⟩
    · have starts : takeStart v (hostStart n gain routes hold loop duckable) (frameTaken s rest) =
          startIdle v (hostStart n gain routes hold loop duckable) (frameTaken s rest) := if_pos idle
      rw [starts, startIdle_spec (s := frameTaken s rest) v _ rfl entry ready,
        show (frameTaken s rest).voice.voices[v].state = .idle from idle, if_pos rfl] at judged
      obtain ⟨h, runs, answered⟩ := onRequest_does taken judged rfl
      refine ⟨_, runs, answered, rfl, ?_, ?_, rfl⟩
      · exact putVoice_voice v _ (State.setClip (frameTaken s rest) _)
      · exact started_shown (getVoice_putVoice ..)
    · have starts : takeStart v (hostStart n gain routes hold loop duckable) (frameTaken s rest) =
          preempt v (hostStart n gain routes hold loop duckable) (frameTaken s rest) :=
        if_neg (by rw [show ((frameTaken s rest).getVoice v).state = .playing from playing]; decide)
      rw [starts, preempt_playing (s := frameTaken s rest) _ playing sounding,
        show (frameTaken s rest).voice.voices[v].state = .playing from playing, if_neg (by decide)] at judged
      obtain ⟨h, runs, answered⟩ := onRequest_does taken judged rfl
      exact ⟨_, runs, answered, rfl, rfl⟩
  · intro s f rest v fade taken short
    refine ⟨fun idle => ?_, fun playing loud slow => ?_, fun ends none => ?_⟩
    · exact onRequest_answer taken (voiceStop_idle (s := frameTaken s rest) short idle)
    · have judged := voiceStop_takes (s := frameTaken s rest) (v := v) short
        (by rw [show (frameTaken s rest).voice.voices[v].state = .playing from playing]; decide)
      rw [stopVoice_fades (s := frameTaken s rest) playing loud slow] at judged
      obtain ⟨h, runs, answered⟩ := onRequest_does taken judged rfl
      exact ⟨_, runs, answered, rfl, rfl⟩
    · have judged := voiceStop_takes (s := frameTaken s rest) (v := v) short (by
        rcases ends with h | h | ⟨h, -⟩ <;> rw [show (frameTaken s rest).voice.voices[v].state = _ from h] <;> decide)
      obtain ⟨u, only, ended, quiet, clip⟩ := stopVoice_ends (s := frameTaken s rest) (fade := fade) none ends
      rw [ended] at judged
      have silenced := goIdle_silences .stopped only quiet clip
      obtain ⟨h, runs, answered⟩ := onRequest_does taken judged silenced.port
      exact ⟨_, runs, answered, congrArg (fun x : State => x.setHost h) silenced.blocks, silenced.voice,
        silenced.state, silenced.clip, silenced.ring, silenced.gain, silenced.refills, silenced.mem, silenced.plays⟩
  · intro s f rest v target ramp taken low short
    refine ⟨fun takes => ⟨gained s.voice.voices[v] target ramp, ?_, rfl⟩, fun out => ?_⟩
    · exact onRequest_voice taken
        (voiceGain_takes (s := frameTaken s rest) low short (takesGain_iff.2 takes))
    · refine onRequest_answer taken (voiceGain_refused (s := frameTaken s rest) low short ?_)
      rw [Bool.eq_false_iff, Ne, takesGain_iff]
      rcases out with h | h
      · rw [show ((frameTaken s rest).getVoice v).state = .idle from h]
        decide
      · rw [show ((frameTaken s rest).getVoice v).state = .releasing from h]
        decide
  · intro s f rest taken
    exact ⟨(frameTaken s rest).mixStatusBody,
      onRequest_voice (judge := fun _ => mixStatus) taken rfl, rfl, rfl, rfl, rfl, rfl⟩
  · intro s v r port
    dsimp only
    refine ⟨fun past => ?_, fun low => ?_⟩
    · rw [exec_refill port, if_pos past]
    · rw [exec_refill port, if_neg (Nat.not_lt.2 low)]
      obtain ⟨only, free, ring, primed, other⟩ :=
        joinRing_spec v (Memory.readBlocks s.clip.mem r.mem r.count) (freePort s)
      obtain ⟨blocks⟩ := only
      refine ⟨_, rfl, ?_, congrArg State.voice blocks, free, ring, fun priming full => primed priming ?_, other⟩
      · have voice := congrArg State.voice blocks
        rw [voice]
        exact blocks
      · have length : (Memory.readBlocks s.clip.mem r.mem r.count).length = r.count := by simp [Memory.readBlocks]
        rw [length]
        exact full

end Sys2Proof.Claims

namespace Sys2Proof.Claims

open Sys2Proof.Machine

/-! ### A voice's part of a tick touches its own record (R171 to R175) -/

/-- Of the voice engine only one voice's record may differ. -/
def OwnVoice (v : Fin 8) (s t : State) : Prop :=
  t.voice = { s.voice with voices := s.voice.voices.set v (t.getVoice v) }

theorem OwnVoice.of_voice {v : Fin 8} {s t : State} (h : t.voice = s.voice) : OwnVoice v s t := by
  unfold OwnVoice State.getVoice
  rw [h, show s.voice.voices.set v s.voice.voices[v] = s.voice.voices from Vector.set_getElem_self v.isLt]

theorem OwnVoice.trans {v : Fin 8} {s t u : State} (h : OwnVoice v s t) (k : OwnVoice v t u) : OwnVoice v s u := by
  unfold OwnVoice at h k ⊢
  rw [k]
  generalize u.getVoice v = w
  rw [h]
  exact congrArg (fun x => { s.voice with voices := x }) (Vector.set_set ..)

theorem OwnVoice.putVoice {v : Fin 8} {s t : State} (h : OwnVoice v s t) (w : Voice) : OwnVoice v s (t.putVoice v w) :=
  h.trans (putVoice_voice v w t)

theorem OwnVoice.refl (v : Fin 8) (s : State) : OwnVoice v s s := .of_voice rfl

theorem OnlyVoice.own {v : Fin 8} {s t : State} (h : OnlyVoice v s t) : OwnVoice v s t := congrArg State.voice h.blocks

theorem OwnVoice.other {u v : Fin 8} (different : u ≠ v) {s t : State} (h : OwnVoice v s t) :
    t.getVoice u = s.getVoice u := by
  unfold State.getVoice
  rw [h]
  exact Vector.getElem_set_ne v.isLt u.isLt fun same => different (Fin.ext same.symm)

theorem refillTest_own (v : Fin 8) (s : State) : OwnVoice v s (refillTest v s) := (refillTest_spec v s).1.own

theorem goIdle_own (v : Fin 8) (reason : VoiceEndReason) (s : State) : OwnVoice v s (goIdle v reason s) :=
  (goIdle_spec v reason s).2.1

theorem putClip_voice (s : State) (n : Nat) (c : Option Clip) : (s.putClip n c).voice = s.voice := by
  unfold State.putClip
  split <;> rfl

theorem startIdle_own (v : Fin 8) (r : StartRec) (s : State) : OwnVoice v s (startIdle v r s) := by
  unfold startIdle
  split
  · split
    · exact ((OwnVoice.of_voice (putClip_voice ..)).putVoice _).trans (refillTest_own ..)
    · exact .refl v s
  · exact .refl v s

theorem fadeEnd_own (v : Fin 8) (s : State) : OwnVoice v s (fadeEnd v s) := by
  unfold fadeEnd
  split
  · exact goIdle_own ..
  · dsimp only
    split
    · exact (goIdle_own ..).trans (startIdle_own ..)
    · exact (goIdle_own v .preempted s).trans (.of_voice (by simp))

theorem fadeTest_own (v : Fin 8) (s : State) : OwnVoice v s (fadeTest v s) := by
  unfold fadeTest
  split
  · exact fadeEnd_own ..
  · exact .refl v s

theorem clipEnd_own (v : Fin 8) (s : State) : OwnVoice v s (clipEnd v s) := by
  unfold clipEnd
  dsimp only
  split
  · exact (OwnVoice.refl v s).putVoice _
  · split
    · exact fadeEnd_own ..
    · exact goIdle_own ..

theorem advance_own (v : Fin 8) (s : State) : OwnVoice v s (advance v s) := by
  unfold advance
  dsimp only
  split
  · split
    · exact (((OwnVoice.refl v s).putVoice _).trans (refillTest_own ..)).trans (clipEnd_own ..)
    · exact ((OwnVoice.refl v s).putVoice _).trans (refillTest_own ..)
  · exact (OwnVoice.refl v s).putVoice _

theorem moveGain_own (v : Fin 8) (s : State) : OwnVoice v s (moveGain v s) := by
  unfold moveGain
  split
  · exact .refl v s
  · exact ((OwnVoice.refl v s).putVoice _).trans (fadeTest_own ..)

theorem underrun_own (v : Fin 8) (s : State) : OwnVoice v s (underrun v s) := by
  have counted := (OwnVoice.refl v s).putVoice
    { s.getVoice v with underrun := true, underruns := bump 65535 (s.getVoice v).underruns }
  unfold underrun
  dsimp only
  split
  · exact counted
  · exact counted.trans (.of_voice (by simp))

theorem tickVoice_own (ducked : Bool) (duck : Nat) (v : Fin 8) (s : State) :
    OwnVoice v s (tickVoice ducked duck v s).1 := by
  unfold tickVoice
  dsimp only
  split
  · exact ((OwnVoice.refl v s).putVoice _).trans (moveGain_own ..)
  · split
    · split
      · exact (underrun_own ..).trans (moveGain_own ..)
      · exact (advance_own ..).trans (moveGain_own ..)
    · exact moveGain_own ..

/-! ### What a voice gives the mixer, and what its tick makes of it -/

/-- The sample a voice draws, with its gain and routes (R171, R175, R178). -/
def contribution (ducked : Bool) (duck : Nat) (w : Voice) : Option Contribution :=
  if w.pausesNow then none
  else if w.soundsOn then
    match w.ring with
    | [] => some ⟨0, w.mixGain ducked duck, w.routes⟩
    | b :: _ => some ⟨blockSample b (w.pos % 256), w.mixGain ducked duck, w.routes⟩
  else none

theorem tickVoice_gives (ducked : Bool) (duck : Nat) (v : Fin 8) (s : State) :
    (tickVoice ducked duck v s).2 = contribution ducked duck (s.getVoice v) := by
  unfold tickVoice contribution
  dsimp only
  split
  · rfl
  · split
    · cases ring : (s.getVoice v).ring <;> rfl
    · rfl

/-- An IDLE voice is as it was (R171). -/
theorem tickVoice_idle (ducked : Bool) (duck : Nat) {v : Fin 8} {s : State} (idle : (s.getVoice v).state = .idle) :
    (tickVoice ducked duck v s).1 = s := by
  have pauses : (s.getVoice v).pausesNow = false := by simp [Voice.pausesNow, idle]
  have sounds : (s.getVoice v).soundsOn = false := by simp [Voice.soundsOn, idle]
  unfold tickVoice
  dsimp only
  rw [pauses, sounds]
  exact if_pos idle

/-- The gain one step on (R174). -/
theorem stepGain_eq (w : Voice) :
    w.stepGain =
      { w with
        gain := if w.gain < w.target then min (w.gain + w.step) w.target else max (w.gain - w.step) w.target } := by
  unfold Voice.stepGain
  split
  · rfl
  · split
    · rfl
    · have there : w.gain = w.target := by omega
      have stays : max (w.gain - w.step) w.target = w.gain := by omega
      rw [stays]

/-- A voice that goes on within a block moves one sample on (R171, R174). -/
theorem tickVoice_moves (ducked : Bool) (duck : Nat) {v : Fin 8} {s : State}
    (playing : (s.getVoice v).state = .playing) (draws : (s.getVoice v).pausesNow = false)
    (full : (s.getVoice v).ring ≠ []) (within : ((s.getVoice v).pos + 1) % 256 ≠ 0)
    (inside : (s.getVoice v).pos + 1 ≠ (s.getVoice v).length) :
    (tickVoice ducked duck v s).1.getVoice v =
      { s.getVoice v with
        pos := (s.getVoice v).pos + 1
        gain :=
          if (s.getVoice v).gain < (s.getVoice v).target then
            min ((s.getVoice v).gain + (s.getVoice v).step) (s.getVoice v).target
          else max ((s.getVoice v).gain - (s.getVoice v).step) (s.getVoice v).target } := by
  have sounds : (s.getVoice v).soundsOn = true := by simp [Voice.soundsOn, playing]
  have moved : advance v s = s.putVoice v { s.getVoice v with pos := (s.getVoice v).pos + 1 } := by
    unfold advance
    dsimp only
    rw [if_neg (by simp [within, inside])]
  have whole : (tickVoice ducked duck v s).1 = moveGain v (advance v s) := by
    unfold tickVoice
    dsimp only
    rw [draws, sounds]
    obtain ⟨b, rest, ring⟩ := List.exists_cons_of_ne_nil full
    rw [ring]
    rfl
  rw [whole, moved, moveGain, getVoice_putVoice, if_neg (by simp [playing]), fadeTest, getVoice_putVoice,
    stepGain_eq, if_neg (by simp [playing]), getVoice_putVoice]

end Sys2Proof.Claims

namespace Sys2Proof.Claims

open Sys2Proof.Machine

/-! ### The voices' parts of a tick, and the mixer (R171 to R180) -/

/-- What the voices' parts of a tick give, each from its record before (R178; log 57). -/
structure Ticks (ducked : Bool) (duck : Nat) (vs : List (Fin 8)) (s : State) (r : State × List Contribution) :
    Prop where
  gives : r.2 = vs.flatMap fun v => (contribution ducked duck (s.getVoice v)).toList
  others : ∀ u, u ∉ vs → r.1.getVoice u = s.getVoice u
  each :
    ∀ v ∈ vs, ∃ x : State, x.getVoice v = s.getVoice v ∧
      r.1.getVoice v = (tickVoice ducked duck v x).1.getVoice v
  engine : r.1.voice = { s.voice with voices := r.1.voice.voices }

theorem tickVoices_ticks (ducked : Bool) (duck : Nat) {vs : List (Fin 8)} (once : vs.Nodup) (s : State) :
    Ticks ducked duck vs s (tickVoices ducked duck vs s) := by
  induction vs generalizing s with
  | nil => exact ⟨rfl, fun _ _ => rfl, fun v mem => absurd mem (by simp), rfl⟩
  | cons v vs ih =>
    obtain ⟨out, once⟩ := List.nodup_cons.1 once
    have own := tickVoice_own ducked duck v s
    have given := tickVoice_gives ducked duck v s
    obtain ⟨gives, others, each, engine⟩ := ih once (tickVoice ducked duck v s).1
    have kept {u : Fin 8} (mem : u ∈ vs) : (tickVoice ducked duck v s).1.getVoice u = s.getVoice u :=
      own.other (u := u) fun same : u = v => out (same ▸ mem)
    refine ⟨?_, fun u away => ?_, fun u mem => ?_, ?_⟩
    · show (tickVoice ducked duck v s).2.toList ++ (tickVoices ducked duck vs (tickVoice ducked duck v s).1).2 = _
      rw [given, gives, List.flatMap_cons]
      exact congrArg _ (List.flatMap_congr fun u mem => by rw [kept mem])
    · rw [List.mem_cons, not_or] at away
      exact (others u away.2).trans (own.other away.1)
    · rcases List.mem_cons.1 mem with rfl | mem
      · exact ⟨s, rfl, others u out⟩
      · obtain ⟨x, same, after⟩ := each u mem
        exact ⟨x, same.trans (kept mem), after⟩
    · show (tickVoices ducked duck vs (tickVoice ducked duck v s).1).1.voice = _
      rw [engine, own]
      rfl

/-- The eight voices, in the order of their numbers. -/
def eight : List (Fin 8) := [0, 1, 2, 3, 4, 5, 6, 7]

theorem mem_eight : ∀ v : Fin 8, v ∈ eight := by decide

theorem eight_nodup : eight.Nodup := by decide

theorem voices_toList (s : State) : s.voice.voices.toList = eight.map s.getVoice := by
  refine List.ext_getElem (by simp [eight]) fun i low high => ?_
  have small : i < 8 := by simpa using low
  rw [Vector.getElem_toList, List.getElem_map]
  interval_cases i <;> rfl

/-- What a voice adds to the sum of an output (R178). -/
def mixTerm (ducked : Bool) (duck : Nat) (o : Fin 4) (w : Voice) : Int :=
  mixSum (contribution ducked duck w).toList o

theorem mixSum_append (as bs : List Contribution) (o : Fin 4) : mixSum (as ++ bs) o = mixSum as o + mixSum bs o := by
  simp [mixSum]

theorem mixSum_flatMap (ducked : Bool) (duck : Nat) (o : Fin 4) (ws : List Voice) :
    mixSum (ws.flatMap fun w => (contribution ducked duck w).toList) o = (ws.map (mixTerm ducked duck o)).sum := by
  induction ws with
  | nil => rfl
  | cons w ws ih => rw [List.flatMap_cons, mixSum_append, ih, List.map_cons, List.sum_cons, mixTerm]

/-- Whether a voice draws a sample (R171, R175). -/
def drawsSample (w : Voice) : Bool :=
  (w.state = .playing && !(w.pausePending && w.pos % 256 = 0 && w.ring ≠ [])) ||
    (w.state = .releasing && w.sounding)

theorem drawsSample_iff (w : Voice) : drawsSample w = (!w.pausesNow && w.soundsOn) := by
  have ring : decide (w.ring ≠ []) = !w.ring.isEmpty := by
    cases w.ring <;> rfl
  unfold drawsSample Voice.pausesNow Voice.soundsOn
  rw [ring]
  cases h : w.state <;> simp

/-- The sample at a voice's position (R142, R171). -/
def sampleAt (w : Voice) : Int :=
  match w.ring with
  | [] => 0
  | b :: _ => (b.getD (2 * (w.pos % 256) + 1) 0 ++ b.getD (2 * (w.pos % 256)) 0 : BitVec 16).toInt

theorem mixTerm_eq (ducked : Bool) (duck : Nat) (o : Fin 4) (w : Voice) :
    mixTerm ducked duck o w =
      if drawsSample w then sampleAt w * w.mixGain ducked duck * w.routes[o] else 0 := by
  have one (x : Int) :
      mixSum [⟨x, w.mixGain ducked duck, w.routes⟩] o = x * w.mixGain ducked duck * w.routes[o] := by
    simp [mixSum]
  rw [drawsSample_iff]
  unfold mixTerm contribution
  cases pauses : w.pausesNow with
  | true => rfl
  | false =>
    cases sounds : w.soundsOn with
    | false => rfl
    | true =>
      unfold sampleAt
      cases ring : w.ring with
      | nil => exact one 0
      | cons b rest => exact one _

/-- The contributions of a tick, summed for an output (R178). -/
theorem mixSum_tick (ducked : Bool) (duck : Nat) (o : Fin 4) (s : State) :
    mixSum (tickVoices ducked duck eight s).2 o =
      (s.voice.voices.toList.map fun w =>
        if drawsSample w then sampleAt w * w.mixGain ducked duck * w.routes[o] else 0).sum := by
  rw [(tickVoices_ticks ducked duck eight_nodup s).gives, voices_toList]
  have mapped : (eight.flatMap fun v => (contribution ducked duck (s.getVoice v)).toList) =
      (eight.map s.getVoice).flatMap fun w => (contribution ducked duck w).toList := by
    rw [List.flatMap_map]
  rw [mapped, mixSum_flatMap]
  exact congrArg (fun f => ((eight.map s.getVoice).map f).sum) (funext (mixTerm_eq ducked duck o))

theorem sampleTick_eq (s : State) :
    sampleTick s =
      let r := tickVoices s.ducking.active s.voice.duck eight s
      r.1.setVoice (mixFrame r.2 s.voice.masters r.1.voice) := by
  unfold sampleTick eight
  dsimp only

theorem sampleTick_engine (s : State) :
    (sampleTick s).voice.voices = (tickVoices s.ducking.active s.voice.duck eight s).1.voice.voices ∧
      (sampleTick s).voice.masters = s.voice.masters := by
  have engine := (tickVoices_ticks s.ducking.active s.voice.duck eight_nodup s).engine
  rw [sampleTick_eq]
  dsimp only
  generalize tickVoices s.ducking.active s.voice.duck eight s = r at *
  have masters : r.1.voice.masters = s.voice.masters := by rw [engine]
  exact ⟨rfl, masters⟩

/-- A sample tick's output and its saturations (R178, R179). -/
theorem sampleTick_output (s : State) (o : Fin 4) :
    let r := mixOutput (tickVoices s.ducking.active s.voice.duck eight s).2 s.voice.masters[o] o
    (sampleTick s).voice.frame[o] = BitVec.ofInt 16 r.1 ∧
      (sampleTick s).voice.clips[o] = min 65535 (s.voice.clips[o] + r.2) := by
  have engine := (tickVoices_ticks s.ducking.active s.voice.duck eight_nodup s).engine
  have clips : (tickVoices s.ducking.active s.voice.duck eight s).1.voice.clips = s.voice.clips := by rw [engine]
  rw [sampleTick_eq]
  dsimp only
  generalize tickVoices s.ducking.active s.voice.duck eight s = r at *
  rw [← clips]
  exact ⟨Vector.getElem_ofFn o.isLt, Vector.getElem_ofFn o.isLt⟩

end Sys2Proof.Claims

namespace Sys2Proof.Claims

open Sys2Proof.Machine

theorem ducking_active (s : State) :
    s.ducking.active =
      ((s.voice.voices[7].state ≠ .idle && s.voice.voices[7].announce) || s.voice.alarm ||
        (s.voice.paused && s.voice.voices.toList.any fun w => w.state ≠ .idle && w.hold = .duck)) := rfl

theorem sampleTick_blocks (s : State) :
    sampleTick s =
        { s with
          host := (sampleTick s).host, fault := (sampleTick s).fault, voice := (sampleTick s).voice
          clip := (sampleTick s).clip, cue := (sampleTick s).cue } ∧
      OnlyReports s (sampleTick s) ∧ (sampleTick s).clip.mem = s.clip.mem := by
  obtain ⟨pending, config, guide, motion, zone, seat, port, mem, -⟩ := sampleTick_frame s
  generalize sampleTick s = t at *
  exact ⟨State.ext_fields pending config guide motion zone seat rfl rfl rfl rfl rfl, HostLink.eq_of_port port, mem⟩

/-- Settles O60: the mixer's sums from the records before the tick, and each voice's own part. -/
theorem sampleTickMixesDrawnSamples : Obligations.SampleTickMixesDrawnSamples := by
  intro s ducked draws sample gain sum cut one two
  have ticks := tickVoices_ticks s.ducking.active s.voice.duck eight_nodup s
  have total (o : Fin 4) : mixSum (tickVoices s.ducking.active s.voice.duck eight s).2 o = sum o := mixSum_tick ..
  obtain ⟨blocks, reports, mem⟩ := sampleTick_blocks s
  obtain ⟨voices, masters⟩ := sampleTick_engine s
  refine ⟨sampleTick s, rfl, blocks, reports, mem, masters, fun o => ?_, fun v => ?_⟩
  · obtain ⟨frame, clips⟩ := sampleTick_output s o
    have first : mixOutput (tickVoices s.ducking.active s.voice.duck eight s).2 s.voice.masters[o] o =
        (cut (two o), (if one o = cut (one o) then 0 else 1) + (if two o = cut (two o) then 0 else 1)) := by
      unfold mixOutput
      dsimp only
      rw [total]
      rfl
    rw [first] at frame clips
    refine ⟨frame, clips.trans ?_⟩
    rw [Nat.add_assoc]
    simp only [eq_comm (a := one o), eq_comm (a := two o)]
  · obtain ⟨x, same, after⟩ := ticks.each v (mem_eight v)
    have read : (sampleTick s).voice.voices[v] = (tickVoice s.ducking.active s.voice.duck v x).1.getVoice v := by
      rw [voices]
      exact after
    refine ⟨fun idle => ?_, fun playing drawing full within inside => ?_⟩
    · rw [read, tickVoice_idle _ _ (same ▸ idle)]
      exact same
    · have pauses : (s.getVoice v).pausesNow = false := by
        have drawn : drawsSample (s.getVoice v) = true := drawing
        rw [drawsSample_iff, Bool.and_eq_true, Bool.not_eq_true'] at drawn
        exact drawn.1
      rw [read, tickVoice_moves _ _ (same ▸ playing) (same ▸ pauses) (same ▸ full) (same ▸ within) (same ▸ inside), same]
      rfl

end Sys2Proof.Claims

namespace Sys2Proof.Claims

open Sys2Proof.Machine

/-! ### Where the zone unit stands in the order of the units (R8, log 5) -/

/-- The two states have one map and one place on it, with one set of limits. -/
structure Sees (s t : State) : Prop where
  config : t.config = s.config
  path : t.guide.path = s.guide.path
  front : t.guide.est.front = s.guide.est.front

theorem Sees.refl (s : State) : Sees s s := ⟨rfl, rfl, rfl⟩

theorem Sees.trans {s t u : State} (h : Sees s t) (k : Sees t u) : Sees s u :=
  ⟨k.config.trans h.config, k.path.trans h.path, k.front.trans h.front⟩

theorem Sees.of_blocks {s t : State} (config : t.config = s.config) (guide : t.guide = s.guide) : Sees s t :=
  ⟨config, by rw [guide], by rw [guide]⟩

theorem Quiet.sees {s t : State} (h : Quiet s t) : Sees s t := .of_blocks h.config h.guide

theorem Beside.sees {u : PosUpdate} {s t : State} (h : Beside u s t) : Sees s t := .of_blocks h.config h.guide

theorem Sees.lim {s t : State} (h : Sees s t) : t.lim = s.lim := by rw [State.lim, h.config, State.lim]

theorem Sees.lap {s t : State} (h : Sees s t) : t.P = s.P := by rw [State.P, h.path, State.P]

theorem Sees.isReady {s t : State} (h : Sees s t) : t.isReady = s.isReady := by
  rw [State.isReady, h.config, State.isReady]

theorem Sees.frontZone {s t : State} (h : Sees s t) : t.frontZone = s.frontZone := by
  rw [State.frontZone, State.frontSeg, h.path, h.front, State.frontZone, State.frontSeg]

theorem Sees.fromFront {s t : State} (h : Sees s t) (x : Int) : t.fromFront x = s.fromFront x := by
  rw [State.fromFront, h.lap, h.front, State.fromFront]

theorem Sees.rear {s t : State} (h : Sees s t) : t.rear = s.rear := by
  rw [State.rear, h.lap, h.front, h.lim, State.rear]

theorem zoneInfo_congr {s t : State} (zmap : t.zone.zmap = s.zone.zmap) (z : Nat) : t.zoneInfo z = s.zoneInfo z := by
  rw [State.zoneInfo, zmap, State.zoneInfo]

theorem Sees.entryDist {s t : State} (h : Sees s t) (zmap : t.zone.zmap = s.zone.zmap) :
    t.entryDist = s.entryDist := by
  funext z
  unfold State.entryDist
  rw [zoneInfo_congr zmap]
  cases s.zoneInfo z with
  | none => rfl
  | some i => exact h.fromFront i.entry

/-- The motion unit leaves the path and the front as they are (R8). -/
theorem motionUpdate_sees {u : PosUpdate} (moves : u.isSet = false) (s : State) : Sees s (motionUpdate u s) := by
  have driven := motionUpdate_driven moves s
  refine ⟨driven.config, ?_, ?_⟩
  · rw [driven.guide]
    split <;> rfl
  · rw [driven.guide]
    split <;> rfl

/-- A vehicle that a stop holds is not let go. -/
def HeldBack (s : State) : Prop := s.mstate ≠ .hold ∧ s.mstate ≠ .run ∧ s.mstate ≠ .creep

theorem HeldBack.of_mstate {s t : State} (h : HeldBack s) (same : t.mstate = s.mstate) : HeldBack t := by
  rw [HeldBack, same]
  exact h

theorem HeldBack.stopsTo {s t : State} (h : HeldBack s) (same : t.mstate = s.mstate.stopsTo) : HeldBack t := by
  obtain ⟨hold, run, creep⟩ := h
  have held : s.mstate.stopsTo = s.mstate := by
    cases m : s.mstate <;> simp_all [MotionState.stopsTo]
  exact .of_mstate ⟨hold, run, creep⟩ (same.trans held)

theorem motionUpdate_heldBack {u : PosUpdate} (moves : u.isSet = false) {s : State} (h : HeldBack s) :
    HeldBack (motionUpdate u s) := by
  obtain ⟨hold, run, creep⟩ := id h
  have settles : HeldBack (settled u s) := by
    by_cases stopping : s.mstate = .stopping
    · obtain ⟨-, after⟩ := settled_stopping u stopping
      rw [HeldBack, after]
      split <;> decide
    · obtain ⟨-, -, same⟩ := settled_rests u creep stopping run
      exact h.of_mstate same
  rcases (motionUpdate_driven moves s).mstate with same | same
  · exact settles.of_mstate same
  · exact settles.stopsTo same

/-- What comes before the zone unit on an update, and what comes after it. -/
structure Enters (u : PosUpdate) (s a t : State) : Prop where
  sees : Sees s a
  zone : OnlyLong s a
  f09 : a.faultRec .f09 = s.faultRec .f09
  after : Sees (zoneUpdate u a) t
  kept : OnlyLong (zoneUpdate u a) t
  told : t.faultRec .f09 = (zoneUpdate u a).faultRec .f09
  stays : HeldBack (zoneUpdate u a) → HeldBack t

theorem motionUpdate_zone {u : PosUpdate} (moves : u.isSet = false) (s : State) :
    OnlyLong s (motionUpdate u s) := .of_eq (motionUpdate_driven moves s).zone

theorem motionUpdate_f09 {u : PosUpdate} (moves : u.isSet = false) (s : State) :
    (motionUpdate u s).faultRec .f09 = s.faultRec .f09 :=
  (motionUpdate_driven moves s).faults.kept _ (by decide)

theorem cueUpdate_f09 (u : PosUpdate) (s : State) : (cueUpdate u s).faultRec .f09 = s.faultRec .f09 :=
  State.faultRec_congr (cueUpdate_quiet u s).fault _

/-- In every order the other two units leave the zone unit's part to it; where it is first, it finds the
vehicle as the guidance unit handed it on. -/
theorem handOn_enters (order : UnitOrder) {u : PosUpdate} (moves : u.isSet = false) (s : State) :
    ∃ a, Enters u s a (handOn order u s) ∧ (ZoneFirst order → Quiet s a) := by
  have cue := fun x => (cueUpdate_quiet u x).sees
  have long := fun x => cueUpdate_onlyLong u x
  have move := fun x => motionUpdate_sees moves x
  have zone := fun x => motionUpdate_zone moves x
  have cueStays : ∀ x, HeldBack x → HeldBack (cueUpdate u x) := fun x h => h.of_mstate (cueUpdate_quiet u x).mstate
  have moveStays : ∀ x, HeldBack x → HeldBack (motionUpdate u x) := fun x h => motionUpdate_heldBack moves h
  cases order with
  | motionZoneCue =>
    exact ⟨motionUpdate u s, ⟨move _, zone _, motionUpdate_f09 moves _, cue _, long _, cueUpdate_f09 .., cueStays _⟩,
      fun first => absurd first (by simp [ZoneFirst])⟩
  | motionCueZone =>
    exact ⟨cueUpdate u (motionUpdate u s), ⟨(move _).trans (cue _), (zone _).trans (long _),
      (cueUpdate_f09 ..).trans (motionUpdate_f09 moves _), .refl _, .of_eq rfl, rfl, id⟩,
      fun first => absurd first (by simp [ZoneFirst])⟩
  | cueMotionZone =>
    exact ⟨motionUpdate u (cueUpdate u s), ⟨(cue _).trans (move _), (long _).trans (zone _),
      (motionUpdate_f09 moves _).trans (cueUpdate_f09 ..), .refl _, .of_eq rfl, rfl, id⟩,
      fun first => absurd first (by simp [ZoneFirst])⟩
  | zoneMotionCue =>
    exact ⟨s, ⟨.refl s, .of_eq rfl, rfl, (move _).trans (cue _), (zone _).trans (long _),
      (cueUpdate_f09 ..).trans (motionUpdate_f09 moves _), fun h => cueStays _ (moveStays _ h)⟩, fun _ => .refl s⟩
  | zoneCueMotion =>
    exact ⟨s, ⟨.refl s, .of_eq rfl, rfl, (cue _).trans (move _), (long _).trans (zone _),
      (motionUpdate_f09 moves _).trans (cueUpdate_f09 ..), fun h => moveStays _ (cueStays _ h)⟩, fun _ => .refl s⟩
  | cueZoneMotion =>
    exact ⟨cueUpdate u s, ⟨cue _, long _, cueUpdate_f09 .., move _, zone _, motionUpdate_f09 moves _, moveStays _⟩,
      fun _ => cueUpdate_quiet u s⟩

end Sys2Proof.Claims

namespace Sys2Proof.Claims

open Sys2Proof.Machine

/-! ### The table stays in path order (R70) -/

/-- The reservation table is in path order, the rearmost zone first (R70). -/
def PathOrder (s : State) : Prop := (s.zone.table.map fun r => s.entryDist r.zone).Pairwise (· ≤ ·)

theorem insertRes_eq (key : Nat → Int) (r : Reservation) (l : List Reservation) :
    insertRes key r l = l.orderedInsert (fun a b => key a.zone ≤ key b.zone) r := by
  induction l with
  | nil => rfl
  | cons x l ih => rw [insertRes, List.orderedInsert, ih]

theorem sortRes_eq (key : Nat → Int) (l : List Reservation) :
    l.foldr (insertRes key) [] = l.insertionSort (fun a b => key a.zone ≤ key b.zone) := by
  induction l with
  | nil => rfl
  | cons x l ih => rw [List.foldr_cons, ih, insertRes_eq, List.insertionSort_cons]

theorem sortRes_sorted (key : Nat → Int) (l : List Reservation) :
    ((l.foldr (insertRes key) []).map fun r => key r.zone).Pairwise (· ≤ ·) := by
  have total : Std.Total fun a b : Reservation => key a.zone ≤ key b.zone :=
    ⟨fun a b => Int.le_total (key a.zone) (key b.zone)⟩
  have transitive : IsTrans Reservation fun a b => key a.zone ≤ key b.zone := ⟨fun _ _ _ => Int.le_trans⟩
  rw [sortRes_eq, List.pairwise_map]
  exact List.pairwise_insertionSort _ l

/-- An operation of the zone unit that leaves map and link alone and keeps the path order. -/
structure KeepsOrder (s t : State) : Prop where
  sees : Sees s t
  zmap : t.zone.zmap = s.zone.zmap
  link : t.zone.link = s.zone.link
  order : PathOrder s → PathOrder t

theorem KeepsOrder.refl (s : State) : KeepsOrder s s := ⟨.refl s, rfl, rfl, id⟩

theorem KeepsOrder.trans {s t u : State} (h : KeepsOrder s t) (k : KeepsOrder t u) : KeepsOrder s u :=
  ⟨h.sees.trans k.sees, k.zmap.trans h.zmap, k.link.trans h.link, fun x => k.order (h.order x)⟩

theorem KeepsOrder.foldl {α : Type} {f : State → α → State} (each : ∀ s a, KeepsOrder s (f s a)) (l : List α)
    (s : State) : KeepsOrder s (l.foldl f s) := by
  induction l generalizing s with
  | nil => exact .refl s
  | cons a l ih => exact (each s a).trans (ih (f s a))

/-- Zones that leave the table leave the others in order. -/
theorem KeepsOrder.of_sublist {s t : State} (sees : Sees s t) (zmap : t.zone.zmap = s.zone.zmap)
    (link : t.zone.link = s.zone.link)
    (sub : (t.zone.table.map (·.zone)).Sublist (s.zone.table.map (·.zone))) : KeepsOrder s t := by
  have keys : ∀ x : State, (x.zone.table.map fun r => x.entryDist r.zone) =
      (x.zone.table.map (·.zone)).map x.entryDist := fun x => by
    rw [List.map_map]
    rfl
  refine ⟨sees, zmap, link, fun order => ?_⟩
  rw [PathOrder, keys] at order ⊢
  rw [sees.entryDist zmap]
  exact order.sublist (sub.map _)

theorem KeepsOrder.of_zone {s t : State} (sees : Sees s t) (zone : t.zone = s.zone) : KeepsOrder s t :=
  .of_sublist sees (by rw [zone]) (by rw [zone]) (by rw [zone])

theorem sortTable_pathOrder (s : State) : PathOrder (sortTable s) := by
  have same : (sortTable s).entryDist = s.entryDist := Sees.entryDist ⟨rfl, rfl, rfl⟩ rfl
  rw [PathOrder, same]
  exact sortRes_sorted ..

theorem sortTable_keepsOrder (s : State) : KeepsOrder s (sortTable s) :=
  ⟨⟨rfl, rfl, rfl⟩, rfl, rfl, fun _ => sortTable_pathOrder s⟩

theorem modEntry_keepsOrder {z : Nat} {f : Reservation → Reservation} (zone : ∀ r, r.zone = z → (f r).zone = z)
    (s : State) : KeepsOrder s (modEntry z f s) :=
  .of_sublist ⟨rfl, rfl, rfl⟩ rfl rfl (by
    show ((s.zone.table.map _).map _).Sublist _
    rw [map_zone_replace zone])

theorem sendEntry_keepsOrder (z : Nat) (s : State) : KeepsOrder s (sendEntry z s) := by
  unfold sendEntry
  split
  · exact .refl s
  · split
    next box _ =>
      have put : KeepsOrder s (s.setZone { s.zone with mailbox := box }) :=
        .of_sublist ⟨rfl, rfl, rfl⟩ rfl rfl (.refl _)
      exact put.trans (modEntry_keepsOrder (by exact fun _ h => h) _)
    next => exact modEntry_keepsOrder (by exact fun _ h => h) _

theorem reportTable_keepsOrder (s : State) : KeepsOrder s (reportTable s) :=
  .of_zone (.of_blocks (by simp) (by simp)) (by simp)

theorem nextTag_keepsOrder (s : State) : KeepsOrder s (nextTag s) :=
  .of_sublist ⟨rfl, rfl, rfl⟩ rfl rfl (.refl _)

/-- The zone unit without the entry of a zone (R79). -/
def unlisted (z : Nat) (s : State) : State :=
  s.setZone
    { s.zone with
      table := s.zone.table.filter fun r => r.zone != z
      mailbox := s.zone.mailbox.map fun m => if m.owner = some z then { m with owner := none } else m }

theorem removeEntry_eq (z : Nat) (s : State) : removeEntry z s = reportTable (unlisted z s) := rfl

theorem removeEntry_keepsOrder (z : Nat) (s : State) : KeepsOrder s (removeEntry z s) := by
  have unlists : KeepsOrder s (unlisted z s) :=
    .of_sublist ⟨rfl, rfl, rfl⟩ rfl rfl (List.filter_sublist.map _)
  rw [removeEntry_eq]
  exact unlists.trans (reportTable_keepsOrder _)

theorem startRelease_keepsOrder (z : Nat) (s : State) : KeepsOrder s (startRelease z s) :=
  (((nextTag_keepsOrder s).trans (modEntry_keepsOrder (by exact fun _ h => h) _)).trans
    (reportTable_keepsOrder _)).trans (sendEntry_keepsOrder ..)

/-- The table with an entry for a zone that claims, before its CLAIM is sent (R72). -/
def listed (z : Nat) (s : State) : State :=
  (nextTag s).setZone
    { (nextTag s).zone with
      table := s.zone.table ++
        [{ zone := z, state := .requested, tag := s.zone.tagCtr, deny := 0, resend := 0, timer := .stopped
           outstanding := false, failed := false, sendDue := false }] }

theorem claimZone_eq (z : Nat) (s : State) :
    claimZone z s = sendEntry z (reportTable (sortTable (listed z s))) := rfl

theorem claimZone_keepsOrder (z : Nat) (s : State) : KeepsOrder s (claimZone z s) := by
  rw [claimZone_eq]
  have after := (reportTable_keepsOrder (sortTable (listed z s))).trans (sendEntry_keepsOrder z _)
  have lists : Sees s (sortTable (listed z s)) := ⟨rfl, rfl, rfl⟩
  exact ⟨lists.trans after.sees, after.zmap, after.link, fun _ => after.order (sortTable_pathOrder _)⟩

theorem releaseOne_keepsOrder (s : State) (z : Nat) : KeepsOrder s (releaseOne z s) := by
  unfold releaseOne
  split
  · split
    · split
      · exact startRelease_keepsOrder z s
      · split
        · exact startRelease_keepsOrder z s
        · exact removeEntry_keepsOrder z s
      · exact removeEntry_keepsOrder z s
      · exact removeEntry_keepsOrder z s
      · exact .refl s
    · exact .refl s
  · exact .refl s

theorem released_keepsOrder (s : State) : KeepsOrder s (released s) := .foldl releaseOne_keepsOrder _ s

theorem testF10_keepsOrder (d : FaultDetail) (s : State) : KeepsOrder s (testF10 d s) :=
  .of_zone (.of_blocks (testF10_frame d s).2.1 (testF10_stopsOnly d s).2.2.1) (testF10_frame d s).2.2.1

theorem claimFront_keepsOrder (fz : Nat) (s : State) : KeepsOrder s (claimFront fz s) := by
  unfold claimFront
  split
  · exact claimZone_keepsOrder fz s
  · exact .refl s

theorem claimAhead_keepsOrder (fz : Nat) (s : State) : KeepsOrder s (claimAhead fz s) := by
  unfold claimAhead
  split
  · exact .refl s
  · split
    · exact claimZone_keepsOrder ..
    · exact .refl s

theorem claimTest_keepsOrder (s : State) : KeepsOrder s (claimTest s) := by
  rw [claimTest_eq]
  split
  · exact .refl s
  · exact (claimFront_keepsOrder ..).trans (claimAhead_keepsOrder ..)

/-- The claims and releases of an update leave the table in path order (R70). -/
theorem claimed_keepsOrder (u : PosUpdate) (s : State) :
    KeepsOrder s (claimed u s) ∧ PathOrder (claimed u s) := by
  unfold claimed
  split
  · have after := ((released_keepsOrder (sortTable s)).trans (testF10_keepsOrder .link _)).trans
      (claimTest_keepsOrder _)
    exact ⟨(sortTable_keepsOrder s).trans after, after.order (sortTable_pathOrder s)⟩
  · exact ⟨sortTable_keepsOrder s, sortTable_pathOrder s⟩

/-- The test for zone violation leaves the zone unit as it is (R84). -/
theorem zoneUpdate_zone (u : PosUpdate) (s : State) :
    (zoneUpdate u s).zone = { (claimed u s).zone with hold := (claimed u s).holdPointNow } := by
  rw [zoneUpdate_eq, (violationTest_frame ..).2.2.1]
  rfl

theorem zoneUpdate_sees (u : PosUpdate) (s : State) : Sees s (zoneUpdate u s) := (zoneUpdate_beside u s).sees

end Sys2Proof.Claims

namespace Sys2Proof.Claims

open Sys2Proof.Machine

/-! ### The hold point and zone violations of a sample (R81, R84) -/

theorem zoneHeld_congr {s t : State} (table : t.zone.table = s.zone.table) (z : Nat) :
    t.zoneHeld z = s.zoneHeld z := by
  unfold State.zoneHeld State.entryOf
  rw [table]

/-- A sample's zone unit, found in the state after the sample. -/
theorem Enters.zone_eq {u : PosUpdate} {s a t : State} (h : Enters u s a t) :
    t.zone = { (claimed u a).zone with hold := (claimed u a).holdPointNow, long := t.zone.long } := by
  rw [h.kept.zone, zoneUpdate_zone]

theorem Enters.claims {u : PosUpdate} {s a t : State} (h : Enters u s a t) : Sees (claimed u a) t := by
  obtain ⟨keeps, -⟩ := claimed_keepsOrder u a
  have whole := (zoneUpdate_sees u a).trans h.after
  exact ⟨whole.config.trans keeps.sees.config.symm, whole.path.trans keeps.sees.path.symm,
    whole.front.trans keeps.sees.front.symm⟩

theorem Enters.whole {u : PosUpdate} {s a t : State} (h : Enters u s a t) : Sees s t :=
  (h.sees.trans (zoneUpdate_sees u a)).trans h.after

theorem Enters.zmap {u : PosUpdate} {s a t : State} (h : Enters u s a t) :
    (claimed u a).zone.zmap = s.zone.zmap := by
  obtain ⟨keeps, -⟩ := claimed_keepsOrder u a
  rw [keeps.zmap, h.zone.zone]

/-- A sample leaves the table in path order (R70). -/
theorem Enters.pathOrder {u : PosUpdate} {s a t : State} (h : Enters u s a t) : PathOrder t := by
  obtain ⟨-, order⟩ := claimed_keepsOrder u a
  have same : t.entryDist = (claimed u a).entryDist := h.claims.entryDist (by rw [h.zone_eq])
  rw [PathOrder, same, h.zone_eq]
  exact order

/-- A sample places the hold point before the first zone ahead that is not held (R81). -/
theorem Enters.hold {u : PosUpdate} {s a t : State} (h : Enters u s a t) (ready : s.isReady = true) {x : SegAt}
    (under : segmentAt s.guide.path t.guide.est.front = some x) :
    t.zone.hold =
      if t.zoneHeld x.seg.zone = true then
        ((zonesAhead s.zone.zmap x.seg.zone).find? fun z => !t.zoneHeld z.zone).map fun z =>
          { pos := (((z.entry : Int) - s.lim.stopMargin) % s.P).toNat, zone := z.zone }
      else some { pos := t.guide.est.front, zone := x.seg.zone } := by
  have zone := h.zone_eq
  have held : ∀ z, (claimed u a).zoneHeld z = t.zoneHeld z := zoneHeld_congr (by rw [zone])
  have front : (claimed u a).frontZone = some x.seg.zone := by
    rw [← h.claims.frontZone, State.frontZone, State.frontSeg, h.whole.path, under]
    rfl
  have lap : (claimed u a).P = s.P := by rw [← h.claims.lap, h.whole.lap]
  have lim : (claimed u a).lim = s.lim := by rw [← h.claims.lim, h.whole.lim]
  have ready' : (claimed u a).isReady = true := by rw [← h.claims.isReady, h.whole.isReady, ready]
  rw [zone]
  show (claimed u a).holdPointNow = _
  unfold State.holdPointNow
  rw [if_pos ready', front]
  dsimp only
  rw [h.zmap, lap, lim, ← h.claims.front]
  simp only [held]
  rfl

/-- The zones ahead of a zone and the zone itself are the zones of the map. -/
theorem mem_zonesAround (zmap : List ZoneInfo) (z : Nat) (i : ZoneInfo) :
    i ∈ zonesAhead zmap z ++ (zmap.find? fun x => x.zone == z).toList ↔ i ∈ zmap := by
  unfold zonesAhead
  induction zmap with
  | nil => simp
  | cons y ys ih =>
    by_cases here : y.zone = z
    · simp [List.findIdx_cons, here, or_comm]
    · have other : (y.zone == z) = false := by simpa using here
      simp only [List.findIdx_cons, other, cond_false, List.find?_cons, List.drop_succ_cons, List.take_succ_cons,
        List.mem_append, List.mem_cons] at ih ⊢
      rw [← ih]
      tauto

/-- The front has come over the entry of a zone that is not held (R84). -/
def ComesOver (u : PosUpdate) (s : State) (z : ZoneInfo) : Prop :=
  0 < signedDist s.P u.frontBefore z.entry ∧ signedDist s.P u.frontAfter z.entry ≤ 0 ∧ s.zoneHeld z.zone = false

theorem mem_violated {s : State} {u : PosUpdate} {x : SegAt}
    (under : segmentAt s.guide.path u.frontBefore = some x) (n : Nat) :
    n ∈ s.violated u ↔ ∃ z ∈ s.zone.zmap, ComesOver u s z ∧ z.zone = n := by
  unfold State.violated
  rw [under]
  dsimp only
  simp only [List.mem_map, List.mem_filter, State.zoneInfo, mem_zonesAround, ComesOver, Bool.and_eq_true,
    decide_eq_true_iff, Bool.not_eq_true', and_assoc]

/-- F09 as a violation raises it (R84). -/
def violationRecord (s : State) (z : Nat) : FaultRecord :=
  { active := false, latched := true, cls := .stop, count := min 255 ((s.faultRec .f09).count + 1)
    detail := .zone z }

theorem violationTest_raises {u : PosUpdate} {s : State} {x : SegAt} (crosses : u.crosses = true)
    (under : segmentAt s.guide.path u.frontBefore = some x) :
    ((∃ z ∈ s.zone.zmap, ComesOver u s z) →
        (∃ z ∈ s.zone.zmap, ComesOver u s z ∧ (violationTest u s).faultRec .f09 = violationRecord s z.zone) ∧
          HeldBack (violationTest u s)) ∧
      ((∀ z ∈ s.zone.zmap, ¬ ComesOver u s z) → violationTest u s = s) := by
  rw [violationTest_eq, if_pos crosses]
  have members := mem_violated under
  cases found : s.violated u with
  | nil =>
    have none_ : ∀ z ∈ s.zone.zmap, ¬ ComesOver u s z := fun z mem entered =>
      absurd ((members z.zone).2 ⟨z, mem, entered, rfl⟩) (by simp [found])
    exact ⟨fun ⟨z, mem, entered⟩ => absurd entered (none_ z mem), fun _ => rfl⟩
  | cons n ns =>
    obtain ⟨z, mem, entered, named⟩ := (members n).1 (by simp [found])
    obtain ⟨-, motion, fault, -⟩ := violationsTold_frame (n :: ns) s
    have before : (violationsTold (n :: ns) s).mstate = s.mstate := congrArg (fun m => m.record.state) motion
    refine ⟨fun _ => ⟨⟨z, mem, entered, ?_⟩, ?_⟩, fun none_ => absurd entered (none_ z mem)⟩
    · dsimp only
      rw [raiseFault_rec (by decide), if_pos rfl, State.faultRec_congr fault, named]
      rfl
    · dsimp only
      rw [HeldBack, raiseFault_stops (by decide) (by rfl), before]
      cases s.mstate <;> decide

/-- What a sample that comes forward without a marker does to F09 (R84). -/
theorem Enters.violations {u : PosUpdate} {s a t : State} (h : Enters u s a t) (crosses : u.crosses = true)
    (under : (segmentAt s.guide.path u.frontBefore).isSome = true) :
    ((∃ z ∈ s.zone.zmap, ComesOver u t z) →
        (∃ z ∈ s.zone.zmap, ComesOver u t z ∧ t.faultRec .f09 = violationRecord s z.zone) ∧ HeldBack t) ∧
      ((∀ z ∈ s.zone.zmap, ¬ ComesOver u t z) → t.faultRec .f09 = s.faultRec .f09) := by
  obtain ⟨x, under⟩ := Option.isSome_iff_exists.1 under
  obtain ⟨-, kept, -⟩ := claimed_acts u a
  have same : (claimed u a).faultRec .f09 = s.faultRec .f09 := (kept.kept _ (by decide)).trans h.f09
  let v := recomputeHold (claimed u a)
  have comes : ∀ z, ComesOver u v z ↔ ComesOver u t z := fun z => by
    have lap : t.P = v.P := h.claims.lap
    have held : t.zoneHeld z.zone = v.zoneHeld z.zone := zoneHeld_congr (by rw [h.zone_eq]; rfl) _
    rw [ComesOver, ComesOver, lap, held]
  have path : v.guide.path = s.guide.path := h.claims.path.symm.trans h.whole.path
  have raises := violationTest_raises (s := v) crosses (by rw [path]; exact under)
  rw [show v.zone.zmap = s.zone.zmap from h.zmap] at raises
  simp only [comes] at raises
  have record : ∀ z, violationRecord v z = violationRecord s z := fun z => by
    rw [violationRecord, show v.faultRec .f09 = s.faultRec .f09 from same, violationRecord]
  have after : zoneUpdate u a = violationTest u v := zoneUpdate_eq u a
  have told := h.told
  have stays := h.stays
  rw [after] at told stays
  rw [told]
  obtain ⟨some_, none_⟩ := raises
  refine ⟨fun entered => ?_, fun free => ?_⟩
  · obtain ⟨⟨z, mem, comes, raised⟩, held⟩ := some_ entered
    exact ⟨⟨z, mem, comes, raised.trans (record _)⟩, stays held⟩
  · rw [none_ free]
    exact same

/-- A sample that does not come forward leaves F09 alone (R84). -/
theorem Enters.noViolation {u : PosUpdate} {s a t : State} (h : Enters u s a t) (stays : u.crosses = false) :
    t.faultRec .f09 = s.faultRec .f09 := by
  obtain ⟨-, kept, -⟩ := claimed_acts u a
  have same : zoneUpdate u a = recomputeHold (claimed u a) := by
    rw [zoneUpdate_eq, violationTest_eq, if_neg (by simp [stays])]
  rw [h.told, same]
  exact (kept.kept _ (by decide)).trans h.f09

end Sys2Proof.Claims

namespace Sys2Proof.Claims

open Sys2Proof.Machine

/-! ### The release test of one entry (R79) -/

/-- The rear has left a zone that is not the front's (R79). -/
def LeftBehind (s : State) (z : Nat) : Prop :=
  some z ≠ s.frontZone ∧ ∃ i, s.zoneInfo z = some i ∧ 0 < signedDist s.P i.exit s.rear

theorem KeepsOrder.leftBehind {s t : State} (h : KeepsOrder s t) (z : Nat) : LeftBehind t z ↔ LeftBehind s z := by
  rw [LeftBehind, LeftBehind, h.sees.frontZone, zoneInfo_congr h.zmap, h.sees.lap, h.sees.rear]

/-- An entry that is given back when its zone is left behind (R79). -/
def Returnable (r : Reservation) : Prop := r.state = .held ∨ r.state = .requested ∧ r.outstanding = true

/-- An entry that is removed when its zone is left behind (R79). -/
def Removable (r : Reservation) : Prop :=
  r.state = .waiting ∨ r.state = .closed ∨ r.state = .requested ∧ r.outstanding = false

/-- An entry that is given back (R79). -/
def givenBack (r : Reservation) (tag : Byte) (ms : Nat) : Reservation :=
  { zone := r.zone, state := .releasing, tag := tag, deny := r.deny, resend := 0, timer := .release ms
    outstanding := true, failed := false, sendDue := false }

theorem reservation_cases (r : Reservation) : Returnable r ∨ Removable r ∨ r.state = .releasing := by
  unfold Returnable Removable
  cases r.state <;> cases r.outstanding <;> simp

section Cases

variable {s : State} {z : Nat} {r : Reservation}

theorem releaseOne_left (h : EntryOf s z r) (left : LeftBehind s z) :
    releaseOne z s =
      match r.state with
      | .held => startRelease z s
      | .requested => if r.outstanding then startRelease z s else removeEntry z s
      | .waiting | .closed => removeEntry z s
      | .releasing => s := by
  obtain ⟨front, i, info, behind⟩ := left
  unfold releaseOne
  rw [entryOf_some h, info]
  exact if_pos ⟨front, behind⟩

theorem releaseOne_stays (h : EntryOf s z r) (stays : ¬ LeftBehind s z ∨ r.state = .releasing) :
    releaseOne z s = s := by
  rcases Classical.em (LeftBehind s z) with left | here
  · rw [releaseOne_left h left, stays.resolve_left (not_not_intro left)]
  · unfold releaseOne
    rw [entryOf_some h]
    cases info : s.zoneInfo z with
    | none => rfl
    | some i => exact if_neg fun both => here ⟨both.1, i, info, both.2⟩

theorem releaseOne_returns (h : EntryOf s z r) (left : LeftBehind s z) (back : Returnable r) :
    releaseOne z s = startRelease z s := by
  rw [releaseOne_left h left]
  rcases back with held | ⟨requested, outstanding⟩
  · rw [held]
  · rw [requested, outstanding]
    rfl

theorem releaseOne_removes (h : EntryOf s z r) (left : LeftBehind s z) (leaves : Removable r) :
    releaseOne z s = removeEntry z s := by
  rw [releaseOne_left h left]
  rcases leaves with waiting | closed | ⟨requested, outstanding⟩
  · rw [waiting]
  · rw [closed]
  · rw [requested, outstanding]
    rfl

/-- An entry is given back with a new tag, its RELEASE in the mailbox (R79). -/
theorem startRelease_zone (h : EntryOf s z r) (link : s.zone.link ≠ .stopped) (room : MailRoom s z) :
    (startRelease z s).zone =
      { s.zone with
        tagCtr := s.zone.tagCtr + 1
        mailbox := s.zone.mailbox ++ [⟨some z, .release z s.zone.tagCtr⟩]
        table := withEntry s.zone.table z (givenBack r s.zone.tagCtr s.lim.claimTimer) } := by
  obtain ⟨-, zone, -⟩ := id h
  let x : Reservation :=
    { r with
      state := .releasing, tag := s.zone.tagCtr, resend := 0, timer := .stopped, outstanding := false
      failed := false, sendDue := false }
  let b := (nextTag s).setZone { (nextTag s).zone with table := withEntry s.zone.table z x }
  have whole : startRelease z s = sendEntry z (reportTable b) := by
    unfold startRelease
    dsimp only
    rw [modEntry_eq (s := nextTag s) h]
    rfl
  have same : (reportTable b).zone = b.zone := by simp
  have lim : (reportTable b).lim = s.lim := by simp [State.lim, b, nextTag]
  rw [whole]
  generalize reportTable b = c at *
  have entry : EntryOf c z x := entryOf_withEntry h zone (by rw [same]; rfl)
  have room' : MailRoom c z := by
    unfold MailRoom
    rw [same]
    exact room
  rw [sendEntry_eq entry (by rw [same]; exact link) room', State.setZone_zone, same, lim]
  have table : withEntry b.zone.table z
        { x with outstanding := true, sendDue := false, timer := x.sendTimer s.lim.claimTimer } =
      withEntry s.zone.table z (givenBack r s.zone.tagCtr s.lim.claimTimer) := by
    show withEntry (withEntry s.zone.table z x) z _ = _
    rw [withEntry_withEntry (show x.zone = z from zone)]
    rfl
  have frame : x.frame = .release z s.zone.tagCtr := by rw [← zone]; rfl
  rw [table, frame]
  rfl

/-- An entry is removed; the mailbox holds no frame of it (R79). -/
theorem removeEntry_noMail (none_ : ∀ m ∈ s.zone.mailbox, m.owner ≠ some z) :
    (removeEntry z s).zone = { s.zone with table := s.zone.table.filter fun r => r.zone ≠ z } := by
  have box : (s.zone.mailbox.map fun m => if m.owner = some z then { m with owner := none } else m) =
      s.zone.mailbox :=
    (List.map_congr_left fun m mem => if_neg (none_ m mem)).trans (List.map_id' _)
  rw [removeEntry_zone, box]

end Cases

end Sys2Proof.Claims

namespace Sys2Proof.Claims

open Sys2Proof.Machine

/-! ### The release test of every entry (R79) -/

/-- What the release test makes of an entry (R79). -/
structure Released (b t : State) (r : Reservation) : Prop where
  stays : ¬ LeftBehind b r.zone ∨ r.state = .releasing → r ∈ t.zone.table
  back : LeftBehind b r.zone → Returnable r →
    ∃ tag, givenBack r tag b.lim.claimTimer ∈ t.zone.table ∧ ⟨some r.zone, .release r.zone tag⟩ ∈ t.zone.mailbox
  leaves : LeftBehind b r.zone → Removable r → ∀ y ∈ t.zone.table, y.zone ≠ r.zone

/-- Only the entry of a zone differs; the frames in the mailbox stay there. -/
structure OthersStay (z : Nat) (s t : State) : Prop where
  table : ∀ y : Reservation, y.zone ≠ z → (y ∈ t.zone.table ↔ y ∈ s.zone.table)
  mail : ∀ m ∈ s.zone.mailbox, m ∈ t.zone.mailbox

theorem OthersStay.refl (z : Nat) (s : State) : OthersStay z s s := ⟨fun _ _ => .rfl, fun _ h => h⟩

theorem Released.mono {b s t : State} {r : Reservation} {z : Nat} (h : Released b s r) (k : OthersStay z s t)
    (other : r.zone ≠ z) : Released b t r := by
  refine ⟨fun stays => (k.table r other).2 (h.stays stays), fun left back => ?_, fun left leaves y mem zone => ?_⟩
  · obtain ⟨tag, entry, frame⟩ := h.back left back
    exact ⟨tag, (k.table (givenBack r tag _) other).2 entry, k.mail _ frame⟩
  · exact h.leaves left leaves y ((k.table y (by rw [zone]; exact other)).1 mem) zone

/-- The release test with the entries of some zones still to be tested. -/
structure Releasing (b : State) (todo : List Nat) (s : State) : Prop where
  keeps : KeepsOrder b s
  zones : (s.zone.table.map (·.zone)).Sublist (b.zone.table.map (·.zone))
  room : s.zone.mailbox.length + todo.length ≤ s.zone.table.length
  owners : ∀ m ∈ s.zone.mailbox, ∃ y ∈ s.zone.table, m.owner = some y.zone ∧ y.zone ∉ todo
  due : ∀ r ∈ b.zone.table, r.zone ∈ todo → r ∈ s.zone.table
  done : ∀ r ∈ b.zone.table, r.zone ∉ todo → Released b s r

/-- A table with one entry for each zone has one for the zone of each of its entries. -/
theorem entryOf_of_nodup {s : State} (nodup : (s.zone.table.map (·.zone)).Nodup) {r : Reservation}
    (mem : r ∈ s.zone.table) : EntryOf s r.zone r :=
  ⟨mem, rfl, fun _ mem' same => List.inj_on_of_nodup_map nodup mem' mem same⟩

theorem withEntry_length (table : List Reservation) (z : Nat) (r : Reservation) :
    (withEntry table z r).length = table.length := List.length_map ..

theorem mem_withEntry_other {table : List Reservation} {z : Nat} {r y : Reservation} (zone : r.zone = z)
    (other : y.zone ≠ z) : y ∈ withEntry table z r ↔ y ∈ table := by
  unfold withEntry
  rw [List.mem_map]
  refine ⟨fun ⟨x, mem, same⟩ => ?_, fun mem => ⟨y, mem, if_neg other⟩⟩
  by_cases hit : x.zone = z
  · rw [if_pos hit] at same
    exact absurd (same ▸ zone) other
  · rw [if_neg hit] at same
    exact same ▸ mem

theorem mem_withEntry_same {table : List Reservation} {z : Nat} {r x : Reservation} (mem : x ∈ table)
    (zone : x.zone = z) : r ∈ withEntry table z r := List.mem_map.2 ⟨x, mem, if_pos zone⟩

theorem withEntry_zones {table : List Reservation} {z : Nat} {r : Reservation} (zone : r.zone = z) :
    (withEntry table z r).map (·.zone) = table.map (·.zone) := map_zone_replace (fun _ _ => zone) table

section Step

variable {b s t : State} {z : Nat} {todo : List Nat} {r : Reservation}

/-- One entry more is tested. -/
theorem Releasing.next (inv : Releasing b (z :: todo) s) (entry : EntryOf b z r) (keeps : KeepsOrder s t)
    (zones : (t.zone.table.map (·.zone)).Sublist (s.zone.table.map (·.zone)))
    (room : t.zone.mailbox.length + todo.length ≤ t.zone.table.length) (others : OthersStay z s t)
    (owners : ∀ m ∈ t.zone.mailbox,
      m ∈ s.zone.mailbox ∨ m.owner = some z ∧ z ∉ todo ∧ ∃ y ∈ t.zone.table, y.zone = z)
    (due : z ∈ todo → r ∈ t.zone.table) (released : Released b t r) : Releasing b todo t := by
  obtain ⟨-, -, unique⟩ := entry
  refine ⟨inv.keeps.trans keeps, zones.trans inv.zones, room, fun m mem => ?_, fun x mem later => ?_,
    fun x mem done => ?_⟩
  · rcases owners m mem with old | ⟨owner, past, y, here, zone⟩
    · obtain ⟨y, here, owner, past⟩ := inv.owners m old
      rw [List.mem_cons, not_or] at past
      exact ⟨y, (others.table y past.1).2 here, owner, past.2⟩
    · exact ⟨y, here, by rw [owner, zone], by rw [zone]; exact past⟩
  · by_cases same : x.zone = z
    · rw [unique x mem same]
      exact due (same ▸ later)
    · exact (others.table x same).2 (inv.due x mem (List.mem_cons_of_mem _ later))
  · by_cases same : x.zone = z
    · rw [unique x mem same]
      exact released
    · exact (inv.done x mem (by simp [same, done])).mono others same

/-- The entry that is tested next is in the table, and no frame of it waits. -/
theorem Releasing.entry (inv : Releasing b (z :: todo) s) (nodup : (b.zone.table.map (·.zone)).Nodup)
    (entry : EntryOf b z r) : EntryOf s z r ∧ ∀ m ∈ s.zone.mailbox, m.owner ≠ some z := by
  obtain ⟨mem, zone, -⟩ := entry
  refine ⟨zone ▸ entryOf_of_nodup (nodup.sublist inv.zones) (inv.due r mem (by simp [zone])), fun m mem owner => ?_⟩
  obtain ⟨y, -, owner', past⟩ := inv.owners m mem
  rw [owner, Option.some_inj] at owner'
  exact past (by simp [owner'])

theorem Releasing.mail (inv : Releasing b todo s) (few : b.zone.table.length ≤ 4) :
    s.zone.mailbox.length + todo.length ≤ 4 := by
  have shorter := inv.zones.length_le
  rw [List.length_map, List.length_map] at shorter
  have room := inv.room
  omega

theorem not_removable (back : Returnable r) : ¬ Removable r := by
  rcases back with held | ⟨requested, outstanding⟩
  · simp [Removable, held]
  · simp [Removable, requested, outstanding]

theorem releasing_moves (releasing : r.state = .releasing) : ¬ Returnable r ∧ ¬ Removable r := by
  simp [Returnable, Removable, releasing]

theorem Releasing.step_stays (inv : Releasing b (z :: todo) s) (nodup : (b.zone.table.map (·.zone)).Nodup)
    (fresh : z ∉ todo) (entry : EntryOf b z r) (stays : ¬ LeftBehind b z ∨ r.state = .releasing) :
    Releasing b todo (releaseOne z s) := by
  obtain ⟨entry', -⟩ := inv.entry nodup entry
  obtain ⟨here, zone, -⟩ := id entry'
  have room := inv.room
  rw [List.length_cons] at room
  rw [releaseOne_stays entry' ((or_congr_left (not_congr (inv.keeps.leftBehind z))).2 stays)]
  have held (left : LeftBehind b r.zone) : r.state = .releasing :=
    stays.resolve_left (not_not_intro (zone ▸ left))
  exact inv.next entry (.refl s) (.refl _) (by omega) (.refl z s) (fun m mem => .inl mem) (fun h => absurd h fresh)
    ⟨fun _ => here, fun left back => absurd back (releasing_moves (held left)).1,
      fun left leaves => absurd leaves (releasing_moves (held left)).2⟩

theorem Releasing.step_returns (inv : Releasing b (z :: todo) s) (nodup : (b.zone.table.map (·.zone)).Nodup)
    (few : b.zone.table.length ≤ 4) (link : b.zone.link ≠ .stopped) (fresh : z ∉ todo) (entry : EntryOf b z r)
    (left : LeftBehind b z) (back : Returnable r) : Releasing b todo (releaseOne z s) := by
  obtain ⟨entry', unsent⟩ := inv.entry nodup entry
  obtain ⟨here, zone, -⟩ := id entry'
  have room := inv.room
  have mail := inv.mail few
  rw [List.length_cons] at room mail
  have same := releaseOne_returns entry' ((inv.keeps.leftBehind z).2 left) back
  have after := startRelease_zone entry' (by rw [inv.keeps.link]; exact link) ⟨by omega, unsent⟩
  rw [← same] at after
  have going : ¬ (¬ LeftBehind b r.zone ∨ r.state = .releasing) :=
    not_or.2 ⟨not_not_intro (zone ▸ left), fun releasing => (releasing_moves releasing).1 back⟩
  have mailed : ⟨some z, .release z s.zone.tagCtr⟩ ∈ (releaseOne z s).zone.mailbox := by
    rw [after]
    simp
  have put : givenBack r s.zone.tagCtr s.lim.claimTimer ∈ (releaseOne z s).zone.table := by
    rw [after]
    exact mem_withEntry_same here zone
  refine inv.next entry (releaseOne_keepsOrder s z) ?_ ?_ ⟨fun y other => ?_, fun m mem => ?_⟩ (fun m mem => ?_)
    (fun h => absurd h fresh) ⟨fun h => absurd h going, fun _ _ => ?_, fun _ leaves => absurd leaves (not_removable back)⟩
  · rw [after]
    exact (withEntry_zones (r := givenBack r _ _) zone).symm ▸ .refl _
  · rw [after]
    simp only [List.length_append, List.length_singleton, withEntry_length]
    omega
  · rw [after]
    exact mem_withEntry_other (r := givenBack r _ _) zone other
  · rw [after]
    exact List.mem_append_left _ mem
  · rw [after] at mem
    rcases List.mem_append.1 mem with old | new
    · exact .inl old
    · rw [List.mem_singleton] at new
      exact .inr ⟨by rw [new], fresh, _, put, zone⟩
  · exact ⟨s.zone.tagCtr, by rw [← inv.keeps.sees.lim]; exact put, by rw [zone]; exact mailed⟩

/-- The table without the only entry of a zone is one entry shorter. -/
theorem length_without {table : List Reservation} (nodup : (table.map (·.zone)).Nodup) (mem : r ∈ table)
    (zone : r.zone = z) : (table.filter fun x => x.zone ≠ z).length + 1 = table.length := by
  have once : table.countP (fun x => x.zone = z) = 1 := by
    have counted : (table.map (·.zone)).count z = 1 :=
      List.count_eq_one_of_mem nodup (List.mem_map.2 ⟨r, mem, zone⟩)
    rw [List.count, List.countP_map] at counted
    rw [← counted]
    exact List.countP_congr fun x _ => by simp
  have parts := List.length_eq_countP_add_countP (l := table) (fun x => decide (x.zone = z))
  rw [once, List.countP_eq_length_filter] at parts
  simp only [decide_eq_true_iff] at parts
  exact (Nat.add_comm ..).trans parts.symm

theorem Releasing.step_removes (inv : Releasing b (z :: todo) s) (nodup : (b.zone.table.map (·.zone)).Nodup)
    (fresh : z ∉ todo) (entry : EntryOf b z r) (left : LeftBehind b z) (leaves : Removable r) :
    Releasing b todo (releaseOne z s) := by
  obtain ⟨entry', unsent⟩ := inv.entry nodup entry
  obtain ⟨here, zone, -⟩ := id entry'
  have room := inv.room
  rw [List.length_cons] at room
  have same := releaseOne_removes entry' ((inv.keeps.leftBehind z).2 left) leaves
  have after := removeEntry_noMail unsent
  rw [← same] at after
  have shorter := length_without (nodup.sublist inv.zones) here zone
  have going : ¬ (¬ LeftBehind b r.zone ∨ r.state = .releasing) :=
    not_or.2 ⟨not_not_intro (zone ▸ left), fun releasing => (releasing_moves releasing).2 leaves⟩
  refine inv.next entry (releaseOne_keepsOrder s z) ?_ ?_ ⟨fun y other => ?_, fun m mem => ?_⟩ (fun m mem => ?_)
    (fun h => absurd h fresh)
    ⟨fun h => absurd h going, fun _ back => absurd leaves (not_removable back), fun _ _ y mem => ?_⟩
  · rw [after]
    exact List.filter_sublist.map _
  · rw [after]
    show s.zone.mailbox.length + _ ≤ _
    dsimp only
    omega
  · rw [after]
    simp [other]
  · rw [after]
    exact mem
  · rw [after] at mem
    exact .inl mem
  · rw [after] at mem
    simpa [zone] using (List.mem_filter.1 mem).2

/-- One entry more is tested: it stays, is given back or is removed. -/
theorem Releasing.step (inv : Releasing b (z :: todo) s) (nodup : (b.zone.table.map (·.zone)).Nodup)
    (few : b.zone.table.length ≤ 4) (link : b.zone.link ≠ .stopped) (fresh : z ∉ todo)
    (listed : z ∈ b.zone.table.map (·.zone)) : Releasing b todo (releaseOne z s) := by
  obtain ⟨r, mem, zone⟩ := List.mem_map.1 listed
  have entry : EntryOf b z r := zone ▸ entryOf_of_nodup nodup mem
  by_cases left : LeftBehind b z
  · rcases reservation_cases r with back | leaves | releasing
    · exact inv.step_returns nodup few link fresh entry left back
    · exact inv.step_removes nodup fresh entry left leaves
    · exact inv.step_stays nodup fresh entry (.inr releasing)
  · exact inv.step_stays nodup fresh entry (.inl left)

theorem Releasing.fold (inv : Releasing b todo s) (nodup : (b.zone.table.map (·.zone)).Nodup)
    (few : b.zone.table.length ≤ 4) (link : b.zone.link ≠ .stopped) (distinct : todo.Nodup)
    (listed : ∀ x ∈ todo, x ∈ b.zone.table.map (·.zone)) :
    Releasing b [] (todo.foldl (fun st x => releaseOne x st) s) := by
  induction todo generalizing s with
  | nil => exact inv
  | cons z zs ih =>
    rw [List.nodup_cons] at distinct
    exact ih (inv.step nodup few link distinct.1 (listed z List.mem_cons_self)) distinct.2
      fun x mem => listed x (List.mem_cons_of_mem _ mem)

/-- The release test of a table with an entry for each zone and an empty mailbox (R79). -/
theorem released_releasing (nodup : (b.zone.table.map (·.zone)).Nodup) (few : b.zone.table.length ≤ 4)
    (link : b.zone.link ≠ .stopped) (empty : b.zone.mailbox = []) : Releasing b [] (released b) := by
  have start : Releasing b (b.zone.table.map (·.zone)) b :=
    ⟨.refl b, .refl _, by simp [empty], by simp [empty], fun r mem _ => mem,
      fun r mem out => absurd (List.mem_map_of_mem mem) out⟩
  exact start.fold nodup few link nodup fun _ mem => mem

end Step

end Sys2Proof.Claims

namespace Sys2Proof.Claims

open Sys2Proof.Machine

/-! ### The claim test (R71, R72) -/

/-- The table has one entry for each zone, and the mailbox holds at most a frame of each. -/
structure Boxed (s : State) : Prop where
  nodup : (s.zone.table.map (·.zone)).Nodup
  room : s.zone.mailbox.length ≤ s.zone.table.length
  owners : ∀ m ∈ s.zone.mailbox, ∃ y ∈ s.zone.table, m.owner = some y.zone

/-- Zones of a list were claimed, with one tag (R72). -/
structure Claimed (zs : List Nat) (s t : State) : Prop where
  keeps : KeepsOrder s t
  boxed : Boxed t
  table : t.zone.table.Perm (s.zone.table ++ zs.map fun z => freshClaim z s.zone.tagCtr s.lim.claimTimer)
  mail : t.zone.mailbox = s.zone.mailbox ++ zs.map fun z => ⟨some z, .claim z s.zone.tagCtr⟩
  tag : t.zone.tagCtr = s.zone.tagCtr + BitVec.ofNat 8 zs.length

theorem Claimed.nil {s : State} (boxed : Boxed s) : Claimed [] s s :=
  ⟨.refl s, boxed, by simp, by simp, by simp⟩

section Claim

variable {s : State} {z : Nat}

/-- The table with the claiming entry in its place. -/
theorem sorted_listed (none_ : s.entryOf z = none) :
    (withEntry (sortTable (listed z s)).zone.table z (freshClaim z s.zone.tagCtr s.lim.claimTimer)).Perm
      (s.zone.table ++ [freshClaim z s.zone.tagCtr s.lim.claimTimer]) := by
  have sorted : (sortTable (listed z s)).zone.table.Perm (listed z s).zone.table := sortRes_perm ..
  have old : withEntry s.zone.table z (freshClaim z s.zone.tagCtr s.lim.claimTimer) = s.zone.table :=
    (List.map_congr_left fun r mem => if_neg (entryOf_none.1 none_ r mem)).trans (List.map_id' _)
  have whole : withEntry (listed z s).zone.table z (freshClaim z s.zone.tagCtr s.lim.claimTimer) =
      s.zone.table ++ [freshClaim z s.zone.tagCtr s.lim.claimTimer] := by
    show withEntry (s.zone.table ++ [_]) z _ = _
    rw [withEntry, List.map_append]
    exact congrArg₂ _ old (by simp)
  rw [← whole]
  exact sorted.map _

theorem entryOf_listed (none_ : s.entryOf z = none) :
    ∃ r, EntryOf (sortTable (listed z s)) z r ∧ r.state = .requested ∧
      { r with outstanding := true, sendDue := false, timer := .claim s.lim.claimTimer } =
        freshClaim z s.zone.tagCtr s.lim.claimTimer := by
  have sorted : (sortTable (listed z s)).zone.table.Perm (listed z s).zone.table := sortRes_perm ..
  have mems : ∀ x, x ∈ (sortTable (listed z s)).zone.table ↔ x ∈ s.zone.table ∨ x = _ := fun x => by
    rw [sorted.mem_iff]
    show x ∈ s.zone.table ++ [_] ↔ _
    rw [List.mem_append, List.mem_singleton]
  refine ⟨_, ⟨(mems _).2 (.inr rfl), rfl, fun x mem zone => ?_⟩, rfl, rfl⟩
  exact ((mems x).1 mem).resolve_left fun old => entryOf_none.1 none_ x old zone

/-- A zone is claimed with a new tag, its CLAIM in the mailbox (R72). -/
theorem claimZone_zone (none_ : s.entryOf z = none) (link : s.zone.link ≠ .stopped) (room : MailRoom s z) :
    (claimZone z s).zone =
      { s.zone with
        tagCtr := s.zone.tagCtr + 1
        mailbox := s.zone.mailbox ++ [⟨some z, .claim z s.zone.tagCtr⟩]
        table := withEntry (sortTable (listed z s)).zone.table z
          (freshClaim z s.zone.tagCtr s.lim.claimTimer) } := by
  obtain ⟨r, entry, requested, fresh⟩ := entryOf_listed none_
  have tag : r.tag = s.zone.tagCtr := congrArg Reservation.tag fresh
  have same : (reportTable (sortTable (listed z s))).zone = (sortTable (listed z s)).zone := by simp
  have lim : (reportTable (sortTable (listed z s))).lim = s.lim := by simp [State.lim, listed, nextTag]
  rw [claimZone_eq]
  generalize reportTable (sortTable (listed z s)) = c at *
  have entry' : EntryOf c z r := by
    rw [EntryOf, same]
    exact entry
  have room' : MailRoom c z := by
    rw [MailRoom, same]
    exact room
  rw [sendEntry_claims entry' (by rw [same]; exact link) room' requested, State.setZone_zone, same, lim, fresh, tag]
  rfl

theorem claimZone_claimed (boxed : Boxed s) (none_ : s.entryOf z = none) (link : s.zone.link ≠ .stopped)
    (few : s.zone.table.length < 4) : Claimed [z] s (claimZone z s) := by
  have absent := entryOf_none.1 none_
  have room : MailRoom s z := by
    refine ⟨by have := boxed.room; omega, fun m mem owner => ?_⟩
    obtain ⟨y, here, owner'⟩ := boxed.owners m mem
    rw [owner, Option.some_inj] at owner'
    exact absent y here owner'.symm
  have after := claimZone_zone none_ link room
  have table : (claimZone z s).zone.table.Perm
      (s.zone.table ++ [freshClaim z s.zone.tagCtr s.lim.claimTimer]) := by
    rw [after]
    exact sorted_listed none_
  have mail : (claimZone z s).zone.mailbox = s.zone.mailbox ++ [⟨some z, .claim z s.zone.tagCtr⟩] := by rw [after]
  refine ⟨claimZone_keepsOrder z s, ⟨?_, ?_, fun m mem => ?_⟩, table, mail, by rw [after]; rfl⟩
  · rw [(table.map _).nodup_iff, List.map_append, List.nodup_append]
    refine ⟨boxed.nodup, by simp, fun a old b new => ?_⟩
    obtain ⟨r, mem, rfl⟩ := List.mem_map.1 old
    rw [List.mem_singleton.1 new]
    exact absent r mem
  · rw [mail, table.length_eq, List.length_append, List.length_append]
    have := boxed.room
    simpa using this
  · rw [mail, List.mem_append, List.mem_singleton] at mem
    rcases mem with old | new
    · obtain ⟨y, here, owner⟩ := boxed.owners m old
      exact ⟨y, table.mem_iff.2 (List.mem_append_left _ here), owner⟩
    · exact ⟨_, table.mem_iff.2 (List.mem_append_right _ (List.mem_singleton_self _)), by rw [new]; rfl⟩

end Claim

/-- The front's zone, where it is claimed (R71). -/
def frontClaims (fz : Nat) (s : State) : List Nat :=
  if (s.mstate = .hold ∨ s.mstate = .run) ∧ s.entryOf fz = none ∧ s.zone.table.length < 4 then [fz] else []

/-- The zone found ahead, where it is near enough and the table has room (R71). -/
def claimsFound (dist : Int → Int) (near size : Nat) : Option ZoneInfo → List Nat
  | none => []
  | some i => if dist i.entry ≤ near ∧ size < 4 then [i.zone] else []

/-- The first zone ahead without an entry, where it is claimed (R71). -/
def aheadClaims (fz : Nat) (s : State) : List Nat :=
  claimsFound s.fromFront s.lim.claimDistance s.zone.table.length
    ((zonesAhead s.zone.zmap fz).find? fun i => (s.entryOf i.zone).isNone)

theorem claimFront_claimed {s : State} (boxed : Boxed s) (link : s.zone.link ≠ .stopped) (fz : Nat) :
    Claimed (frontClaims fz s) s (claimFront fz s) := by
  unfold frontClaims claimFront
  split
  next claims =>
    obtain ⟨-, none_, few⟩ := claims
    exact claimZone_claimed boxed none_ link few
  next => exact .nil boxed

theorem claimAhead_claimed {s : State} (boxed : Boxed s) (link : s.zone.link ≠ .stopped) (fz : Nat) :
    Claimed (aheadClaims fz s) s (claimAhead fz s) := by
  unfold aheadClaims claimAhead
  cases found : (zonesAhead s.zone.zmap fz).find? fun i => (s.entryOf i.zone).isNone with
  | none => exact .nil boxed
  | some i =>
    dsimp only [claimsFound]
    split
    next claims =>
      have none_ : s.entryOf i.zone = none := by simpa using List.find?_some found
      exact claimZone_claimed boxed none_ link claims.2
    next => exact .nil boxed

/-- The claims of an update: the front's zone first, then the first zone ahead (R71). -/
theorem claimTest_claimed {s : State} (boxed : Boxed s) (link : s.zone.link ≠ .stopped) {fz : Nat}
    (front : s.frontZone = some fz) :
    ∃ c, Claimed (frontClaims fz s) s c ∧ Claimed (aheadClaims fz c) c (claimTest s) := by
  have first := claimFront_claimed boxed link fz
  refine ⟨claimFront fz s, first, ?_⟩
  rw [claimTest_eq, front]
  exact claimAhead_claimed first.boxed (by rw [first.keeps.link]; exact link) fz

/-- The entries of a table that was claimed into: the old ones, and fresh claims. -/
theorem Claimed.mem {zs : List Nat} {s t : State} (h : Claimed zs s t) (y : Reservation) :
    y ∈ t.zone.table ↔ y ∈ s.zone.table ∨ ∃ z ∈ zs, y = freshClaim z s.zone.tagCtr s.lim.claimTimer := by
  rw [h.table.mem_iff, List.mem_append, List.mem_map]
  exact or_congr_right ⟨fun ⟨z, mem, same⟩ => ⟨z, mem, same.symm⟩, fun ⟨z, mem, same⟩ => ⟨z, mem, same.symm⟩⟩

theorem Claimed.sent {zs : List Nat} {s t : State} (h : Claimed zs s t) (m : Mail) (mem : m ∈ s.zone.mailbox) :
    m ∈ t.zone.mailbox := by
  rw [h.mail]
  exact List.mem_append_left _ mem

/-- The zones of a table that was claimed into (R72). -/
theorem Claimed.zones {zs : List Nat} {s t : State} (h : Claimed zs s t) :
    (t.zone.table.map (·.zone)).Perm (s.zone.table.map (·.zone) ++ zs) := by
  have perm := h.table.map (·.zone)
  rw [List.map_append, List.map_map] at perm
  refine perm.trans (.of_eq (congrArg _ ?_))
  exact List.map_id' zs

/-- No old entry is of a zone that was claimed. -/
theorem Claimed.fresh {zs : List Nat} {s t : State} (h : Claimed zs s t) {y : Reservation}
    (mem : y ∈ s.zone.table) : y.zone ∉ zs := by
  have nodup := h.zones.nodup_iff.1 h.boxed.nodup
  obtain ⟨-, -, apart⟩ := List.nodup_append.1 nodup
  exact fun claimed => apart _ (List.mem_map_of_mem mem) _ claimed rfl

/-- The entry of a zone that was claimed, and its CLAIM (R72). -/
theorem Claimed.entry {zs : List Nat} {s t : State} (h : Claimed zs s t) {y : Reservation}
    (mem : y ∈ t.zone.table) (claimed : y.zone ∈ zs) :
    y = freshClaim y.zone s.zone.tagCtr s.lim.claimTimer ∧
      ⟨some y.zone, .claim y.zone s.zone.tagCtr⟩ ∈ t.zone.mailbox := by
  rcases (h.mem y).1 mem with old | ⟨z, -, same⟩
  · exact absurd claimed (h.fresh old)
  · have zone : y.zone = z := by rw [same]; rfl
    refine ⟨by rw [zone]; exact same, ?_⟩
    rw [h.mail]
    exact List.mem_append_right _ (List.mem_map_of_mem claimed)

end Sys2Proof.Claims

namespace Sys2Proof.Claims

open Sys2Proof.Machine

/-! ### The releases and claims of an update (R71, R79) -/

/-- What the releases and claims of an update make of an entry (R71, R79). -/
structure Outcome (a t : State) (r : Reservation) : Prop where
  stays : ¬ LeftBehind a r.zone ∨ r.state = .releasing → r ∈ t.zone.table
  back : LeftBehind a r.zone → Returnable r →
    ∃ tag, givenBack r tag a.lim.claimTimer ∈ t.zone.table ∧ ⟨some r.zone, .release r.zone tag⟩ ∈ t.zone.mailbox
  leaves : LeftBehind a r.zone → Removable r →
    ∀ y ∈ t.zone.table, y.zone = r.zone → y.state = .requested ∧ y.outstanding = true ∧ y.deny = 0

/-- The claims leave what the releases have done (R71). -/
theorem Released.outcome {b s t : State} {zs : List Nat} {r : Reservation} (h : Released b s r)
    (k : Claimed zs s t) : Outcome b t r := by
  refine ⟨fun stays => (k.mem r).2 (.inl (h.stays stays)), fun left back => ?_, fun left leaves y mem zone => ?_⟩
  · obtain ⟨tag, entry, frame⟩ := h.back left back
    exact ⟨tag, (k.mem _).2 (.inl entry), k.sent _ frame⟩
  · rcases (k.mem y).1 mem with old | ⟨z, -, same⟩
    · exact absurd zone (h.leaves left leaves y old)
    · rw [same]
      exact ⟨rfl, rfl, rfl⟩

theorem Outcome.claimed {b s t : State} {zs : List Nat} {r : Reservation} (h : Outcome b s r)
    (k : Claimed zs s t) : Outcome b t r := by
  refine ⟨fun stays => (k.mem r).2 (.inl (h.stays stays)), fun left back => ?_, fun left leaves y mem zone => ?_⟩
  · obtain ⟨tag, entry, frame⟩ := h.back left back
    exact ⟨tag, (k.mem _).2 (.inl entry), k.sent _ frame⟩
  · rcases (k.mem y).1 mem with old | ⟨z, -, same⟩
    · exact h.leaves left leaves y old zone
    · rw [same]
      exact ⟨rfl, rfl, rfl⟩

theorem Releasing.boxed {b s : State} (h : Releasing b [] s) (nodup : (b.zone.table.map (·.zone)).Nodup) :
    Boxed s := by
  refine ⟨nodup.sublist h.zones, by simpa using h.room, fun m mem => ?_⟩
  obtain ⟨y, here, owner, -⟩ := h.owners m mem
  exact ⟨y, here, owner⟩

theorem Boxed.of_zone {s t : State} (h : Boxed s) (zone : t.zone = s.zone) : Boxed t := by
  obtain ⟨nodup, room, owners⟩ := h
  refine ⟨?_, ?_, ?_⟩ <;> rw [zone]
  · exact nodup
  · exact room
  · exact owners

theorem Released.of_zone {b s t : State} {r : Reservation} (h : Released b s r) (zone : t.zone = s.zone) :
    Released b t r :=
  h.mono (z := r.zone + 1) ⟨fun _ _ => by rw [zone], fun _ mem => by rw [zone]; exact mem⟩ (Nat.ne_of_lt (Nat.lt_succ_self _))

/-- A table and a mailbox in which the releases and claims of an update can be followed. -/
structure Orderly (s : State) : Prop where
  nodup : (s.zone.table.map (·.zone)).Nodup
  few : s.zone.table.length ≤ 4
  link : s.zone.link ≠ .stopped
  empty : s.zone.mailbox = []

theorem sortTable_perm (s : State) : (sortTable s).zone.table.Perm s.zone.table := sortRes_perm ..

theorem Orderly.sorted {s : State} (h : Orderly s) : Orderly (sortTable s) :=
  ⟨((sortTable_perm s).map _).nodup_iff.2 h.nodup, (sortTable_perm s).length_eq ▸ h.few, h.link, h.empty⟩

section Update

variable {u : PosUpdate} {a : State} {fz : Nat}

theorem claimed_now (now : (sortTable a).claimsNow u = true) :
    claimed u a = claimTest (testF10 .link (released (sortTable a))) := if_pos now

/-- What an update makes of every entry (R71, R79). -/
theorem claimed_outcome (now : (sortTable a).claimsNow u = true) (orderly : Orderly a)
    (front : a.frontZone = some fz) {r : Reservation} (mem : r ∈ a.zone.table) : Outcome a (claimed u a) r := by
  have sorted := orderly.sorted
  have releases := released_releasing sorted.nodup sorted.few sorted.link sorted.empty
  have keeps := releases.keeps.trans (testF10_keepsOrder .link _)
  have zone : (testF10 .link (released (sortTable a))).zone = (released (sortTable a)).zone :=
    (testF10_frame ..).2.2.1
  have boxed := (releases.boxed sorted.nodup).of_zone zone
  have fate := (releases.done r ((sortTable_perm a).mem_iff.2 mem) List.not_mem_nil).of_zone zone
  obtain ⟨c, first, second⟩ := claimTest_claimed boxed (by rw [keeps.link]; exact sorted.link)
    (show _ = some fz by rw [keeps.sees.frontZone, (sortTable_keepsOrder a).sees.frontZone, front])
  rw [← claimed_now now] at second
  have outcome := (fate.outcome first).claimed second
  have left := (sortTable_keepsOrder a).leftBehind r.zone
  exact ⟨fun stays => outcome.stays ((or_congr_left (not_congr left)).2 stays),
    fun gone back => outcome.back (left.2 gone) back, fun gone leaves => outcome.leaves (left.2 gone) leaves⟩

/-- With no zone left behind nothing is released (R79). -/
theorem released_none {b : State} (nodup : (b.zone.table.map (·.zone)).Nodup)
    (stays : ∀ r ∈ b.zone.table, ¬ LeftBehind b r.zone) : released b = b := by
  have one : ∀ z ∈ b.zone.table.map (·.zone), releaseOne z b = b := fun z listed => by
    obtain ⟨r, mem, rfl⟩ := List.mem_map.1 listed
    exact releaseOne_stays (entryOf_of_nodup nodup mem) (.inl (stays r mem))
  unfold released
  generalize b.zone.table.map (·.zone) = l at one ⊢
  induction l with
  | nil => rfl
  | cons z zs ih =>
    rw [List.foldl_cons, one z List.mem_cons_self]
    exact ih fun x mem => one x (List.mem_cons_of_mem _ mem)

/-- Where F10 is not raised its test leaves motion alone (R91). -/
theorem testF10_motion {s : State} (quiet : s.faultActive .f10 = true ∨ s.zone.linkFault = false)
    (d : FaultDetail) : (testF10 d s).motion = s.motion := by
  unfold testF10
  split
  next broken =>
    rcases quiet with active | whole
    · rw [if_pos active]
    · exact absurd broken (by simp [whole])
  next => simp

/-- With no zone left behind an update only claims (R71). -/
theorem claimed_claims (now : (sortTable a).claimsNow u = true) (orderly : Orderly a)
    (front : a.frontZone = some fz) (stays : ∀ r ∈ a.zone.table, ¬ LeftBehind a r.zone)
    (quiet : a.faultActive .f10 = true ∨ a.zone.link ≠ .lost ∧ ∀ r ∈ a.zone.table, r.failed = false) :
    ∃ b c, KeepsOrder a b ∧ b.zone = (sortTable a).zone ∧ b.mstate = a.mstate ∧
      Claimed (frontClaims fz b) b c ∧ Claimed (aheadClaims fz c) c (claimed u a) := by
  have sorted := orderly.sorted
  have keeps := sortTable_keepsOrder a
  have none_ : released (sortTable a) = sortTable a :=
    released_none sorted.nodup fun r mem left =>
      stays r ((sortTable_perm a).mem_iff.1 mem) ((keeps.leftBehind _).1 left)
  have calm : (sortTable a).faultActive .f10 = true ∨ (sortTable a).zone.linkFault = false :=
    quiet.imp id fun ⟨up, whole⟩ =>
      linkFault_false up fun r mem => whole r ((sortTable_perm a).mem_iff.1 mem)
  have motion := testF10_motion calm .link
  have after := claimed_now now
  have tested := testF10_keepsOrder .link (sortTable a)
  have zone : (testF10 .link (sortTable a)).zone = (sortTable a).zone := (testF10_frame ..).2.2.1
  rw [none_] at after
  generalize testF10 .link (sortTable a) = b at *
  have boxed : Boxed b :=
    .of_zone ⟨sorted.nodup, by simp [sorted.empty], by simp [sorted.empty]⟩ zone
  obtain ⟨c, first, second⟩ := claimTest_claimed boxed (by rw [tested.link]; exact sorted.link)
    (show _ = some fz by rw [tested.sees.frontZone, keeps.sees.frontZone, front])
  rw [← after] at second
  exact ⟨b, c, keeps.trans tested, zone, congrArg (fun m => m.record.state) motion, first, second⟩

end Update

end Sys2Proof.Claims

namespace Sys2Proof.Claims

open Sys2Proof.Machine

/-! ### Zones of the map, and what an update claims of them (R68, R71) -/

theorem mem_placeFrom {x : SegAt} {i st : Nat} {path : List Segment} (mem : x ∈ placeFrom i st path) :
    x.seg ∈ path := by
  induction path generalizing i st with
  | nil => simp [placeFrom] at mem
  | cons y ys ih =>
    rw [placeFrom, List.mem_cons] at mem
    rcases mem with rfl | later
    · exact List.mem_cons_self
    · exact List.mem_cons_of_mem _ (ih later)

/-- A path with a segment under a position has a length (R1). -/
theorem lapLength_pos {path : List Segment} {pos : Nat} {x : SegAt} (under : segmentAt path pos = some x) :
    0 < lapLength path := by
  have mem := mem_placeFrom (List.mem_of_find?_eq_some under)
  have inside := List.find?_some under
  simp only [Bool.and_eq_true, decide_eq_true_iff] at inside
  have part : x.seg.len ≤ lapLength path := List.single_le_sum (by simp) _ (List.mem_map_of_mem mem)
  omega

theorem zoneInfo_iff {s : State} (nodup : (s.zone.zmap.map (·.zone)).Nodup) {z : Nat} {i : ZoneInfo} :
    s.zoneInfo z = some i ↔ i ∈ s.zone.zmap ∧ i.zone = z := by
  refine ⟨fun found => ⟨List.mem_of_find?_eq_some found, by simpa using List.find?_some found⟩,
    fun ⟨mem, zone⟩ => ?_⟩
  unfold State.zoneInfo
  cases found : s.zone.zmap.find? fun x => x.zone == z with
  | none => exact absurd (List.find?_eq_none.1 found i mem) (by simp [zone])
  | some j =>
    have zone' : j.zone = z := by simpa using List.find?_some found
    exact congrArg some
      (List.inj_on_of_nodup_map nodup (List.mem_of_find?_eq_some found) mem (zone'.trans zone.symm))

/-- The zones ahead of a zone of a map are others. -/
theorem zonesAhead_ne {zmap : List ZoneInfo} (nodup : (zmap.map (·.zone)).Nodup) {z : Nat} {i : ZoneInfo}
    (mem : i ∈ zonesAhead zmap z) : i.zone ≠ z := by
  unfold zonesAhead at mem
  induction zmap with
  | nil => simp at mem
  | cons y ys ih =>
    rw [List.map_cons, List.nodup_cons] at nodup
    by_cases here : y.zone = z
    · simp only [List.findIdx_cons, here, beq_self_eq_true, cond_true, List.drop_succ_cons, List.drop_zero,
        List.take_zero, List.append_nil] at mem
      exact fun same => nodup.1 (by rw [here, ← same]; exact List.mem_map_of_mem mem)
    · have other : (y.zone == z) = false := by simpa using here
      simp only [List.findIdx_cons, other, cond_false, List.drop_succ_cons, List.take_succ_cons,
        List.mem_append, List.mem_cons] at mem ih
      rcases mem with later | rfl | earlier
      · exact ih nodup.2 (.inl later)
      · exact here
      · exact ih nodup.2 (.inr earlier)

theorem isNone_entryOf {s : State} {z : Nat} :
    (s.entryOf z).isNone = true ↔ z ∉ s.zone.table.map (·.zone) := by
  rw [Option.isNone_iff_eq_none, entryOf_none, List.mem_map]
  push Not
  rfl

theorem frontClaims_eq {s b : State} (table : b.zone.table.Perm s.zone.table) (mstate : b.mstate = s.mstate)
    (moving : s.mstate = .hold ∨ s.mstate = .run ∨ s.mstate = .stopping) (fz : Nat) :
    frontClaims fz b =
      if s.mstate ≠ .stopping ∧ (s.entryOf fz).isNone = true ∧ s.zone.table.length < 4 then [fz] else [] := by
  have goes : (s.mstate = .hold ∨ s.mstate = .run) ↔ s.mstate ≠ .stopping := by
    rcases moving with m | m | m <;> simp [m]
  have entry : b.entryOf fz = none ↔ (s.entryOf fz).isNone = true := by
    rw [isNone_entryOf, ← (table.map _).mem_iff, ← isNone_entryOf, Option.isNone_iff_eq_none]
  unfold frontClaims
  simp only [mstate, goes, entry, table.length_eq]

theorem mem_frontClaims {s : State} {fz x : Nat} (mem : x ∈ frontClaims fz s) : x = fz := by
  unfold frontClaims at mem
  split at mem
  · exact List.mem_singleton.1 mem
  · exact absurd mem List.not_mem_nil

/-- After the front's zone was claimed, the zone ahead that is claimed is the one found before (R71). -/
theorem aheadClaims_eq {s b c : State} {fz : Nat} (table : b.zone.table.Perm s.zone.table)
    (nodup : (s.zone.zmap.map (·.zone)).Nodup) (zmap : c.zone.zmap = s.zone.zmap)
    (first : Claimed (frontClaims fz b) b c) (lim : c.lim = s.lim) :
    aheadClaims fz c =
      claimsFound c.fromFront s.lim.claimDistance (s.zone.table.length + (frontClaims fz b).length)
        ((zonesAhead s.zone.zmap fz).find? fun z => (s.entryOf z.zone).isNone) := by
  have zones := first.zones.trans ((table.map (·.zone)).append_right _)
  have same : ∀ i ∈ zonesAhead s.zone.zmap fz, (c.entryOf i.zone).isNone = (s.entryOf i.zone).isNone :=
    fun i mem => by
      have other := zonesAhead_ne nodup mem
      rw [Bool.eq_iff_iff, isNone_entryOf, isNone_entryOf, zones.mem_iff, List.mem_append, not_or]
      exact and_iff_left fun claimed => other (mem_frontClaims claimed)
  have length : c.zone.table.length = s.zone.table.length + (frontClaims fz b).length := by
    simpa using zones.length_eq
  unfold aheadClaims
  rw [zmap, List.find?_congr same, lim, length]

end Sys2Proof.Claims

namespace Sys2Proof.Claims

open Sys2Proof.Machine

/-! ### What a guide sample does to zones (R70, R71, R79, R81, R84) -/

theorem rear_eq {s : State} (lap : 0 < s.P) :
    (s.rear : Int) = ((s.guide.est.front : Int) - s.lim.vehicleLength) % s.P :=
  Int.toNat_of_nonneg (Int.emod_nonneg _ (by omega))

/-- The zones the rear has left, in the words of R79. -/
theorem leftBehind_iff {s : State} (nodup : (s.zone.zmap.map (·.zone)).Nodup) {fz : Nat}
    (front : s.frontZone = some fz) (lap : 0 < s.P) (z : Nat) :
    LeftBehind s z ↔ z ≠ fz ∧ ∃ i ∈ s.zone.zmap, i.zone = z ∧
      0 < signedDist s.P i.exit (((s.guide.est.front : Int) - s.lim.vehicleLength) % s.P) := by
  unfold LeftBehind
  rw [front, rear_eq lap]
  simp only [zoneInfo_iff nodup, ne_eq, Option.some_inj, and_assoc]

/-- A sample's order of the units, from the state before the sample. -/
theorem guideSample_enters (g : GuideSample) (order : UnitOrder) (s : State) :
    ∃ a, Enters (update g s) (guided g s) a (handOn order (update g s) (guided g s)) ∧
      (ZoneFirst order → Quiet (guided g s) a) := handOn_enters order rfl _

/-- The limits, the path and the zone unit are as they were when the sample is handed on. -/
theorem guided_same (g : GuideSample) (s : State) :
    (guided g s).config = s.config ∧ (guided g s).guide.path = s.guide.path ∧ (guided g s).zone = s.zone ∧
      ∀ c, c ∉ [FaultCode.f02, .f03, .f04, .f05, .f19, .f20] →
        (guided g s).faultRec c = s.faultRec c := by
  obtain ⟨⟨e, x, guide, -⟩, -, faults, -, -, -, config, zone⟩ := guided_spec g s
  exact ⟨config, by rw [guide]; rfl, zone, faults.kept⟩

/-- A calm sample keeps the position known (R19). -/
theorem guided_known {g : GuideSample} {s : State} (calm : Calm s g) (known : Known s) :
    (guided g s).guide.est.posState.known = true := by
  obtain ⟨none_, -, -, near⟩ := calm
  obtain ⟨-, est⟩ := guided_noMarker none_ s
  rw [est]
  dsimp only
  rw [if_neg fun far => absurd far.2 (by have := near known; omega)]
  exact known_iff.1 known

/-- Where the zone unit is first, a calm sample is one for releases and claims (R71, R79). -/
theorem claimsNow_calm {g : GuideSample} {s a : State} (ready : s.isReady = true) (calm : Calm s g)
    (known : Known s) (moving : s.mstate = .hold ∨ s.mstate = .run ∨ s.mstate = .stopping)
    (quiet : Quiet (guided g s) a) : (sortTable a).claimsNow (update g s) = true := by
  obtain ⟨config, -⟩ := guided_same g s
  have ready' : (sortTable a).isReady = true := by
    rw [(sortTable_keepsOrder a).sees.isReady, quiet.sees.isReady, State.isReady, config]
    exact ready
  have after : (update g s).after.known = true := guided_known calm known
  have state : (sortTable a).mstate = s.mstate :=
    (quiet.mstate.trans (congrArg (fun m => m.record.state) (guided_calm calm)) : a.mstate = s.mstate)
  rw [State.claimsNow, ready', after, state]
  rcases moving with m | m | m <;> simp [m]

theorem Outcome.of_zone {a s t : State} {r : Reservation} (h : Outcome a s r)
    (table : t.zone.table = s.zone.table) (mail : t.zone.mailbox = s.zone.mailbox) : Outcome a t r := by
  obtain ⟨stays, back, leaves⟩ := h
  refine ⟨?_, ?_, ?_⟩ <;> simp only [table, mail]
  · exact stays
  · exact back
  · exact leaves

/-- The zones a sample claims, with their entries and CLAIMs (R71, R72). -/
theorem claims_told {b c t : State} {first second : List Nat} (h : Claimed first b c) (k : Claimed second c t) :
    (t.zone.table.map (·.zone)).Perm (b.zone.table.map (·.zone) ++ first ++ second) ∧
      ∀ y ∈ t.zone.table, y.zone ∈ first ++ second →
        y = freshClaim y.zone
            (if y.zone ∈ first then b.zone.tagCtr else b.zone.tagCtr + BitVec.ofNat 8 first.length)
            b.lim.claimTimer ∧
          ⟨some y.zone, .claim y.zone y.tag⟩ ∈ t.zone.mailbox := by
  refine ⟨k.zones.trans (h.zones.append_right _), fun y mem claimed => ?_⟩
  by_cases ahead : y.zone ∈ second
  · obtain ⟨fresh, sent⟩ := k.entry mem ahead
    have other : y.zone ∉ first := fun both => by
      have listed : y.zone ∈ c.zone.table.map (·.zone) := h.zones.mem_iff.2 (List.mem_append_right _ both)
      obtain ⟨x, old, same⟩ := List.mem_map.1 listed
      exact k.fresh old (same ▸ ahead)
    have tag : y.tag = c.zone.tagCtr := by rw [fresh]; rfl
    rw [if_neg other, ← h.tag, ← h.keeps.sees.lim, tag]
    exact ⟨fresh, sent⟩
  · have front := (List.mem_append.1 claimed).resolve_right ahead
    have old : y ∈ c.zone.table := by
      rcases (k.mem y).1 mem with old | ⟨z, new, same⟩
      · exact old
      · exact absurd (show y.zone ∈ second by rw [same]; exact new) ahead
    obtain ⟨fresh, sent⟩ := h.entry old front
    have tag : y.tag = b.zone.tagCtr := by rw [fresh]; rfl
    rw [if_pos front, tag]
    exact ⟨fresh, k.sent _ sent⟩

end Sys2Proof.Claims

namespace Sys2Proof.Claims

open Sys2Proof.Machine

/-! ### Guide samples and zones (R70, R71, R79, R81, R84) -/

/-- What the releases and claims of a calm sample start from, with the zone unit first. -/
structure ZoneStart (s a t : State) (u : PosUpdate) : Prop where
  now : (sortTable a).claimsNow u = true
  orderly : Orderly a
  zmap : a.zone.zmap = s.zone.zmap
  table : a.zone.table = s.zone.table
  tagCtr : a.zone.tagCtr = s.zone.tagCtr
  lim : a.lim = s.lim
  lap : a.P = s.P
  front : a.guide.est.front = t.guide.est.front
  path : a.guide.path = s.guide.path
  mstate : a.mstate = s.mstate
  f10 : a.faultActive .f10 = s.faultActive .f10
  link : a.zone.link = s.zone.link
  after : t.zone.table = (claimed u a).zone.table ∧ t.zone.mailbox = (claimed u a).zone.mailbox

theorem zoneStart {g : GuideSample} {s a t : State} (enters : Enters (update g s) (guided g s) a t)
    (quiet : Quiet (guided g s) a) (ready : s.isReady = true) (calm : Calm s g) (known : Known s)
    (moving : s.mstate = .hold ∨ s.mstate = .run ∨ s.mstate = .stopping) (orderly : Orderly s) :
    ZoneStart s a t (update g s) := by
  obtain ⟨config, path, zone, faults⟩ := guided_same g s
  have long := enters.zone.zone
  rw [zone] at long
  have path' : a.guide.path = s.guide.path := enters.sees.path.trans path
  refine ⟨claimsNow_calm ready calm known moving quiet, ?_, by rw [long], by rw [long], by rw [long], ?_, ?_, ?_,
    path', ?_, ?_, by rw [long], by rw [enters.zone_eq]; exact ⟨rfl, rfl⟩⟩
  · obtain ⟨nodup, few, link, empty⟩ := orderly
    exact ⟨by rw [long]; exact nodup, by rw [long]; exact few, by rw [long]; exact link, by rw [long]; exact empty⟩
  · rw [State.lim, quiet.config, config, State.lim]
  · rw [State.P, path', State.P]
  · exact ((zoneUpdate_sees _ a).trans enters.after).front.symm
  · exact quiet.mstate.trans (congrArg (fun m => m.record.state) (guided_calm calm))
  · rw [State.faultActive, State.faultRec_congr quiet.fault, faults _ (by decide), State.faultActive]

section Start

variable {s a t : State} {u : PosUpdate} {x : SegAt}

theorem ZoneStart.frontZone (h : ZoneStart s a t u)
    (under : segmentAt s.guide.path t.guide.est.front = some x) : a.frontZone = some x.seg.zone := by
  rw [State.frontZone, State.frontSeg, h.path, h.front, under]
  rfl

/-- A zone is left behind, in the words of the state before the sample and its front after it. -/
theorem ZoneStart.leftBehind (h : ZoneStart s a t u) (nodup : (s.zone.zmap.map (·.zone)).Nodup)
    (under : segmentAt s.guide.path t.guide.est.front = some x) (z : Nat) :
    LeftBehind a z ↔ z ≠ x.seg.zone ∧ ∃ i ∈ s.zone.zmap, i.zone = z ∧
      0 < signedDist s.P i.exit (((t.guide.est.front : Int) - s.lim.vehicleLength) % s.P) := by
  have lap : 0 < a.P := by rw [h.lap]; exact lapLength_pos under
  rw [leftBehind_iff (by rw [h.zmap]; exact nodup) (h.frontZone under) lap, h.zmap, h.lap, h.front, h.lim]

theorem ZoneStart.outcome (h : ZoneStart s a t u) (under : segmentAt s.guide.path t.guide.est.front = some x)
    {r : Reservation} (mem : r ∈ s.zone.table) : Outcome a t r := by
  obtain ⟨table, mail⟩ := h.after
  exact (claimed_outcome h.now h.orderly (h.frontZone under) (by rw [h.table]; exact mem)).of_zone table mail

/-- With no zone left behind: the front's zone is claimed, and the first zone ahead (R71). -/
theorem ZoneStart.claims (h : ZoneStart s a t u) (under : segmentAt s.guide.path t.guide.est.front = some x)
    (moving : s.mstate = .hold ∨ s.mstate = .run ∨ s.mstate = .stopping)
    (nodup : (s.zone.zmap.map (·.zone)).Nodup)
    (quiet : s.faultActive .f10 = true ∨ s.zone.link ≠ .lost ∧ ∀ r ∈ s.zone.table, r.failed = false)
    (stays : ∀ r ∈ s.zone.table, ¬ LeftBehind a r.zone) {first second : List Nat}
    (first_eq : first =
      if s.mstate ≠ .stopping ∧ (s.entryOf x.seg.zone).isNone = true ∧ s.zone.table.length < 4 then [x.seg.zone]
      else [])
    (second_eq : second =
      claimsFound (signedDist s.P t.guide.est.front) s.lim.claimDistance (s.zone.table.length + first.length)
        ((zonesAhead s.zone.zmap x.seg.zone).find? fun z => (s.entryOf z.zone).isNone)) :
    (t.zone.table.map (·.zone)).Perm (s.zone.table.map (·.zone) ++ first ++ second) ∧
      ∀ y ∈ t.zone.table, y.zone ∈ first ++ second →
        y = freshClaim y.zone
            (if y.zone ∈ first then s.zone.tagCtr else s.zone.tagCtr + BitVec.ofNat 8 first.length)
            s.lim.claimTimer ∧
          ⟨some y.zone, .claim y.zone y.tag⟩ ∈ t.zone.mailbox := by
  obtain ⟨b, c, keeps, zone, mstate, front, ahead⟩ :=
    claimed_claims h.now h.orderly (h.frontZone under) (by rw [h.table]; exact stays)
      (by rw [h.f10, h.link, h.table]; exact quiet)
  have perm : b.zone.table.Perm s.zone.table := by
    rw [zone, ← h.table]
    exact sortTable_perm a
  have lim : b.lim = s.lim := keeps.sees.lim.trans h.lim
  have limAhead : c.lim = s.lim := front.keeps.sees.lim.trans lim
  have zmap : c.zone.zmap = s.zone.zmap := (front.keeps.zmap.trans keeps.zmap).trans h.zmap
  have tag : b.zone.tagCtr = s.zone.tagCtr := by rw [zone, ← h.tagCtr]; rfl
  have dist : c.fromFront = signedDist s.P t.guide.est.front := funext fun i => by
    rw [front.keeps.sees.fromFront, keeps.sees.fromFront, State.fromFront, h.lap, h.front]
  have firsts : first = frontClaims x.seg.zone b :=
    first_eq.trans (frontClaims_eq perm (mstate.trans h.mstate) moving _).symm
  have seconds : second = aheadClaims x.seg.zone c := by
    rw [second_eq, aheadClaims_eq perm nodup zmap front limAhead, firsts, dist]
  obtain ⟨table, mail⟩ := h.after
  obtain ⟨zones, entries⟩ := claims_told front ahead
  rw [← table] at zones entries
  rw [← mail, tag, lim, ← firsts, ← seconds] at entries
  rw [← firsts, ← seconds] at zones
  exact ⟨zones.trans (((perm.map _).append_right _).append_right _), entries⟩

end Start

/-- A sample with movement forward, between two known positions and without a marker, is tested for zone
violation; one without movement forward is not (R84). -/
theorem update_crosses {g : GuideSample} {s : State} (none_ : g.marker = none) :
    (update g s).crosses =
      (s.guide.est.posState.known && (guided g s).guide.est.posState.known && decide (0 < moved s)) := by
  obtain ⟨same, -⟩ := guided_noMarker none_ s
  have accepted : (update g s).accepted = none := congrArg Prod.snd same
  rw [PosUpdate.crosses, accepted, Option.map_none, Option.getD_none, Int.add_zero]
  rfl

end Sys2Proof.Claims

namespace Sys2Proof.Claims

open Sys2Proof.Machine

/-- Settles O45: in every order the zone unit's part of the sample stands on its own; with it first and the
vehicle not stopped, the releases and the claims are followed entry by entry. -/
theorem guideSampleClaimsAndReleasesZones : Obligations.GuideSampleClaimsAndReleasesZones := by
  intro s g order ready
  obtain ⟨a, enters, quiet⟩ := guideSample_enters g order s
  obtain ⟨config, path, zone, faults⟩ := guided_same g s
  have front : (handOn order (update g s) (guided g s)).guide.est.front = (update g s).frontAfter :=
    enters.whole.front
  have known : (handOn order (update g s) (guided g s)).guide.est.posState = (guided g s).guide.est.posState := by
    rcases (handOn_keeps order (u := update g s) rfl (guided g s)).guide with same | same <;> rw [same]
  have crosses := fun none_ => update_crosses (g := g) (s := s) none_
  have f09 : (guided g s).faultRec .f09 = s.faultRec .f09 := faults _ (by decide)
  have lap : (handOn order (update g s) (guided g s)).P = s.P := by
    rw [enters.whole.lap, State.P, path, State.P]
  have isReady : s.isReady = true := decide_eq_true ready
  refine ⟨_, exec_guideSample ready g order, ?_⟩
  generalize handOn order (update g s) (guided g s) = t at *
  have comes : ∀ z, ComesOver (update g s) t z ↔
      0 < signedDist s.P s.guide.est.front z.entry ∧ signedDist s.P t.guide.est.front z.entry ≤ 0 ∧
        t.zoneHeld z.zone = false := fun z => by
    rw [ComesOver, lap, ← front]
    rfl
  refine ⟨enters.pathOrder, fun x under => ?_, fun none_ back => ?_, fun none_ forth before after under => ?_,
    fun first calm before moving f10 nodup few link empty distinct x under => ?_⟩
  · have hold := enters.hold (by rw [State.isReady, config]; exact isReady) (by rw [path]; exact under)
    rw [zone, State.lim, config, State.P, path] at hold
    exact hold
  · refine (enters.noViolation ?_).trans f09
    rw [crosses none_, decide_eq_false (by omega), Bool.and_false]
  · have both : (update g s).crosses = true := by
      rw [crosses none_, known_iff.1 before, ← known, known_iff.1 after, decide_eq_true forth]
      rfl
    obtain ⟨raised, kept⟩ := enters.violations both (by rw [path]; exact under)
    simp only [comes, zone, violationRecord, f09] at raised kept
    refine ⟨fun entered => ?_, kept⟩
    obtain ⟨named, held⟩ := raised entered
    exact ⟨named, held⟩
  · have start := zoneStart enters (quiet first) isReady calm before moving ⟨nodup, few, link, empty⟩
    have left := start.leftBehind distinct under
    refine ⟨fun r mem => ?_, fun stays => ?_⟩
    · obtain ⟨kept, back, leaves⟩ := start.outcome under mem
      rw [left] at kept back leaves
      refine ⟨kept, fun gone returns => ?_, leaves⟩
      obtain ⟨tag, entry, frame⟩ := back gone returns
      rw [start.lim] at entry
      exact ⟨_, entry, rfl, frame⟩
    · refine start.claims under moving distinct f10 (fun r mem gone => stays r mem ((left _).1 gone)) rfl ?_
      cases (zonesAhead s.zone.zmap x.seg.zone).find? fun z => (s.entryOf z.zone).isNone <;> rfl

end Sys2Proof.Claims
